-- ==== Sys2Proof/Word.lean ====
section
/-! DEFINITION. The word types of the Rentak 2160: the bytes and two-byte quantities that travel on its two serial
lines (11, Frame and Record Formats). Everything the part computes with is held as Nat or Int (Introduction: "arithmetic
in the part is integer arithmetic"); only what the manual treats as bits, or lets wrap, is a bit vector. -/

namespace Sys2Proof

/-- One byte of the panel port or of the span line. -/
abbrev Byte := BitVec 8

/-- A two-byte quantity of a frame; also a wheel count, which wraps from 65535 to 0. -/
abbrev U16 := BitVec 16

/-- A CRC-32 check value (R181). -/
abbrev U32 := BitVec 32

end Sys2Proof
end

