-- ==== Sys2Proof/Syntax.lean ====
section
/-! DEFINITION. The commands of the part: one constructor of `Instr` per row of spec/opcode_table.json, with the
operands the spec gives that row: for a request, the fields of its payload (11.4), as the bytes of the frame carry them;
for a receiver event, the bytes that arrive; for an input, its new level; for a timer, nothing. -/

namespace Sys2Proof

/-- One sector entry of a SET_SECTORS part: start angle, end angle and value word (11.4). -/
structure SectorEntry where
  start : U16
  finish : U16
  value : U16
  deriving DecidableEq, Repr, Inhabited

/-- The order in which the run controller (R), the sector table (S) and the watch unit (W) take one valid sample. The
spec leaves it open and gives the outcome of each (R94, R118); the command that delivers the sample says which it was. -/
inductive SampleOrder where
  | rsw | rws | srw | swr | wrs | wsr
  deriving DecidableEq, Repr, Inhabited

/-- The commands, in the order of spec/opcode_table.json. -/
inductive Instr where
  /-- CONFIG_MACHINE: presence word, then one value per set bit in ascending bit order. -/
  | configMachine (presence : U16) (values : List U16)
  /-- CONFIG_TOWER: tower number, presence word, values as for CONFIG_MACHINE. -/
  | configTower (tower : Byte) (presence : U16) (values : List U16)
  /-- READ_TOWER: tower number, 0 for the machine record. -/
  | readTower (tower : Byte)
  /-- START_PASS: direction, pace, presence (bit 0 stop angle, bit 1 circle target), stop angle, circle target. -/
  | startPass (direction : Byte) (pace : U16) (presence : Byte) (stopAngle : U16) (circles : Byte)
  /-- SET_PACE: pace. -/
  | setPace (pace : U16)
  /-- STOP_PASS. -/
  | stopPass
  /-- HOLD. -/
  | hold
  /-- RESUME. -/
  | resume
  /-- REVERSE. -/
  | reverse
  /-- TRIP_RESET. -/
  | tripReset
  /-- READ_MACHINE. -/
  | readMachine
  /-- SET_SECTORS: marks (bit 0 first, bit 1 last) and the entries of this part. -/
  | setSectors (marks : Byte) (entries : List SectorEntry)
  /-- READ_SECTORS: table choice (0 installed, 1 pending) and first sector number. -/
  | readSectors (choice : Byte) (first : Byte)
  /-- SET_WATCH: entry number and the entry's whole set of configured fields. -/
  | setWatch (entry enabled : Byte) (ref halfWidth : U16) (direction crossing mstate action : Byte) (arg : U16) (rept : Byte)
  /-- READ_WATCHES. -/
  | readWatches
  /-- SET_AUX: output number and mode. -/
  | setAux (output mode : Byte)
  /-- SET_FAULT_MODE: fault kind and mode. -/
  | setFaultMode (kind mode : Byte)
  /-- FAULT_LIST: first position. -/
  | faultList (first : Byte)
  /-- FAULT_CLEAR: selection (0 all, 1 kind, 2 kind and tower), kind, tower. -/
  | faultClear (selection kind tower : Byte)
  /-- STORE_CONFIG: presence (bit 0 policy, bit 1 delay, bit 2 tolerance), policy, delay, tolerance. -/
  | storeConfig (presence policy : Byte) (delay tolerance : U16)
  /-- RESET_DEVICE. -/
  | resetDevice
  /-- SET_NOTICE_PRIORITY: kind code and priority. -/
  | setNoticePriority (kind priority : Byte)
  /-- SET_NOTICE_MASK: mask level. -/
  | setNoticeMask (level : Byte)
  /-- NOTICE_FETCH. -/
  | noticeFetch
  /-- PANEL_SLEEP. -/
  | panelSleep
  /-- PANEL_AWAKE. -/
  | panelAwake
  /-- SET_WAKE_FILTER: slot, use mark (0 clears), kind (0 any), subject (0xFF any), minimum priority. -/
  | setWakeFilter (slot useMark kind subject minPriority : Byte)
  /-- READ_PORT. -/
  | readPort
  /-- UNKNOWN_REQUEST_TYPE: a request frame whose type the catalogue does not name, with its payload. -/
  | unknownRequestType (type : Byte) (payload : List Byte)
  /-- PANEL_FRAME_COMPLETE: the bytes that arrive on the panel receive line, the last of them ending a frame. -/
  | panelFrameComplete (bytes : List Byte)
  /-- PANEL_FRAME_GAP: the byte that ends a gap of more than 10 ms inside a panel frame. -/
  | panelFrameGap (byte : Byte)
  /-- REPLY_SENT. -/
  | replySent
  /-- NOTICE_FRAME_SENT. -/
  | noticeFrameSent
  /-- PANEL_SILENCE_EXPIRY. -/
  | panelSilenceExpiry
  /-- DRIVE_INTERVAL_EXPIRY. -/
  | driveIntervalExpiry
  /-- SLOT_END. -/
  | slotEnd
  /-- SPAN_FRAME_SENT. -/
  | spanFrameSent
  /-- REPLY_WINDOW_EXPIRY. -/
  | replyWindowExpiry
  /-- REPORT_RECEIVED: the bytes that arrive on the span line, the last of them ending a REPORT. -/
  | reportReceived (bytes : List Byte)
  /-- SPAN_FRAME_GAP: the byte that ends a gap of more than 1 ms inside a span frame. -/
  | spanFrameGap (byte : Byte)
  /-- STALL_TIMER_EXPIRY: the tower whose stall timer expires. -/
  | stallTimerExpiry (tower : Nat)
  /-- QUIET_TIMER_EXPIRY. -/
  | quietTimerExpiry
  /-- SURVEY_TIMER_EXPIRY. -/
  | surveyTimerExpiry
  /-- SAMPLE_TIMER_EXPIRY. -/
  | sampleTimerExpiry
  /-- ENCODER_READ_COMPLETE: position word, error indication, and the order the blocks take a valid sample in. -/
  | encoderReadComplete (position : Nat) (error : Bool) (order : SampleOrder)
  /-- ENCODER_READ_TIMEOUT. -/
  | encoderReadTimeout
  /-- PRESTART_TIMER_EXPIRY. -/
  | prestartTimerExpiry
  /-- START_FAIL_TIMER_EXPIRY. -/
  | startFailTimerExpiry
  /-- STOP_TIMER_EXPIRY. -/
  | stopTimerExpiry
  /-- CHAIN_SENSE_CHANGE: the level the safety-chain sense input changes to. -/
  | chainSenseChange (closed : Bool)
  /-- POWER_FAIL_ASSERT. -/
  | powerFailAssert
  /-- POWER_FAIL_DEASSERT. -/
  | powerFailDeassert
  /-- RECOVERY_TIMER_EXPIRY. -/
  | recoveryTimerExpiry
  /-- POWER_ON_RESET: whether the retained run record's own check passes when it is read (R175). -/
  | powerOnReset (recordCheck : Bool)
  /-- DEVICE_RESET. -/
  | deviceReset
  /-- SUPPLY_LOSS. -/
  | supplyLoss
  /-- STORE_WRITE_COMPLETE: whether the verify matched. -/
  | storeWriteComplete (verified : Bool)
  /-- PANEL_FRAME_LENGTH_ABOVE_120: the length byte that follows the start byte. -/
  | panelFrameLengthAbove120 (length : Byte)
  /-- SPAN_FRAME_KIND_NOT_REPORT: the kind byte that follows the start byte and an address. -/
  | spanFrameKindNotReport (kind : Byte)
  deriving DecidableEq, Repr, Inhabited

end Sys2Proof
end

