-- ==== Sys2Proof/Machine/Types.lean ====
section
/-! DEFINITION. The plain data of the part's ten blocks: the names the manual writes in capitals as inductive types, and
the records its blocks hold as structures. Nothing here computes. -/

namespace Sys2Proof.Machine

/-! ### Names shared by several blocks -/

/-- The direction of a pass, of an order set, of a DRIVE frame or of a sample. -/
inductive Direction where
  | forward | reverse
  deriving DecidableEq, Repr, Inhabited

/-- The nine machine states (5.1). -/
inductive MState where
  | unconfigured | stopped | prestart | running | stopping | held | tripped | powerWait | recovering
  deriving DecidableEq, Repr, Inhabited

/-- The STOPPING destination (R82). -/
inductive Destination where
  | stopped | held | reversing
  deriving DecidableEq, Repr, Inhabited

/-- The reason data of PASS_END; the stop reason of R82 is one of the first five. -/
inductive PassEnd where
  | stopAngle | circles | barrier | watch | panel | faultTrip
  deriving DecidableEq, Repr, Inhabited

/-- The prestart origin (R82). -/
inductive Origin where
  | new | resume | reversal | recovery
  deriving DecidableEq, Repr, Inhabited

/-- The thirteen fault kinds, in the order of their codes (R135, 11.5). -/
inductive FaultKind where
  | jointWarn | slip | stall | linkMiss | drift | panelSilent
  | jointTrip | linkLost | driveFault | chainOpen | stopTimeout | barrierOverrun | angleInvalid
  deriving DecidableEq, Repr, Inhabited

/-- The fault modes. -/
inductive FaultMode where
  | immediate | deferred | hard
  deriving DecidableEq, Repr, Inhabited

/-- A timer of the part that is running: its length, and the clock reading at which it started, both in milliseconds.
A stopped timer is `none`. Its elapsed time is the clock less `startedAt`. -/
structure Timer where
  length : Nat
  startedAt : Nat
  deriving DecidableEq, Repr, Inhabited

/-! ### Tower table -/

/-- The fields of the machine record, in the bit order of CONFIG_MACHINE's presence word (R2, 11.4). -/
inductive MachineField where
  | towerCount | driveInterval | missLimit | stragglerAngle | stopRamp | prestartTime | stopTimeout
  | quietDelay | surveyInterval | creepPace | panelSilence | driftAngle
  deriving DecidableEq, Repr, Inhabited

/-- The configuration fields of a tower record, in the bit order of CONFIG_TOWER's presence word (R4, 11.4). -/
inductive TowerField where
  | radius | ratedSpeed | wheelScale | minRun | maxOrder | gain | deadband | ramp | jointWarn | jointTrip
  | warnPersistence | slipLimit | slipWindow | slipPersistence | stallTime | driftLimit
  deriving DecidableEq, Repr, Inhabited

/-- The machine record (R2); `none` is unset. -/
structure MachineRecord where
  towerCount : Option Nat
  driveInterval : Option Nat
  missLimit : Option Nat
  stragglerAngle : Option Nat
  stopRamp : Option Nat
  prestartTime : Option Nat
  stopTimeout : Option Nat
  quietDelay : Option Nat
  surveyInterval : Option Nat
  creepPace : Option Nat
  panelSilence : Option Nat
  driftAngle : Option Nat
  deriving DecidableEq, Repr, Inhabited

/-- The configuration of one tower record (R4); `none` is unset. -/
structure TowerConfig where
  radius : Option Nat
  ratedSpeed : Option Nat
  wheelScale : Option Nat
  minRun : Option Nat
  maxOrder : Option Nat
  gain : Option Nat
  deadband : Option Nat
  ramp : Option Nat
  jointWarn : Option Nat
  jointTrip : Option Nat
  warnPersistence : Option Nat
  slipLimit : Option Nat
  slipWindow : Option Nat
  slipPersistence : Option Nat
  stallTime : Option Nat
  driftLimit : Option Nat
  deriving DecidableEq, Repr, Inhabited

/-- Which field of which record a pending or written value belongs to (R11). -/
inductive FieldKey where
  | machine (f : MachineField)
  | tower (k : Nat) (f : TowerField)
  deriving DecidableEq, Repr, Inhabited

/-- A field and the value to be written into it; pending tuning is a list of these (R11). -/
abbrev FieldWrite := FieldKey × Nat

/-- The drive state a REPORT gives (R6). -/
inductive DriveState where
  | stopped | running | waking | resting | fault
  deriving DecidableEq, Repr, Inhabited

/-- A tower's link state (R73). -/
inductive LinkState where
  | absent | online | missing | lost
  deriving DecidableEq, Repr, Inhabited

/-- A tower's status (R70). -/
inductive TowerStatus where
  | absent | resting | waking | ready | driving | driveFault
  deriving DecidableEq, Repr, Inhabited

/-- The report record of a tower (R6); `takenAt` is the clock reading at the taking. -/
structure Report where
  driveState : DriveState
  executing : Nat
  joint : Option Int
  wheel : U16
  switchClosed : Bool
  supplyOk : Bool
  takenAt : Nat
  deriving DecidableEq, Repr, Inhabited

/-- A tower's stall timer (R32): idle, or running with its start wheel count and the clock reading it runs from. -/
inductive StallTimer where
  | idle
  | running (startCount : U16) (since : Nat)
  deriving DecidableEq, Repr, Inhabited

/-- The dynamic fields of a tower record (R5). -/
structure TowerDynamic where
  report : Option Report
  link : LinkState
  misses : Nat
  status : TowerStatus
  lastOrder : Nat
  lastDirection : Direction
  slip : Nat
  slipFrozen : Bool
  warnCount : Nat
  haltWheel : Option U16
  stall : StallTimer
  deriving DecidableEq, Repr, Inhabited

/-- A tower record: its configuration (R4) and its dynamic fields (R5). -/
structure TowerRecord where
  cfg : TowerConfig
  dyn : TowerDynamic
  deriving DecidableEq, Repr, Inhabited

/-! ### Angle unit -/

/-- An open slip window (R25): its accumulated travel T and its start wheel count. A closed window is `none`. -/
structure SlipWindow where
  travel : Nat
  startCount : U16
  deriving DecidableEq, Repr, Inhabited

/-! ### Span line master -/

/-- The line mode (R61). -/
inductive LineMode where
  | active | quiet
  deriving DecidableEq, Repr, Inhabited

/-- What the frame of a slot is: a DRIVE or SURVEY frame to a tower, or the REST broadcast (R60, R76). R60's sentence has
the part send four kinds of frame, and its table gives three sent and one received: the model follows the table
(assumption log 28). -/
inductive SlotKind where
  | drive | survey | rest
  deriving DecidableEq, Repr, Inhabited

/-- The phase of a slot (R61): its frame is being sent, its reply window is open, or it waits for its 15 ms to end. -/
inductive SlotPhase where
  | sending | window | waiting
  deriving DecidableEq, Repr, Inhabited

/-- The slot in progress (R61, R63): its kind, its tower (0 for REST), its phase, what its frame carries, the clock
readings at which the slot began and its window opened, and whether its tower has left the machine meanwhile (R13). -/
structure Slot where
  kind : SlotKind
  tower : Nat
  phase : SlotPhase
  interval : Byte
  direction : Direction
  order : Nat
  hold : Nat
  startedAt : Nat
  windowAt : Nat
  left : Bool
  deriving DecidableEq, Repr, Inhabited

/-! ### Run controller -/

/-- The pass record (R85). -/
structure Pass where
  direction : Direction
  pace : Nat
  stopAngle : Option Nat
  circles : Option Nat
  travel : Int
  origin : Nat
  deriving DecidableEq, Repr, Inhabited

/-! ### Sector table -/

/-- The action of a barrier (R107). -/
inductive BarrierAction where
  | stop | reverse
  deriving DecidableEq, Repr, Inhabited

/-- An approach mark (R107). -/
inductive ApproachMark where
  | armed | fired
  deriving DecidableEq, Repr, Inhabited

/-- What a sector carries besides its angles, by its kind (R107). -/
inductive SectorBody where
  | cap (pace : Nat)
  | barrier (margin : Nat) (action : BarrierAction) (lead trail : ApproachMark)
  deriving DecidableEq, Repr, Inhabited

/-- A sector (R107). -/
structure Sector where
  start : Nat
  finish : Nat
  body : SectorBody
  deriving DecidableEq, Repr, Inhabited

/-! ### Watch unit -/

/-- A direction selector (R119). -/
inductive DirSelector where
  | none | forward | reverse | both
  deriving DecidableEq, Repr, Inhabited

/-- A crossing selector (R119). -/
inductive CrossSelector where
  | none | enter | leave | both
  deriving DecidableEq, Repr, Inhabited

/-- A state selector (R119). -/
inductive StateSelector where
  | none | running | moving | any
  deriving DecidableEq, Repr, Inhabited

/-- A watch action with its argument (R119). -/
inductive WatchAction where
  | notice | auxOn (n : Nat) | auxOff (n : Nat) | stop | reverse | pace (v : Nat)
  deriving DecidableEq, Repr, Inhabited

/-- A crossing of a window (R123). -/
inductive Crossing where
  | enter | leave
  deriving DecidableEq, Repr, Inhabited

/-- The outcome of a watch action (R127). -/
inductive WatchOutcome where
  | taken | refused
  deriving DecidableEq, Repr, Inhabited

/-- The configured fields of a watch entry (R119). -/
structure WatchConfig where
  enabled : Bool
  ref : Nat
  halfWidth : Nat
  direction : DirSelector
  crossing : CrossSelector
  mstate : StateSelector
  action : WatchAction
  once : Bool
  deriving DecidableEq, Repr, Inhabited

/-- A watch entry: its configured fields, its spent mark and its fire count (R119). -/
structure Watch where
  cfg : WatchConfig
  spent : Bool
  fires : Nat
  deriving DecidableEq, Repr, Inhabited

/-- The mode of an auxiliary output (R129). -/
inductive AuxMode where
  | auto | forcedOn | forcedOff
  deriving DecidableEq, Repr, Inhabited

/-- An auxiliary output: its mode and its watch level (R129). -/
structure Aux where
  mode : AuxMode
  level : Bool
  deriving DecidableEq, Repr, Inhabited

/-! ### Fault list -/

/-- The condition of a fault record (R133). -/
inductive Condition where
  | active | latched
  deriving DecidableEq, Repr, Inhabited

/-- A fault record (R133); `tower` is `none` for a fault of the machine as a whole. -/
structure FaultRecord where
  kind : FaultKind
  tower : Option Nat
  mode : FaultMode
  condition : Condition
  firstAngle : Nat
  lastAngle : Nat
  count : Nat
  deriving DecidableEq, Repr, Inhabited

/-- The mode table: for each deferrable kind, set when its mode is DEFERRED (R134). -/
structure ModeTable where
  jointWarn : Bool
  slip : Bool
  stall : Bool
  linkMiss : Bool
  drift : Bool
  panelSilent : Bool
  deriving DecidableEq, Repr, Inhabited

/-- The outcome a FAULT notice carries (R138). -/
inductive FaultOutcome where
  | new | repeated | notRecorded
  deriving DecidableEq, Repr, Inhabited

/-! ### Panel port -/

/-- A complete panel frame with a correct check value: its type and its payload (11.3). -/
structure PanelFrame where
  type : Byte
  payload : List Byte
  deriving DecidableEq, Repr, Inhabited

/-- The nine notice kinds, in the order of their kind codes (R159). -/
inductive NoticeKind where
  | state | passEnd | fault | watchFired | startFailed | quiet | recovery | restarted | configInvalid
  deriving DecidableEq, Repr, Inhabited

/-- The subject of a notice (R159). -/
inductive Subject where
  | machine | tower (k : Nat) | watch (n : Nat)
  deriving DecidableEq, Repr, Inhabited

/-- The reason a recovery is refused for (R174, R177, R179; codes of 11.5). -/
inductive RecoveryReason where
  | policy | config | angle | tower | chain | fault
  deriving DecidableEq, Repr, Inhabited

/-- The data of a RECOVERY notice. -/
inductive RecoveryData where
  | pending | resumed | refused (r : RecoveryReason)
  deriving DecidableEq, Repr, Inhabited

/-- The data of a notice, by its kind (R159, R138, R127, 11.3). -/
inductive NoticeData where
  | state (m : MState) (dest : Option Destination)
  | passEnd (r : PassEnd)
  | fault (kind : FaultKind) (mode : FaultMode) (count : Nat) (outcome : FaultOutcome)
      (displaced : Option (FaultKind × Option Nat))
  | watchFired (crossing : Crossing) (direction : Direction) (outcome : WatchOutcome)
  | startFailed (m : MState)
  | quiet (left : Bool)
  | recovery (d : RecoveryData)
  | restarted (device : Bool)
  | configInvalid
  deriving DecidableEq, Repr, Inhabited

/-- A notice entry (R159). `sending` is `some n` while its frame is being sent, `n` being its arrivals in flight. -/
structure Notice where
  subject : Subject
  data : NoticeData
  count : Nat
  sending : Option Nat
  deriving DecidableEq, Repr, Inhabited

/-- What a notice frame, or a NOTICE_FETCH reply, carries of an entry (R162, 11.3). -/
structure NoticeFrame where
  subject : Subject
  data : NoticeData
  count : Nat
  lost : Bool
  deriving DecidableEq, Repr, Inhabited

/-- A wake filter (R165); `none` is any kind, any subject. Subjects are compared by number. -/
structure WakeFilter where
  kind : Option NoticeKind
  subject : Option Nat
  minPriority : Nat
  deriving DecidableEq, Repr, Inhabited

/-- A request of the catalogue with the fields of its payload, or what the type and length checks of R156 refuse. -/
inductive Request where
  | configMachine (presence : U16) (values : List U16)
  | configTower (tower : Byte) (presence : U16) (values : List U16)
  | readTower (tower : Byte)
  | startPass (direction : Byte) (pace : U16) (presence : Byte) (stopAngle : U16) (circles : Byte)
  | setPace (pace : U16)
  | stopPass
  | hold
  | resume
  | reverse
  | tripReset
  | readMachine
  | setSectors (marks : Byte) (entries : List SectorEntry)
  | readSectors (choice : Byte) (first : Byte)
  | setWatch (entry enabled : Byte) (ref halfWidth : U16) (direction crossing mstate action : Byte) (arg : U16) (rept : Byte)
  | readWatches
  | setAux (output mode : Byte)
  | setFaultMode (kind mode : Byte)
  | faultList (first : Byte)
  | faultClear (selection kind tower : Byte)
  | storeConfig (presence policy : Byte) (delay tolerance : U16)
  | resetDevice
  | setNoticePriority (kind priority : Byte)
  | setNoticeMask (level : Byte)
  | noticeFetch
  | panelSleep
  | panelAwake
  | setWakeFilter (slot useMark kind subject minPriority : Byte)
  | readPort
  /-- A type that names no request of the catalogue. -/
  | unknown (type : Byte)
  /-- A type of the catalogue with a payload length that does not fit it. -/
  | badLength (type : Byte)
  deriving DecidableEq, Repr, Inhabited

/-- The reply status codes (11.5). -/
inductive Status where
  | ok | badType | badLength | badValue | wrongState | blocked | unconfigured | storeFailed
  deriving DecidableEq, Repr, Inhabited

/-- The blocking reasons (11.5); BARRIER carries the sector number (R116). -/
inductive BlockReason where
  | chainOpen | angleInvalid | fault | barrier (sector : Nat)
  deriving DecidableEq, Repr, Inhabited

/-- The recovery policy (R171). -/
inductive RecoveryPolicy where
  | stayStopped | resumeHeld | resume
  deriving DecidableEq, Repr, Inhabited

/-- The three recovery settings (R171): policy, delay in seconds, angle tolerance in centidegrees. -/
structure RecoverySettings where
  policy : RecoveryPolicy
  delay : Nat
  tolerance : Nat
  deriving DecidableEq, Repr, Inhabited

/-! ### What replies carry -/

/-- READ_TOWER's answer for a tower (R18): its configuration and dynamic record with pending values in place, whether any
is pending, whether it lies in 1..N, its report age in units of 100 ms (R19) and its stall timer's elapsed seconds. -/
structure TowerView where
  cfg : TowerConfig
  pending : Bool
  within : Bool
  link : LinkState
  misses : Nat
  status : TowerStatus
  report : Option (Report × Nat)
  lastOrder : Nat
  lastDirection : Direction
  slip : Nat
  slipFrozen : Bool
  warnCount : Nat
  haltWheel : Option U16
  stall : Option Nat
  deriving DecidableEq, Repr, Inhabited

/-- READ_MACHINE's answer (R106). Each timer is `none` when stopped, else its elapsed whole seconds. -/
structure MachineView where
  mstate : MState
  dest : Option Destination
  reason : Option PassEnd
  origin : Option Origin
  complete : Bool
  pass : Option Pass
  tripKind : Option FaultKind
  angle : Nat
  angleValid : Bool
  pEff : Nat
  mode : LineMode
  contactor : Bool
  warning : Bool
  aux : List Bool
  chainClosed : Bool
  prestartTimer : Option Nat
  startFailTimer : Option Nat
  stopTimer : Option Nat
  recoveryTimer : Option Nat
  deriving DecidableEq, Repr, Inhabited

/-- READ_SECTORS' answer (R117): each returned sector with its number. -/
structure SectorsView where
  installed : Nat
  pending : Option Nat
  build : Option Nat
  cap : Nat
  containing : Option Nat
  sectors : List (Nat × Sector)
  deriving DecidableEq, Repr, Inhabited

/-- READ_PORT's answer (R168). -/
structure PortView where
  priorities : List Nat
  mask : Nat
  filters : List (Option WakeFilter)
  asleep : Bool
  wakeLine : Bool
  queued : Nat
  eligible : Nat
  lost : Bool
  silence : Option Nat
  deriving DecidableEq, Repr, Inhabited

/-- What a reply of status OK carries after its header, by the rule of its request. -/
inductive ReplyBody where
  | none
  | pace (p : Nat)
  | machineRecord (fields : MachineRecord) (pending complete : Bool)
  | tower (v : TowerView)
  | machine (v : MachineView)
  | sectorCount (n : Nat)
  | sectors (v : SectorsView)
  | watches (entries : List Watch) (aux : List (AuxMode × Bool × Bool))
  | faults (held : Nat) (modes : ModeTable) (records : List FaultRecord)
  | cleared (removed left : Nat)
  | stored (settings : RecoverySettings) (check : U32)
  | fetched (notice : Option NoticeFrame) (lost : Bool)
  | port (v : PortView)
  deriving DecidableEq, Repr, Inhabited

/-- A reply: the request type it answers, its status, its blocking reason, and what follows the header (11.3). -/
structure Reply where
  type : Byte
  status : Status
  reason : Option BlockReason
  body : ReplyBody
  deriving DecidableEq, Repr, Inhabited

/-- The request in service: its type, and its reply when ready (R153). -/
structure Service where
  type : Byte
  reply : Option Reply
  deriving DecidableEq, Repr, Inhabited

/-- The transmit side (R153): idle, sending a reply with its OVERRUN flag, or sending a notice frame. -/
inductive Transmit where
  | idle
  | reply (r : Reply) (overrun : Bool)
  | notice (f : NoticeFrame)
  deriving DecidableEq, Repr, Inhabited

/-! ### Configuration store -/

/-- The configuration image (R170). -/
structure ConfigImage where
  machine : MachineRecord
  towers : Vector TowerConfig 16
  sectors : List Sector
  watches : Vector WatchConfig 8
  modes : ModeTable
  priorities : Vector Nat 9
  filters : Vector (Option WakeFilter) 4
  recovery : RecoverySettings
  deriving DecidableEq, Repr

/-- The stored copy in non-volatile memory (R170 to R173, R181): an image followed by the four bytes of its check value, or a
copy of which no rule gives more than that its check fails at the next load (nothing stored, a write cut short, or a check
value overwritten after a failed verify with one that cannot match). -/
inductive StoredCopy where
  | written (image : ConfigImage) (check : List Byte)
  | failing
  deriving DecidableEq, Repr

/-- The class at loss of the retained run record (R175). -/
inductive LossClass where
  | moving | held | tripped | other
  deriving DecidableEq, Repr, Inhabited

/-- The retained run record (R175); `captured` is the captured angle with its validity mark. -/
structure RetainedRecord where
  valid : Bool
  cls : LossClass
  pass : Option Pass
  tripKind : Option FaultKind
  captured : Option (Nat × Bool)
  deriving DecidableEq, Repr, Inhabited

end Sys2Proof.Machine
end

