-- ==== Sys2Proof/Config.lean ====
section
/-! DEFINITION. What an implementation of the part fixes and the manual does not state: constants without a body, so that no
proof can rest on a value of theirs. -/

namespace Sys2Proof.Config

/-- The bytes of the configuration image in the order stored. R181 has the CRC-32 cover "every byte of the image in the
order stored" and no rule states that layout, so it is free (assumption log 6). -/
opaque imageBytes : Machine.ConfigImage → List Byte

/-- The limit that a report's joint angle is compared with while the tower's joint warn or joint trip is unset. R141 and
R142 compare with the field's value, and no rule states one for a tower that is polled before it is configured, so it is free
(assumption log 29). -/
opaque unsetLimit (tower : Nat) (field : Machine.TowerField) : Nat

/-- The bytes of a reply's content after its four-byte header, for the replies whose layout chapter 11 does not set out:
"the content of each other reply is given by the rule of its request" (assumption log 7). -/
opaque bodyBytes : Machine.ReplyBody → List Byte

end Sys2Proof.Config
end

