-- ==== Sys2Proof/Decode.lean ====
section
/-! DEFINITION. The frames of chapter 11 read and written: byte order, check values (R181), the requests' payloads (11.4,
R183), the two receivers byte by byte (R154, R182), and the fixed name `decodeTableWord` of the host. -/

namespace Sys2Proof

/-! ### Byte order (chapter 11: "a multi-byte quantity travels least significant byte first") -/

/-- The two-byte quantity of a low byte and a high byte. -/
def u16 (lo hi : Byte) : U16 := hi ++ lo

/-- The low byte of a two-byte quantity. -/
def loByte (w : U16) : Byte := w.extractLsb' 0 8

/-- The high byte of a two-byte quantity. -/
def hiByte (w : U16) : Byte := w.extractLsb' 8 8

/-- A two-byte quantity as it travels. -/
def u16Bytes (w : U16) : List Byte := [loByte w, hiByte w]

/-- A number as the two bytes of a two-byte unsigned value. -/
def natBytes (n : Nat) : List Byte := u16Bytes (BitVec.ofNat 16 n)

/-- A list of bytes read as two-byte quantities; `none` for an odd number of bytes. -/
def pairs : List Byte → Option (List U16)
  | [] => some []
  | [_] => none
  | lo :: hi :: rest => (pairs rest).map (u16 lo hi :: ·)

/-! ### Check values (R181) -/

/-- One bit of the CRC-16: polynomial 0x1021, most significant bit first. -/
def crc16Bit (c : U16) : U16 := if c.msb then (c <<< 1) ^^^ 0x1021 else c <<< 1

/-- The CRC-16 carried over one byte. -/
def crc16Byte (c : U16) (b : Byte) : U16 := Nat.iterate crc16Bit 8 (c ^^^ (b ++ (0 : Byte)))

/-- The CRC-16 of a frame's bytes: initial value 0xFFFF, no reflection, no final inversion (R181). -/
def crc16 (bs : List Byte) : U16 := bs.foldl crc16Byte 0xFFFF

/-- One bit of the CRC-32 in its reflected form: 0xEDB88320 is 0x04C11DB7 read from the other end. -/
def crc32Bit (c : U32) : U32 := if c.getLsbD 0 then (c >>> 1) ^^^ 0xEDB88320 else c >>> 1

/-- The CRC-32 carried over one byte. -/
def crc32Byte (c : U32) (b : Byte) : U32 := Nat.iterate crc32Bit 8 (c ^^^ b.setWidth 32)

/-- The CRC-32 of the configuration image: initial value 0xFFFFFFFF, reflected, inverted at the end (R181). -/
def crc32 (bs : List Byte) : U32 := ~~~ (bs.foldl crc32Byte 0xFFFFFFFF)

/-- A CRC-32 check value as it is stored after the image, low byte first (R181). -/
def u32Bytes (c : U32) : List Byte := (List.range 4).map fun i => c.extractLsb' (8 * i) 8

/-- A frame's bytes followed by their check value, low byte first (R181). -/
def withCrc (bs : List Byte) : List Byte := bs ++ u16Bytes (crc16 bs)

/-! ### Requests and their payloads (11.4) -/

open Machine (PanelFrame Request)

/-- The number of set bits of a presence word: the number of values that follow it (11.4). -/
def bitsSet (w : U16) : Nat := ((List.range 16).filter (w.getLsbD ·)).length

/-- The payload of a sector entry (11.4). -/
def entryBytes (e : SectorEntry) : List Byte := u16Bytes e.start ++ u16Bytes e.finish ++ u16Bytes e.value

/-- The sector entries of a SET_SECTORS payload after its marks byte; `none` when they do not fill whole entries. -/
def entriesOf : List Byte → Option (List SectorEntry)
  | [] => some []
  | a :: b :: c :: d :: e :: f :: rest => (entriesOf rest).map (⟨u16 a b, u16 c d, u16 e f⟩ :: ·)
  | _ => none

/-- The request a complete frame carries: the type check and the length check of R156, with the payload lengths of 11.4
(R183). -/
def parseRequest (f : PanelFrame) : Request :=
  let bad : Request := .badLength f.type
  match f.type.toNat with
  | 0x01 => match f.payload with
    | p0 :: p1 :: rest => match pairs rest with
      | some vs => if vs.length = bitsSet (u16 p0 p1) then .configMachine (u16 p0 p1) vs else bad
      | none => bad
    | _ => bad
  | 0x02 => match f.payload with
    | k :: p0 :: p1 :: rest => match pairs rest with
      | some vs => if vs.length = bitsSet (u16 p0 p1) then .configTower k (u16 p0 p1) vs else bad
      | none => bad
    | _ => bad
  | 0x03 => match f.payload with | [k] => .readTower k | _ => bad
  | 0x10 => match f.payload with
    | [d, p0, p1, pr, s0, s1, c] => .startPass d (u16 p0 p1) pr (u16 s0 s1) c
    | _ => bad
  | 0x11 => match f.payload with | [p0, p1] => .setPace (u16 p0 p1) | _ => bad
  | 0x12 => match f.payload with | [] => .stopPass | _ => bad
  | 0x13 => match f.payload with | [] => .hold | _ => bad
  | 0x14 => match f.payload with | [] => .resume | _ => bad
  | 0x15 => match f.payload with | [] => .reverse | _ => bad
  | 0x16 => match f.payload with | [] => .tripReset | _ => bad
  | 0x17 => match f.payload with | [] => .readMachine | _ => bad
  | 0x20 => match f.payload with
    | m :: rest => match entriesOf rest with
      | some es => if es.length ≤ 19 then .setSectors m es else bad
      | none => bad
    | _ => bad
  | 0x21 => match f.payload with | [c, n] => .readSectors c n | _ => bad
  | 0x28 => match f.payload with
    | [n, en, r0, r1, h0, h1, d, c, st, a, g0, g1, rp] => .setWatch n en (u16 r0 r1) (u16 h0 h1) d c st a (u16 g0 g1) rp
    | _ => bad
  | 0x29 => match f.payload with | [] => .readWatches | _ => bad
  | 0x2A => match f.payload with | [n, m] => .setAux n m | _ => bad
  | 0x30 => match f.payload with | [k, m] => .setFaultMode k m | _ => bad
  | 0x31 => match f.payload with | [p] => .faultList p | _ => bad
  | 0x32 => match f.payload with | [s, k, t] => .faultClear s k t | _ => bad
  | 0x38 => match f.payload with
    | [pr, po, d0, d1, t0, t1] => .storeConfig pr po (u16 d0 d1) (u16 t0 t1)
    | _ => bad
  | 0x39 => match f.payload with | [] => .resetDevice | _ => bad
  | 0x40 => match f.payload with | [k, p] => .setNoticePriority k p | _ => bad
  | 0x41 => match f.payload with | [l] => .setNoticeMask l | _ => bad
  | 0x42 => match f.payload with | [] => .noticeFetch | _ => bad
  | 0x48 => match f.payload with | [] => .panelSleep | _ => bad
  | 0x49 => match f.payload with | [] => .panelAwake | _ => bad
  | 0x4A => match f.payload with | [s, u, k, sub, p] => .setWakeFilter s u k sub p | _ => bad
  | 0x4B => match f.payload with | [] => .readPort | _ => bad
  | _ => .unknown f.type

/-- The frame that carries a request (11.4). A request that the type or length check refuses stands for many frames; the
one given here carries its type and, for a length that does not fit, a payload one byte longer than any of its form. -/
def frameOf : Request → PanelFrame
  | .configMachine p vs => ⟨0x01, u16Bytes p ++ vs.flatMap u16Bytes⟩
  | .configTower k p vs => ⟨0x02, k :: u16Bytes p ++ vs.flatMap u16Bytes⟩
  | .readTower k => ⟨0x03, [k]⟩
  | .startPass d p pr s c => ⟨0x10, d :: u16Bytes p ++ pr :: u16Bytes s ++ [c]⟩
  | .setPace p => ⟨0x11, u16Bytes p⟩
  | .stopPass => ⟨0x12, []⟩
  | .hold => ⟨0x13, []⟩
  | .resume => ⟨0x14, []⟩
  | .reverse => ⟨0x15, []⟩
  | .tripReset => ⟨0x16, []⟩
  | .readMachine => ⟨0x17, []⟩
  | .setSectors m es => ⟨0x20, m :: es.flatMap entryBytes⟩
  | .readSectors c n => ⟨0x21, [c, n]⟩
  | .setWatch n en r h d c st a g rp => ⟨0x28, n :: en :: u16Bytes r ++ u16Bytes h ++ d :: c :: st :: a :: u16Bytes g ++ [rp]⟩
  | .readWatches => ⟨0x29, []⟩
  | .setAux n m => ⟨0x2A, [n, m]⟩
  | .setFaultMode k m => ⟨0x30, [k, m]⟩
  | .faultList p => ⟨0x31, [p]⟩
  | .faultClear s k t => ⟨0x32, [s, k, t]⟩
  | .storeConfig pr po d t => ⟨0x38, pr :: po :: u16Bytes d ++ u16Bytes t⟩
  | .resetDevice => ⟨0x39, []⟩
  | .setNoticePriority k p => ⟨0x40, [k, p]⟩
  | .setNoticeMask l => ⟨0x41, [l]⟩
  | .noticeFetch => ⟨0x42, []⟩
  | .panelSleep => ⟨0x48, []⟩
  | .panelAwake => ⟨0x49, []⟩
  | .setWakeFilter s u k sub p => ⟨0x4A, [s, u, k, sub, p]⟩
  | .readPort => ⟨0x4B, []⟩
  | .unknown t => ⟨t, []⟩
  | .badLength t => ⟨t, List.replicate 120 0⟩

/-! ### The panel receiver (R154) -/

/-- The start byte of a panel frame (11.3). -/
def panelStart : Byte := 0xA5

/-- The receiver's bytes so far, an empty list while hunting, after one more byte, with the frame's bytes when that byte
ends a frame: hunting discards every byte but the start byte; a length above 120 discards the frame; the frame ends with
its last check byte, 5 bytes more than its length (R154, 11.3). -/
def panelRxByte (acc : List Byte) (b : Byte) : List Byte × Option (List Byte) :=
  match acc with
  | [] => (if b = panelStart then [b] else [], none)
  | [s] => (if b.toNat ≤ 120 then [s, b] else [], none)
  | s :: len :: rest =>
    let acc' := s :: len :: rest ++ [b]
    if acc'.length = len.toNat + 5 then ([], some acc') else (acc', none)

/-- The frame a completed run of bytes is, if its check value matches its preceding bytes (R154, R181). -/
def panelFrameOf (bs : List Byte) : Option PanelFrame :=
  match bs with
  | _ :: _ :: ty :: _ =>
    let n := bs.length
    if bs.drop (n - 2) = u16Bytes (crc16 (bs.take (n - 2))) then some ⟨ty, (bs.drop 3).take (n - 5)⟩ else none
  | _ => none

/-- The bytes of a panel frame as it travels (11.3). -/
def panelFrameBytes (f : PanelFrame) : List Byte :=
  withCrc (panelStart :: BitVec.ofNat 8 f.payload.length :: f.type :: f.payload)

/-! ### The span receiver (R182) -/

/-- The start byte of a span frame (11.2). -/
def spanStart : Byte := 0x5A

/-- The kind of a REPORT frame (11.2). -/
def reportKind : Byte := 0x81

/-- The span receiver's bytes so far after one more byte, with the frame's bytes when that byte ends a REPORT: a kind other
than 0x81 is not assembled, and a REPORT is 14 bytes (R182, 11.2). -/
def spanRxByte (acc : List Byte) (b : Byte) : List Byte × Option (List Byte) :=
  match acc with
  | [] => (if b = spanStart then [b] else [], none)
  | [s] => ([s, b], none)
  | [s, a] => (if b = reportKind then [s, a, b] else [], none)
  | _ =>
    let acc' := acc ++ [b]
    if acc'.length = 14 then ([], some acc') else (acc', none)

/-- What a REPORT frame carries (R60, 11.2): address, interval echo, drive state code, executing order, joint angle word,
wheel count and status byte. -/
structure ReportFrame where
  address : Byte
  echo : Byte
  driveState : Byte
  executing : U16
  joint : U16
  wheel : U16
  status : Byte
  deriving DecidableEq, Repr, Inhabited

/-- The bytes of a REPORT frame before its check value. -/
def ReportFrame.body (r : ReportFrame) : List Byte :=
  [spanStart, r.address, reportKind, r.echo, r.driveState] ++ u16Bytes r.executing ++ u16Bytes r.joint ++ u16Bytes r.wheel
    ++ [r.status]

/-- The bytes of a REPORT frame as it travels. -/
def ReportFrame.bytes (r : ReportFrame) : List Byte := withCrc r.body

/-- The drive state a code of 11.5 names, if it names one. -/
def driveStateOf (b : Byte) : Option Machine.DriveState :=
  match b.toNat with
  | 0 => some .stopped
  | 1 => some .running
  | 2 => some .waking
  | 3 => some .resting
  | 4 => some .fault
  | _ => none

/-- The REPORT a completed run of bytes is, if its check value is right and its drive state code names a drive state (R60,
R182). -/
def reportFrameOf (bs : List Byte) : Option ReportFrame :=
  match bs with
  | [_, a, _, e, d, x0, x1, j0, j1, w0, w1, st, c0, c1] =>
    if u16 c0 c1 = crc16 (bs.take 12) ∧ (driveStateOf d).isSome then
      some ⟨a, e, d, u16 x0 x1, u16 j0 j1, u16 w0 w1, st⟩
    else none
  | _ => none

/-! ### The host's word decoder -/

/-- The command a word spells by the bits of spec/opcode_table.json: the table gives no row any bits, so no word spells a
command (assumption log 3). -/
def decodeTableWord (_nbits _w : Nat) : Option Instr := none

end Sys2Proof
end

