-- ==== Sys2Proof/WellFormed.lean ====
section
/-! DEFINITION. Which commands are of the form their row describes. A command that is not still has a meaning (the receiver
or the length check deals with it as the spec says); these checks say which terms stand for the row's own event. -/

namespace Sys2Proof

/-- The request types of the catalogue (11.4). -/
def catalogue : List Nat :=
  [0x01, 0x02, 0x03, 0x10, 0x11, 0x12, 0x13, 0x14, 0x15, 0x16, 0x17, 0x20, 0x21, 0x28, 0x29, 0x2A, 0x30, 0x31, 0x32,
   0x38, 0x39, 0x40, 0x41, 0x42, 0x48, 0x49, 0x4A, 0x4B]

/-- Some bytes that make up one whole panel frame from its start byte to its last check byte (11.3). -/
def wholePanelFrame (bs : List Byte) : Bool :=
  match bs with
  | s :: len :: _ => s == panelStart && len.toNat ≤ 120 && bs.length == len.toNat + 5
  | _ => false

/-- Some bytes that make up one whole REPORT frame (11.2). -/
def wholeReport (bs : List Byte) : Bool :=
  match bs with
  | s :: _ :: k :: _ => s == spanStart && k == reportKind && bs.length == 14
  | _ => false

/-- The command has the form its row of the table describes. -/
def WellFormed : Instr → Bool
  | .configMachine p vs => vs.length == bitsSet p
  | .configTower _ p vs => vs.length == bitsSet p
  | .setSectors _ es => es.length ≤ 19
  | .unknownRequestType t pl => !catalogue.contains t.toNat && pl.length ≤ 120
  | .panelFrameComplete bs => wholePanelFrame bs
  | .reportReceived bs => wholeReport bs
  | .stallTimerExpiry k => 1 ≤ k && k ≤ 16
  | .panelFrameLengthAbove120 n => 120 < n.toNat
  | .spanFrameKindNotReport k => k != reportKind
  | _ => true

/-- The request has the form its frame can carry: one value for each presence bit (11.4), at most 19 sector entries, and a
type outside or inside the catalogue for what the type and the length check refuse. -/
def Machine.Request.fits : Machine.Request → Bool
  | .configMachine p vs => vs.length == bitsSet p
  | .configTower _ p vs => vs.length == bitsSet p
  | .setSectors _ es => es.length ≤ 19
  | .unknown t => !catalogue.contains t.toNat
  | .badLength t => catalogue.contains t.toNat
  | _ => true

/-- The frame whose arrival a request command is; the other commands are no requests. -/
def Instr.frame : Instr → Option Machine.PanelFrame
  | .configMachine p vs => some (frameOf (.configMachine p vs))
  | .configTower k p vs => some (frameOf (.configTower k p vs))
  | .readTower k => some (frameOf (.readTower k))
  | .startPass d p pr sa c => some (frameOf (.startPass d p pr sa c))
  | .setPace p => some (frameOf (.setPace p))
  | .stopPass => some (frameOf .stopPass)
  | .hold => some (frameOf .hold)
  | .resume => some (frameOf .resume)
  | .reverse => some (frameOf .reverse)
  | .tripReset => some (frameOf .tripReset)
  | .readMachine => some (frameOf .readMachine)
  | .setSectors m es => some (frameOf (.setSectors m es))
  | .readSectors c n => some (frameOf (.readSectors c n))
  | .setWatch n en r h d c st a g rp => some (frameOf (.setWatch n en r h d c st a g rp))
  | .readWatches => some (frameOf .readWatches)
  | .setAux n m => some (frameOf (.setAux n m))
  | .setFaultMode k m => some (frameOf (.setFaultMode k m))
  | .faultList p => some (frameOf (.faultList p))
  | .faultClear sel k t => some (frameOf (.faultClear sel k t))
  | .storeConfig pr po d t => some (frameOf (.storeConfig pr po d t))
  | .resetDevice => some (frameOf .resetDevice)
  | .setNoticePriority k p => some (frameOf (.setNoticePriority k p))
  | .setNoticeMask l => some (frameOf (.setNoticeMask l))
  | .noticeFetch => some (frameOf .noticeFetch)
  | .panelSleep => some (frameOf .panelSleep)
  | .panelAwake => some (frameOf .panelAwake)
  | .setWakeFilter n u k sub p => some (frameOf (.setWakeFilter n u k sub p))
  | .readPort => some (frameOf .readPort)
  | .unknownRequestType ty pl => some ⟨ty, pl⟩
  | .panelFrameComplete _ | .panelFrameGap _ | .replySent | .noticeFrameSent | .panelSilenceExpiry | .driveIntervalExpiry
  | .slotEnd | .spanFrameSent | .replyWindowExpiry | .reportReceived _ | .spanFrameGap _ | .stallTimerExpiry _
  | .quietTimerExpiry | .surveyTimerExpiry | .sampleTimerExpiry | .encoderReadComplete .. | .encoderReadTimeout
  | .prestartTimerExpiry | .startFailTimerExpiry | .stopTimerExpiry | .chainSenseChange _ | .powerFailAssert
  | .powerFailDeassert | .recoveryTimerExpiry | .powerOnReset _ | .deviceReset | .supplyLoss | .storeWriteComplete _
  | .panelFrameLengthAbove120 _ | .spanFrameKindNotReport _ => none

end Sys2Proof
end

