-- ==== Sys2Proof/Machine/State.lean ====
section
/-! DEFINITION. The state of the part, block by block as the manual gives it, its reset value, and the reasons a step can
stop. Everything is plain data. Fields marked MODEL'S OWN belong to the model and not to the manual. -/

namespace Sys2Proof.Machine

/-- The discrete inputs as the part reads them (connection summary): the safety-chain sense input reads closed, and the
power-fail input is asserted. -/
structure Inputs where
  chainClosed : Bool
  powerFail : Bool
  deriving DecidableEq, Repr, Inhabited

/-- The tower table (R2, R4, R5, R11). -/
structure TowerTable where
  machine : MachineRecord
  towers : Vector TowerRecord 16
  pending : List FieldWrite
  deriving DecidableEq, Repr

/-- The angle unit (R20, R21, R25, R36). `reading` stands from the sample timer's expiry, at which a read begins, until the
sample of that read is taken (R20). -/
structure AngleUnit where
  sampleTimer : Timer
  reading : Bool
  held : Nat
  heldValid : Bool
  previous : Option Nat
  invalidRun : Bool
  windows : Vector (Option SlipWindow) 16
  overLimit : Vector Nat 16
  haltAngle : Option Nat
  deriving DecidableEq, Repr

/-- The order engine (R37). -/
structure OrderEngine where
  timer : Option Timer
  interval : Byte
  direction : Direction
  pEff : Nat
  deriving DecidableEq, Repr, Inhabited

/-- The span line master (R61), with its receiver's bytes so far (R182; empty while hunting, as it is after a reset:
assumption log 4). `restDue` stands while a REST
is to follow the slot in progress at the entry to QUIET (R76). -/
structure SpanMaster where
  mode : LineMode
  slot : Option Slot
  restDue : Bool
  setInterval : Option Byte
  lastLine : Vector (Option Nat) 16
  quietTimer : Option Timer
  surveyTimer : Option Timer
  rx : List Byte
  deriving DecidableEq, Repr

/-- The run controller (R82). -/
structure RunController where
  mstate : MState
  dest : Option Destination
  reason : Option PassEnd
  origin : Option Origin
  pass : Option Pass
  tripKind : Option FaultKind
  prestartTimer : Option Timer
  startFailTimer : Option Timer
  stopTimer : Option Timer
  recoveryTimer : Option Timer
  contactor : Bool
  warning : Bool
  deriving DecidableEq, Repr, Inhabited

/-- The sector table (R108). -/
structure SectorTable where
  installed : List Sector
  pending : Option (List Sector)
  build : Option (List Sector)
  cap : Nat
  containing : Option Nat
  deriving DecidableEq, Repr, Inhabited

/-- The watch unit (R119, R129). -/
structure WatchUnit where
  entries : Vector Watch 8
  aux : Vector Aux 4
  deriving DecidableEq, Repr

/-- The fault list (R134). -/
structure FaultList where
  records : List FaultRecord
  modes : ModeTable
  tripMarks : Vector Bool 16
  deriving DecidableEq, Repr

/-- The panel port (R153). The receiver's bytes so far are empty while it hunts. -/
structure PanelPort where
  rx : List Byte
  intake : List PanelFrame
  service : Option Service
  overrun : Bool
  tx : Transmit
  notices : List Notice
  lost : Bool
  priorities : Vector Nat 9
  mask : Nat
  asleep : Bool
  filters : Vector (Option WakeFilter) 4
  wakeLine : Bool
  silenceTimer : Option Timer
  deriving DecidableEq, Repr

/-- The configuration store (R170 to R175): the stored copy, the image of a write in progress, the recovery settings held
and the retained run record. -/
structure ConfigStore where
  stored : StoredCopy
  writing : Option ConfigImage
  settings : RecoverySettings
  record : RetainedRecord
  deriving DecidableEq, Repr

/-- The whole part. -/
@[ext]
structure State where
  /-- MODEL'S OWN: the commands that wait, first in, first out. -/
  pending : List Instr
  /-- MODEL'S OWN: the part's time in milliseconds, which every timer and report age is reckoned by (assumption log 1). -/
  clock : Nat
  /-- MODEL'S OWN: the part has supply. Without it, it stands where it stopped (R173) until a power-on reset. -/
  powered : Bool
  inputs : Inputs
  table : TowerTable
  angle : AngleUnit
  engine : OrderEngine
  span : SpanMaster
  run : RunController
  sectors : SectorTable
  watch : WatchUnit
  faults : FaultList
  panel : PanelPort
  store : ConfigStore
  deriving DecidableEq, Repr

/-- The reasons the machine stops with a fault: there are none. Everything the manual calls a fault is a record of the
fault list, and the part goes on. -/
inductive Fault where
  deriving DecidableEq, Repr

/-- The reasons a command is refused. -/
inductive Refusal where
  /-- Raised by an arm of `exec` whose command has no meaning yet. Safe: nothing is claimed of it. No arm raises it. -/
  | notModelled (mnemonic : String)
  deriving DecidableEq, Repr

/-! ### The values of an empty configuration and of reset -/

/-- The machine record of an empty configuration (R2). -/
def MachineRecord.empty : MachineRecord where
  towerCount := none
  driveInterval := some 500
  missLimit := some 3
  stragglerAngle := some 400
  stopRamp := some 200
  prestartTime := some 10
  stopTimeout := some 30
  quietDelay := some 300
  surveyInterval := some 900
  creepPace := some 250
  panelSilence := none
  driftAngle := none

/-- A tower's configuration in an empty configuration (R4). -/
def TowerConfig.empty : TowerConfig where
  radius := none
  ratedSpeed := none
  wheelScale := none
  minRun := none
  maxOrder := none
  gain := some 150
  deadband := some 20
  ramp := some 100
  jointWarn := none
  jointTrip := none
  warnPersistence := some 2
  slipLimit := some 150
  slipWindow := some 50
  slipPersistence := some 3
  stallTime := some 45
  driftLimit := none

/-- The reset values of the dynamic fields (R5). -/
def TowerDynamic.reset : TowerDynamic where
  report := none
  link := .absent
  misses := 0
  status := .absent
  lastOrder := 0
  lastDirection := .forward
  slip := 0
  slipFrozen := false
  warnCount := 0
  haltWheel := none
  stall := .idle

/-- A watch entry of an empty configuration (R119). -/
def WatchConfig.empty : WatchConfig where
  enabled := false
  ref := 0
  halfWidth := 0
  direction := .none
  crossing := .none
  mstate := .none
  action := .notice
  once := true

/-- The default mode table (R134): IMMEDIATE for each kind but PANEL_SILENT. -/
def ModeTable.default : ModeTable where
  jointWarn := false
  slip := false
  stall := false
  linkMiss := false
  drift := false
  panelSilent := true

/-- The default notice priorities by kind code (R159). -/
def defaultPriorities : Vector Nat 9 := #v[4, 8, 10, 5, 8, 2, 9, 12, 12]

/-- The recovery settings of an empty configuration (R171). -/
def RecoverySettings.empty : RecoverySettings := ⟨.stayStopped, 30, 100⟩

/-- The configuration a part holds when the check value of its image fails (R174). -/
def ConfigImage.empty : ConfigImage where
  machine := .empty
  towers := Vector.replicate 16 .empty
  sectors := []
  watches := Vector.replicate 8 .empty
  modes := .default
  priorities := defaultPriorities
  filters := Vector.replicate 4 none
  recovery := .empty

/-- A retained run record whose marker is invalid. -/
def RetainedRecord.invalid : RetainedRecord := ⟨false, .other, none, none, none⟩

/-- The part right after a power-on reset that finds nothing stored: the image's check fails, so every block takes its empty
configuration, the machine is UNCONFIGURED, and RESTARTED (power-on) and CONFIG_INVALID stand in the notice queue, the first
of them already being sent, since the transmit side is idle (R153, R158, R174). The stored copy, the retained record, the
input levels and the span receiver's hunting are the model's choice (assumption log 4). -/
def State.reset : State where
  pending := []
  clock := 0
  powered := true
  inputs := ⟨true, false⟩
  table := ⟨.empty, Vector.replicate 16 ⟨.empty, .reset⟩, []⟩
  angle := ⟨⟨100, 0⟩, false, 0, false, none, false, Vector.replicate 16 none, Vector.replicate 16 0, none⟩
  engine := ⟨none, 0, .forward, 0⟩
  span := ⟨.active, none, false, none, Vector.replicate 16 none, none, none, []⟩
  run := ⟨.unconfigured, none, none, none, none, none, none, none, none, none, false, false⟩
  sectors := ⟨[], none, none, 1000, none⟩
  watch := ⟨Vector.replicate 8 ⟨.empty, false, 0⟩, Vector.replicate 4 ⟨.auto, false⟩⟩
  faults := ⟨[], .default, Vector.replicate 16 false⟩
  panel := { rx := [], intake := [], service := none, overrun := false,
             tx := .notice ⟨.machine, .restarted false, 1, false⟩,
             notices := [⟨.machine, .restarted false, 1, some 0⟩, ⟨.machine, .configInvalid, 1, none⟩],
             lost := false, priorities := defaultPriorities, mask := 0, asleep := false,
             filters := Vector.replicate 4 none, wakeLine := false, silenceTimer := none }
  store := ⟨.failing, none, .empty, .invalid⟩

end Sys2Proof.Machine
end

