-- ==== Sys2Proof/Machine/Operands.lean ====
section
/-! DEFINITION. What the commands are computed with: numbered banks, integer arithmetic and angles (Introduction, Units and
number conventions), the fields of the configuration with their ranges and classes (R2, R4), and the codes of 11.5. -/

namespace Sys2Proof.Machine

/-! ### Numbered banks: towers 1..16, watches 1..8, outputs and filter slots 1..4, kind codes 1..9 -/

/-- Entry `k` of a bank numbered from 1, or `d` where the bank has no such number. -/
def nth {α : Type} {n : Nat} (v : Vector α n) (k : Nat) (d : α) : α :=
  if h : 1 ≤ k ∧ k ≤ n then v[k - 1]'(by omega) else d

/-- A bank with entry `k` replaced; the bank itself where it has no such number. -/
def setNth {α : Type} {n : Nat} (v : Vector α n) (k : Nat) (a : α) : Vector α n :=
  if h : 1 ≤ k ∧ k ≤ n then v.set (k - 1) a (by omega) else v

/-- The numbers 1 to n in ascending order. -/
def upTo (n : Nat) : List Nat := (List.range n).map (· + 1)

/-! ### Integer arithmetic -/

/-- The nearest integer to a / b, the larger of two equally near (Introduction, "round half up"). -/
def roundHalfUp (a b : Nat) : Nat := (2 * a + b) / (2 * b)

/-- a / b rounded up. -/
def ceilDiv (a b : Nat) : Nat := (a + b - 1) / b

/-- A value raised to `lo` if below it and lowered to `hi` if above it (Introduction). -/
def clampNat (lo hi v : Nat) : Nat := min hi (max lo v)

/-- A signed value clamped into lo..hi. -/
def clampInt (lo hi v : Int) : Int := min hi (max lo v)

/-- A pace as applied: clamped into 0..1000 (R86). -/
def clampPace (v : Nat) : Nat := min 1000 v

/-- A count increased by 1, stopping at 255. -/
def bump255 (n : Nat) : Nat := min 255 (n + 1)

/-! ### Angles -/

/-- The angle difference d(a, b), in −17999..18000 (Introduction, Units). -/
def angleDiff (a b : Nat) : Int :=
  let x := (b : Int) - (a : Int)
  if 18000 < x then x - 36000 else if x ≤ -18000 then x + 36000 else x

/-- (a − b) mod 36000, the forward arc from b to a. -/
def arc (b a : Nat) : Nat := (((a : Int) - (b : Int)) % 36000).toNat

/-- The angle x lies on the arc swept from p by a sample of difference Δ, counting its end and not its start (R92, R123). -/
def swept (p : Nat) (delta : Int) (x : Nat) : Bool :=
  if 0 < delta then decide (1 ≤ arc p x ∧ (arc p x : Int) ≤ delta)
  else if delta < 0 then decide (1 ≤ arc x p ∧ (arc x p : Int) ≤ -delta)
  else false

/-- The other direction. -/
def Direction.flip : Direction → Direction
  | .forward => .reverse
  | .reverse => .forward

/-- A signed quantity as it counts in a direction: itself FORWARD, its negation REVERSE (R24, R45). -/
def signed (d : Direction) (x : Int) : Int :=
  match d with
  | .forward => x
  | .reverse => -x

/-- The number of counts from wheel count a to wheel count b, modulo 65536 (R27, R35). -/
def wheelTravel (a b : U16) : Nat := (b - a).toNat

/-! ### Configuration fields (R2, R4) -/

/-- The machine record's fields in presence-bit order (11.4). -/
def machineFields : List MachineField :=
  [.towerCount, .driveInterval, .missLimit, .stragglerAngle, .stopRamp, .prestartTime, .stopTimeout, .quietDelay,
   .surveyInterval, .creepPace, .panelSilence, .driftAngle]

/-- A tower record's fields in presence-bit order (11.4). -/
def towerFields : List TowerField :=
  [.radius, .ratedSpeed, .wheelScale, .minRun, .maxOrder, .gain, .deadband, .ramp, .jointWarn, .jointTrip,
   .warnPersistence, .slipLimit, .slipWindow, .slipPersistence, .stallTime, .driftLimit]

/-- The value of a machine record field, if set. -/
def MachineRecord.get (r : MachineRecord) : MachineField → Option Nat
  | .towerCount => r.towerCount
  | .driveInterval => r.driveInterval
  | .missLimit => r.missLimit
  | .stragglerAngle => r.stragglerAngle
  | .stopRamp => r.stopRamp
  | .prestartTime => r.prestartTime
  | .stopTimeout => r.stopTimeout
  | .quietDelay => r.quietDelay
  | .surveyInterval => r.surveyInterval
  | .creepPace => r.creepPace
  | .panelSilence => r.panelSilence
  | .driftAngle => r.driftAngle

/-- The machine record with one field given a value. -/
def MachineRecord.put (r : MachineRecord) (f : MachineField) (v : Nat) : MachineRecord :=
  match f with
  | .towerCount => { r with towerCount := some v }
  | .driveInterval => { r with driveInterval := some v }
  | .missLimit => { r with missLimit := some v }
  | .stragglerAngle => { r with stragglerAngle := some v }
  | .stopRamp => { r with stopRamp := some v }
  | .prestartTime => { r with prestartTime := some v }
  | .stopTimeout => { r with stopTimeout := some v }
  | .quietDelay => { r with quietDelay := some v }
  | .surveyInterval => { r with surveyInterval := some v }
  | .creepPace => { r with creepPace := some v }
  | .panelSilence => { r with panelSilence := some v }
  | .driftAngle => { r with driftAngle := some v }

/-- The value of a tower configuration field, if set. -/
def TowerConfig.get (c : TowerConfig) : TowerField → Option Nat
  | .radius => c.radius
  | .ratedSpeed => c.ratedSpeed
  | .wheelScale => c.wheelScale
  | .minRun => c.minRun
  | .maxOrder => c.maxOrder
  | .gain => c.gain
  | .deadband => c.deadband
  | .ramp => c.ramp
  | .jointWarn => c.jointWarn
  | .jointTrip => c.jointTrip
  | .warnPersistence => c.warnPersistence
  | .slipLimit => c.slipLimit
  | .slipWindow => c.slipWindow
  | .slipPersistence => c.slipPersistence
  | .stallTime => c.stallTime
  | .driftLimit => c.driftLimit

/-- A tower configuration with one field given a value. -/
def TowerConfig.put (c : TowerConfig) (f : TowerField) (v : Nat) : TowerConfig :=
  match f with
  | .radius => { c with radius := some v }
  | .ratedSpeed => { c with ratedSpeed := some v }
  | .wheelScale => { c with wheelScale := some v }
  | .minRun => { c with minRun := some v }
  | .maxOrder => { c with maxOrder := some v }
  | .gain => { c with gain := some v }
  | .deadband => { c with deadband := some v }
  | .ramp => { c with ramp := some v }
  | .jointWarn => { c with jointWarn := some v }
  | .jointTrip => { c with jointTrip := some v }
  | .warnPersistence => { c with warnPersistence := some v }
  | .slipLimit => { c with slipLimit := some v }
  | .slipWindow => { c with slipWindow := some v }
  | .slipPersistence => { c with slipPersistence := some v }
  | .stallTime => { c with stallTime := some v }
  | .driftLimit => { c with driftLimit := some v }

/-- The geometry fields of the machine record (R2); the others are tuning fields. -/
def MachineField.geometry : MachineField → Bool
  | .towerCount | .driveInterval | .missLimit => true
  | _ => false

/-- The geometry fields of a tower record (R4); the others are tuning fields. -/
def TowerField.geometry : TowerField → Bool
  | .radius | .ratedSpeed | .wheelScale => true
  | _ => false

/-- The field is a geometry field (R9). -/
def FieldKey.geometry : FieldKey → Bool
  | .machine f => f.geometry
  | .tower _ f => f.geometry

/-- The range of a machine record field (R2). The room the drive interval leaves for a poll round (R3) depends on the
tower count and is a consistency check (R10). -/
def MachineField.inRange (f : MachineField) (v : Nat) : Bool :=
  match f with
  | .towerCount => 2 ≤ v && v ≤ 16
  | .driveInterval => 200 ≤ v && v ≤ 2000 && v % 50 == 0
  | .missLimit => 1 ≤ v && v ≤ 10
  | .stragglerAngle => v == 0 || (30 ≤ v && v ≤ 1500)
  | .stopRamp => 10 ≤ v && v ≤ 1000
  | .prestartTime => v ≤ 60
  | .stopTimeout => 5 ≤ v && v ≤ 120
  | .quietDelay => 10 ≤ v && v ≤ 3600
  | .surveyInterval => 60 ≤ v && v ≤ 3600
  | .creepPace => v ≤ 1000
  | .panelSilence => v == 0 || (2 ≤ v && v ≤ 600)
  | .driftAngle => 10 ≤ v && v ≤ 1000

/-- The range of a tower configuration field (R4). The lower end of the joint trip, "greater than W_k", is the consistency
check "warn below trip" (R10). -/
def TowerField.inRange (f : TowerField) (v : Nat) : Bool :=
  match f with
  | .radius => 50 ≤ v && v ≤ 12000
  | .ratedSpeed => 500 ≤ v && v ≤ 9999
  | .wheelScale => 1 ≤ v && v ≤ 5000
  | .minRun => v ≤ 400
  | .maxOrder => 100 ≤ v && v ≤ 1000
  | .gain => v ≤ 1000
  | .deadband => v ≤ 200
  | .ramp => 10 ≤ v && v ≤ 1000
  | .jointWarn => 50 ≤ v && v ≤ 1500
  | .jointTrip => v ≤ 2500
  | .warnPersistence => 1 ≤ v && v ≤ 20
  | .slipLimit => 20 ≤ v && v ≤ 300
  | .slipWindow => 10 ≤ v && v ≤ 500
  | .slipPersistence => 1 ≤ v && v ≤ 20
  | .stallTime => 5 ≤ v && v ≤ 300
  | .driftLimit => 1 ≤ v && v ≤ 1000

/-- A written value lies in its field's range (R9, check 3). -/
def inRange : FieldWrite → Bool
  | (.machine f, v) => f.inRange v
  | (.tower _ f, v) => f.inRange v

/-- The fields a presence word marks, in ascending bit order, each with its value; the values of bits that name no field
are passed over (11.4, R183). -/
def presentFields {α : Type} (fields : List α) (presence : U16) (values : List U16) : List (α × Nat) :=
  go fields 0 values
where
  /-- The fields from presence bit `i` on, against the values not yet given to a field. -/
  go : List α → Nat → List U16 → List (α × Nat)
    | [], _, _ => []
    | f :: fs, i, vs =>
      if presence.getLsbD i then
        match vs with
        | v :: vs' => (f, v.toNat) :: go fs (i + 1) vs'
        | [] => []
      else go fs (i + 1) vs

/-- A presence word sets a bit that names no field of a record of n fields (R183). -/
def namesNoField (n : Nat) (presence : U16) : Bool := n ≤ 15 && decide (presence.toNat ≥ 2 ^ n)

/-! ### Codes (11.5): a code that names no value of its field is out of range (R183) -/

/-- Direction codes. -/
def directionOf (b : Byte) : Option Direction :=
  match b.toNat with | 0 => some .forward | 1 => some .reverse | _ => none

/-- Fault kind codes. -/
def faultKindOf (b : Byte) : Option FaultKind :=
  match b.toNat with
  | 1 => some .jointWarn | 2 => some .slip | 3 => some .stall | 4 => some .linkMiss | 5 => some .drift
  | 6 => some .panelSilent | 7 => some .jointTrip | 8 => some .linkLost | 9 => some .driveFault | 10 => some .chainOpen
  | 11 => some .stopTimeout | 12 => some .barrierOverrun | 13 => some .angleInvalid | _ => none

/-- Notice kind codes (R159). -/
def noticeKindOf (b : Byte) : Option NoticeKind :=
  match b.toNat with
  | 1 => some .state | 2 => some .passEnd | 3 => some .fault | 4 => some .watchFired | 5 => some .startFailed
  | 6 => some .quiet | 7 => some .recovery | 8 => some .restarted | 9 => some .configInvalid | _ => none

/-- Watch direction selector codes. -/
def dirSelectorOf (b : Byte) : Option DirSelector :=
  match b.toNat with | 0 => some .none | 1 => some .forward | 2 => some .reverse | 3 => some .both | _ => Option.none

/-- Watch crossing selector codes. -/
def crossSelectorOf (b : Byte) : Option CrossSelector :=
  match b.toNat with | 0 => some .none | 1 => some .enter | 2 => some .leave | 3 => some .both | _ => Option.none

/-- Watch state selector codes. -/
def stateSelectorOf (b : Byte) : Option StateSelector :=
  match b.toNat with | 0 => some .none | 1 => some .running | 2 => some .moving | 3 => some .any | _ => Option.none

/-- Watch action codes with their argument: an output number 1..4 for AUX_ON and AUX_OFF, any value for PACE; the other
actions ignore the argument (R120). -/
def watchActionOf (b : Byte) (arg : U16) : Option WatchAction :=
  let n := arg.toNat
  match b.toNat with
  | 0 => some .notice
  | 1 => if 1 ≤ n ∧ n ≤ 4 then some (.auxOn n) else none
  | 2 => if 1 ≤ n ∧ n ≤ 4 then some (.auxOff n) else none
  | 3 => some .stop
  | 4 => some .reverse
  | 5 => some (.pace n)
  | _ => none

/-- Auxiliary mode codes. -/
def auxModeOf (b : Byte) : Option AuxMode :=
  match b.toNat with | 0 => some .auto | 1 => some .forcedOn | 2 => some .forcedOff | _ => none

/-- Recovery policy codes. -/
def policyOf (b : Byte) : Option RecoveryPolicy :=
  match b.toNat with | 0 => some .stayStopped | 1 => some .resumeHeld | 2 => some .resume | _ => none

/-- A byte that is 0 or 1, as a mark; any other names no value (R183). -/
def markOf (b : Byte) : Option Bool :=
  match b.toNat with | 0 => some false | 1 => some true | _ => none

/-- The kind code of a notice kind (R159). -/
def NoticeKind.code : NoticeKind → Nat
  | .state => 1 | .passEnd => 2 | .fault => 3 | .watchFired => 4 | .startFailed => 5 | .quiet => 6 | .recovery => 7
  | .restarted => 8 | .configInvalid => 9

/-- The kind of a notice, which its data tells (R159). -/
def NoticeData.kind : NoticeData → NoticeKind
  | .state .. => .state
  | .passEnd .. => .passEnd
  | .fault .. => .fault
  | .watchFired .. => .watchFired
  | .startFailed .. => .startFailed
  | .quiet .. => .quiet
  | .recovery .. => .recovery
  | .restarted .. => .restarted
  | .configInvalid => .configInvalid

/-- The number a notice frame carries for a subject: 0 for the machine, the tower number or the watch number (11.3). -/
def Subject.number : Subject → Nat
  | .machine => 0
  | .tower k => k
  | .watch n => n

/-- The subject of a FAULT notice: the raising's tower, or the machine when the tower is absent (R138). -/
def faultSubject : Option Nat → Subject
  | some k => .tower k
  | none => .machine

/-! ### Reading the state by number -/

/-- The record of tower k. -/
def State.tower (s : State) (k : Nat) : TowerRecord := nth s.table.towers k ⟨.empty, .reset⟩

/-- The tower count N, 0 while it is unset. -/
def State.towerCount (s : State) : Nat := s.table.machine.towerCount.getD 0

/-- The towers of the machine, 1 to N. -/
def State.members (s : State) : List Nat := upTo s.towerCount

/-- The applied value of a machine record field. -/
def State.mval (s : State) (f : MachineField) : Nat := (s.table.machine.get f).getD 0

/-- The applied value of a configuration field of tower k. -/
def State.tval (s : State) (k : Nat) (f : TowerField) : Nat := ((s.tower k).cfg.get f).getD 0

/-- The dynamic fields of tower k rewritten. -/
def State.setDyn (s : State) (k : Nat) (f : TowerDynamic → TowerDynamic) : State :=
  { s with table := { s.table with towers := setNth s.table.towers k { s.tower k with dyn := f (s.tower k).dyn } } }

end Sys2Proof.Machine
end

