-- ==== Sys2Proof/Machine/Flags.lean ====
section
/-! DEFINITION. What the part derives from its state: output levels, conditions on the towers and on the fault list, timer
readings, and the marks the manual computes from held values. -/

namespace Sys2Proof.Machine

/-! ### Machine state -/

/-- RUNNING or STOPPING, the moving states. -/
def MState.moving : MState → Bool
  | .running | .stopping => true
  | _ => false

/-- The contactor output is energised in PRESTART, RUNNING and STOPPING (R83). -/
def MState.contactor : MState → Bool
  | .prestart | .running | .stopping => true
  | _ => false

/-- The prestart warning output is on in PRESTART (R83). -/
def MState.warning : MState → Bool
  | .prestart => true
  | _ => false

/-- The level of an auxiliary output by its mode, its watch level and the machine state (R129). -/
def auxLevel (m : MState) (a : Aux) : Bool :=
  match a.mode with
  | .forcedOn => true
  | .forcedOff => false
  | .auto => a.level && m.moving

/-- The class at loss of a machine state (R175). -/
def lossClass (m : MState) (dest : Option Destination) : LossClass :=
  match m with
  | .prestart | .running => .moving
  | .stopping => if dest = some .stopped then .other else .moving
  | .held => .held
  | .tripped => .tripped
  | _ => .other

/-! ### Timers -/

/-- A timer started at the state's clock. -/
def State.startTimer (s : State) (length : Nat) : Timer := ⟨length, s.clock⟩

/-- A running timer's elapsed time in milliseconds, at most its length (assumption log 1). -/
def elapsed (clock : Nat) (t : Timer) : Nat := min t.length (clock - t.startedAt)

/-- A timer's elapsed whole seconds, `none` while it is stopped (R106, R168). -/
def elapsedSeconds (clock : Nat) (t : Option Timer) : Option Nat := t.map fun t => elapsed clock t / 1000

/-! ### Configuration -/

/-- Every field of a machine record is set (R2). -/
def MachineRecord.isSet (r : MachineRecord) : Bool := machineFields.all fun f => (r.get f).isSome

/-- Every field of a tower's configuration is set (R4). -/
def TowerConfig.isSet (c : TowerConfig) : Bool := towerFields.all fun f => (c.get f).isSome

/-- The fields of a tower record without a default (R4). -/
def undefaulted : List TowerField :=
  [.radius, .ratedSpeed, .wheelScale, .minRun, .maxOrder, .jointWarn, .jointTrip, .driftLimit]

/-- A tower whose fields without a default are all unset is unconfigured from the start (R4). -/
def TowerConfig.untouched (c : TowerConfig) : Bool := undefaulted.all fun f => (c.get f).isNone

/-- The configuration is complete: the machine record set and every tower 1..N configured (R17). -/
def State.complete (s : State) : Bool :=
  s.table.machine.isSet && s.members.all fun k => (s.tower k).cfg.isSet

/-! ### Towers -/

/-- A tower's status from its link state and its latest report (R70). -/
def towerStatus (link : LinkState) (r : Option Report) : TowerStatus :=
  match link, r with
  | .online, some r | .missing, some r =>
    match r.driveState with
    | .stopped => .ready
    | .running => .driving
    | .waking => .waking
    | .resting => .resting
    | .fault => .driveFault
  | _, _ => .absent

/-- The joint angle the part reads for a tower: 0 without a report or with the angle absent (R6, R45). -/
def jointAngle (r : Option Report) : Int :=
  match r with
  | some r => r.joint.getD 0
  | none => 0

/-- The tower is halted: its latest report shows executing order 0 and drive state STOPPED, or it is ABSENT without a
report (R96). -/
def TowerDynamic.halted (d : TowerDynamic) : Bool :=
  match d.report with
  | some r => r.executing == 0 && r.driveState == .stopped
  | none => d.link == .absent

/-- Every tower 1..N is ONLINE and READY (R76, R89). -/
def State.allReady (s : State) : Bool :=
  s.members.all fun k => (s.tower k).dyn.link == .online && (s.tower k).dyn.status == .ready

/-- Every tower 1..N has last order sent 0. -/
def State.allZero (s : State) : Bool := s.members.all fun k => (s.tower k).dyn.lastOrder == 0

/-- Every tower 1..N has last order sent 0 and is halted (R96). -/
def State.atRest (s : State) : Bool :=
  s.members.all fun k => (s.tower k).dyn.lastOrder == 0 && (s.tower k).dyn.halted

/-- The lowest-numbered tower 1..N whose latest report shows its switch open (R143). -/
def State.openSwitch (s : State) : Option Nat :=
  s.members.find? fun k => match (s.tower k).dyn.report with | some r => !r.switchClosed | none => false

/-! ### Fault list -/

/-- The six kinds whose mode the panel computer chooses (R135). -/
def FaultKind.deferrable : FaultKind → Bool
  | .jointWarn | .slip | .stall | .linkMiss | .drift | .panelSilent => true
  | _ => false

/-- The kinds whose cause clears at the end of the raising itself (R140). -/
def FaultKind.latchesAtOnce : FaultKind → Bool
  | .slip | .drift | .jointTrip | .driveFault | .stopTimeout | .barrierOverrun => true
  | _ => false

/-- The mode of a kind: HARD, or what the mode table holds (R133, R134). -/
def ModeTable.mode (t : ModeTable) (k : FaultKind) : FaultMode :=
  let of (deferred : Bool) : FaultMode := if deferred then .deferred else .immediate
  match k with
  | .jointWarn => of t.jointWarn
  | .slip => of t.slip
  | .stall => of t.stall
  | .linkMiss => of t.linkMiss
  | .drift => of t.drift
  | .panelSilent => of t.panelSilent
  | _ => .hard

/-- The mode table with a deferrable kind made DEFERRED or IMMEDIATE (R147). -/
def ModeTable.put (t : ModeTable) (k : FaultKind) (deferred : Bool) : ModeTable :=
  match k with
  | .jointWarn => { t with jointWarn := deferred }
  | .slip => { t with slip := deferred }
  | .stall => { t with stall := deferred }
  | .linkMiss => { t with linkMiss := deferred }
  | .drift => { t with drift := deferred }
  | .panelSilent => { t with panelSilent := deferred }
  | _ => t

/-- The record of (K, T), if the list holds one (R136). -/
def State.faultRecord (s : State) (k : FaultKind) (t : Option Nat) : Option FaultRecord :=
  s.faults.records.find? fun r => r.kind == k && r.tower == t

/-- The list holds a record of IMMEDIATE or HARD mode, whatever its condition (R87, R102, R179). -/
def State.blockingFault (s : State) : Bool := s.faults.records.any fun r => r.mode != .deferred

/-- The list holds an ACTIVE HARD record (R105). -/
def State.activeHard (s : State) : Bool := s.faults.records.any fun r => r.mode == .hard && r.condition == .active

/-- The fallback of a kind applies to a tower: its record is DEFERRED and ACTIVE (R144). -/
def State.fallback (s : State) (k : FaultKind) (t : Nat) : Bool :=
  match s.faultRecord k (some t) with
  | some r => r.mode == .deferred && r.condition == .active
  | none => false

/-! ### Panel port -/

/-- The priority of a notice kind as it stands (R159). -/
def State.priority (s : State) (k : NoticeKind) : Nat := nth s.panel.priorities k.code 0

/-- An entry is eligible to be sent when its priority is greater than the mask level (R162). -/
def State.eligible (s : State) (n : Notice) : Bool := s.panel.mask < s.priority n.data.kind

/-- Entry a goes before a later-queued entry b unless b has a higher priority, or the same priority and a lower kind code
(R162: at equal kind code the older, which stands first in the queue, goes first). -/
def State.goesBefore (s : State) (a b : Notice) : Bool :=
  let pa := s.priority a.data.kind
  let pb := s.priority b.data.kind
  pb < pa || (pb == pa && a.data.kind.code ≤ b.data.kind.code)

/-- The highest-ordered entry among those a test admits (R162). -/
def State.highest (s : State) (ok : Notice → Bool) : Option Notice :=
  (s.panel.notices.filter ok).foldl (init := none) fun best n =>
    match best with
    | none => some n
    | some b => if s.goesBefore b n then some b else some n

/-- A notice matches a wake filter (R165). -/
def State.matchesFilter (s : State) (data : NoticeData) (subject : Subject) (f : WakeFilter) : Bool :=
  (f.kind == none || f.kind == some data.kind) && (f.subject == none || f.subject == some subject.number) &&
    f.minPriority ≤ s.priority data.kind

/-- A notice matches at least one wake filter; an unused slot matches nothing (R165, R166). -/
def State.wakes (s : State) (data : NoticeData) (subject : Subject) : Bool :=
  s.panel.filters.toList.any fun f => match f with | some f => s.matchesFilter data subject f | none => false

/-! ### Sectors (R107) -/

/-- The width of a sector, (end − start) mod 36000. -/
def Sector.width (c : Sector) : Nat := arc c.start c.finish

/-- A pivot angle lies in a sector. -/
def Sector.contains (c : Sector) (x : Nat) : Bool := arc c.start x < c.width

/-- A sector whose end angle is less than its start angle wraps. -/
def Sector.wraps (c : Sector) : Bool := c.finish < c.start

/-- The sector is a barrier. -/
def Sector.isBarrier (c : Sector) : Bool :=
  match c.body with
  | .barrier .. => true
  | .cap _ => false

/-- x lies in the lead zone of a barrier: (start − x) mod 36000 lies in 1..m. -/
def Sector.inLead (c : Sector) (x : Nat) : Bool :=
  match c.body with
  | .barrier m _ _ _ => decide (1 ≤ arc x c.start ∧ arc x c.start ≤ m)
  | .cap _ => false

/-- x lies in the trail zone of a barrier: (x − end) mod 36000 lies in 0..m − 1. -/
def Sector.inTrail (c : Sector) (x : Nat) : Bool :=
  match c.body with
  | .barrier m _ _ _ => decide (arc c.finish x < m)
  | .cap _ => false

/-- x lies in the zone that lies toward the barrier in a direction of travel (R107, R114). -/
def Sector.ahead (c : Sector) (d : Direction) (x : Nat) : Bool :=
  match d with
  | .forward => c.inLead x
  | .reverse => c.inTrail x

/-- The first barrier, by number, that lies ahead of an angle in a direction (R116). -/
def barrierAhead (table : List Sector) (d : Direction) (x : Nat) : Option Nat :=
  (table.findIdx? fun c => c.ahead d x).map (· + 1)

end Sys2Proof.Machine
end

