-- ==== Sys2Proof/Machine/Ops.lean ====
section
/-! DEFINITION. The operations the blocks share: the clock, the notice queue and the transmit side, the slots of the span
line and its quiet mode, the changes of machine state and what hangs on them, the requests that steer a pass, and the
raising and latching of faults. Each is said once here; the commands call them. -/

namespace Sys2Proof.Machine

/-! ### The clock -/

/-- The clock carried forward to a moment that an event says has come; never back (assumption log 1). -/
def State.runTo (s : State) (t : Nat) : State := { s with clock := max s.clock t }

/-- The clock carried forward to the end of a running timer, at that timer's expiry. -/
def State.runOut (s : State) (t : Timer) : State := s.runTo (t.startedAt + t.length)

/-! ### Parts of the state rewritten -/

/-- The run controller rewritten. -/
def State.setRun (s : State) (f : RunController → RunController) : State := { s with run := f s.run }

/-- The pass record rewritten, if there is one. -/
def State.setPass (s : State) (f : Pass → Pass) : State := s.setRun fun r => { r with pass := r.pass.map f }

/-! ### Notices (R160, R161, R166) and the transmit side (R158, R162) -/

/-- A notice merged into a queued entry: the data becomes the new notice's, the count rises, and so do the arrivals in
flight of an entry being sent (R160). -/
def Notice.coalesce (n : Notice) (data : NoticeData) : Notice :=
  { n with data := data, count := bump255 n.count, sending := n.sending.map bump255 }

/-- The entry of a kind and subject (R160). -/
def Notice.isFor (n : Notice) (kind : NoticeKind) (subject : Subject) : Bool :=
  n.data.kind == kind && n.subject == subject

/-- The entry a notice of priority p displaces from a full queue: of those of priority below p whose frame is not being
sent, one of the lowest priority, and of these the youngest, which stands last (R161). -/
def State.displaceable (s : State) (p : Nat) : Option Notice :=
  (s.panel.notices.filter fun n => n.sending.isNone && s.priority n.data.kind < p).foldl (init := none) fun worst n =>
    match worst with
    | none => some n
    | some w => if s.priority n.data.kind ≤ s.priority w.data.kind then some n else some w

/-- A block queues a notice: it coalesces with an entry of its kind and subject, enters a queue that has room, displaces an
entry of a full queue or is dropped with the lost mark set (R160, R161); while the panel is ASLEEP a notice that enters or
coalesces and matches a wake filter asserts the wake line (R166). -/
def State.queueNotice (s : State) (subject : Subject) (data : NoticeData) : State :=
  let p := s.panel
  let wake := p.wakeLine || (p.asleep && s.wakes data subject)
  if p.notices.any (·.isFor data.kind subject) then
    { s with panel := { p with
        notices := p.notices.map fun n => if n.isFor data.kind subject then n.coalesce data else n
        wakeLine := wake } }
  else if p.notices.length < 32 then
    { s with panel := { p with notices := p.notices ++ [⟨subject, data, 1, none⟩], wakeLine := wake } }
  else
    match s.displaceable (s.priority data.kind) with
    | some victim =>
      { s with panel := { p with
          notices := p.notices.erase victim ++ [⟨subject, data, 1, none⟩], lost := true, wakeLine := wake } }
    | none => { s with panel := { p with lost := true } }

/-- The transmit side, if idle, chooses what to send: the ready reply of the request in service, with the OVERRUN flag if
its mark is set; else, while the panel is AWAKE, the highest-ordered eligible notice, with the lost flag if its mark is set;
each mark is cleared as the frame that carries it begins (R155, R158, R161, R162). It is made at the end of each event, on
what the event has made ready (assumption log 2). DESIGN CHOICE (assumption log 33): where an accepted STORE_CONFIG, whose reply is
not ready at its taking, wakes the panel, R158 is followed and the queued notices go before that reply, not after it as R164
and R166 have it of a request that wakes the panel. -/
def State.transmit (s : State) : State :=
  let p := s.panel
  match p.tx with
  | .idle =>
    match p.service with
    | some ⟨_, some r⟩ => { s with panel := { p with tx := .reply r p.overrun, overrun := false } }
    | _ =>
      if p.asleep then s
      else
        match s.highest s.eligible with
        | none => s
        | some n =>
          { s with panel := { p with
              tx := .notice ⟨n.subject, n.data, n.count, p.lost⟩
              lost := false
              notices := p.notices.map fun e =>
                if e.isFor n.data.kind n.subject then { e with sending := some 0 } else e } }
  | _ => s

/-! ### Slots and rounds (R62, R63, R68) -/

/-- The hold time a DRIVE frame carries, in units of 100 ms (R68). -/
def State.holdTime (s : State) : Nat :=
  clampNat 5 255 (ceilDiv ((s.mval .missLimit + 1) * s.mval .driveInterval) 100)

/-- A DRIVE slot to tower k begins: the frame takes the tower's last order sent, last direction sent, the set interval
number and the hold time, and its order becomes the tower's last line order (R63). -/
def State.beginDriveSlot (s : State) (k : Nat) : State :=
  let d := (s.tower k).dyn
  { s with span := { s.span with
      slot := some ⟨.drive, k, .sending, s.span.setInterval.getD 0, d.lastDirection, d.lastOrder, s.holdTime,
        s.clock, s.clock, false⟩
      lastLine := setNth s.span.lastLine k (some d.lastOrder) } }

/-- A SURVEY slot to tower k begins: its frame carries the set interval number alone (R78). -/
def State.beginSurveySlot (s : State) (k : Nat) : State :=
  { s with span := { s.span with
      slot := some ⟨.survey, k, .sending, s.span.setInterval.getD 0, .forward, 0, 0, s.clock, s.clock, false⟩ } }

/-- The REST frame is sent to address 0 in a slot of its own (R76). -/
def State.beginRest (s : State) : State :=
  { s with span := { s.span with
      slot := some ⟨.rest, 0, .sending, 0, .forward, 0, 0, s.clock, s.clock, false⟩, restDue := false } }

/-- A DRIVE round begins with the slot of tower 1 (R62); in UNCONFIGURED no round begins (R17, R62). -/
def State.beginDriveRound (s : State) : State :=
  if 1 ≤ s.towerCount ∧ s.run.mstate ≠ .unconfigured then s.beginDriveSlot 1 else s

/-- A DRIVE frame of a non-zero order that is being sent when the moving states end is cut short: its slot waits for its end
with no reply window (R63). -/
def State.cutFrame (s : State) : State :=
  match s.span.slot with
  | some sl =>
    if sl.kind = .drive ∧ sl.phase = .sending ∧ 0 < sl.order then
      { s with span := { s.span with slot := some { sl with phase := .waiting } } }
    else s
  | none => s

/-! ### Quiet mode (R75, R79) -/

/-- The quiet timer restarts at the quiet delay; it runs only in ACTIVE and outside UNCONFIGURED (R75). -/
def State.restartQuiet (s : State) : State :=
  if s.span.mode = .active ∧ s.run.mstate ≠ .unconfigured then
    { s with span := { s.span with quietTimer := some (s.startTimer (s.mval .quietDelay * 1000)) } }
  else s

/-- The line returns from QUIET to ACTIVE (R79); in ACTIVE nothing changes. A REST not yet begun is not sent, a slot in
progress completes, and with no slot in progress a DRIVE round begins at once. -/
def State.leaveQuiet (s : State) : State :=
  if s.span.mode = .quiet then
    let s := { s with span := { s.span with
      mode := .active, surveyTimer := none, restDue := false
      quietTimer := some (s.startTimer (s.mval .quietDelay * 1000)) } }
    let s := s.queueNotice .machine (.quiet true)
    if s.span.slot.isNone then s.beginDriveRound else s
  else s

/-! ### Orders set to 0 at a trip or a power-fail assertion (R7, R32, R63) -/

/-- Dynamic fields of several towers rewritten, in order. -/
def State.setDyns (s : State) (ks : List Nat) (f : TowerDynamic → TowerDynamic) : State :=
  ks.foldl (fun s k => s.setDyn k f) s

/-- Every last order sent of towers 1..N becomes 0 at the event, their stall timers become idle, and a frame of a non-zero
order is cut short. -/
def State.zeroOrders (s : State) : State :=
  (s.setDyns s.members fun d => { d with lastOrder := 0, stall := .idle }).cutFrame

/-! ### Changes of machine state (R84) -/

/-- The retained run record is rewritten for the state as it stands, with the captured angle given and the marker valid
(R175). -/
def State.rewriteRecord (s : State) (captured : Option (Nat × Bool)) : State :=
  { s with store := { s.store with
      record := ⟨true, lossClass s.run.mstate s.run.dest, s.run.pass,
        if s.run.mstate = .tripped then s.run.tripKind else none, captured⟩ } }

/-- Every approach mark of a sector made ARMED (R115). -/
def Sector.rearm (c : Sector) : Sector :=
  match c.body with
  | .barrier m a _ _ => { c with body := .barrier m a .armed .armed }
  | .cap _ => c

/-- Open slip windows are closed without a result and over-limit run counts set to 0 at an entry to any state but RUNNING
and STOPPING (R31). -/
def State.discardWindows (s : State) : State :=
  { s with angle := { s.angle with windows := Vector.replicate 16 none, overLimit := Vector.replicate 16 0 } }

/-- The run controller takes a machine state with what belongs to it, and its outputs follow (R83). -/
def State.setMachine (s : State) (m : MState) (dest : Option Destination) (reason : Option PassEnd)
    (origin : Option Origin) : State :=
  { s with run := { s.run with
    mstate := m, dest := dest, reason := reason, origin := origin, contactor := m.contactor, warning := m.warning } }

/-- The retained run record at a change of machine state: not rewritten at the entry to POWER_WAIT, and at the entry to
RECOVERING keeping the captured angle it holds (R175). -/
def State.recordFollows (s : State) : State :=
  if s.run.mstate = .powerWait then s
  else s.rewriteRecord (if s.run.mstate = .recovering then s.store.record.captured else none)

/-- The line mode and the quiet timer at a change of machine state: an entry to STOPPED restarts the quiet timer, an entry to
any other state leaves QUIET, and UNCONFIGURED stops the timer (R17, R75, R79). -/
def State.lineFollows (s : State) : State :=
  if s.run.mstate = .stopped then s.restartQuiet
  else if s.run.mstate = .unconfigured then
    { s.leaveQuiet with span := { s.leaveQuiet.span with quietTimer := none } }
  else s.leaveQuiet

/-- The angle unit at a change of machine state: the slip windows (R31), and the pivot halt angle, recorded at an entry to
STOPPED or HELD if the held angle is valid and absent otherwise (R36). -/
def State.angleFollows (s : State) : State :=
  let s := if s.run.mstate.moving then s else s.discardWindows
  { s with angle := { s.angle with
    haltAngle := if (s.run.mstate = .stopped ∨ s.run.mstate = .held) ∧ s.angle.heldValid then some s.angle.held
      else none } }

/-- The watch levels become off at a change of machine state that leaves the moving states (R131). -/
def State.levelsFollow (s : State) (was : MState) : State :=
  if was.moving && !s.run.mstate.moving then
    { s with watch := { s.watch with aux := s.watch.aux.map fun a => { a with level := false } } }
  else s

/-- Every approach mark becomes ARMED at an entry to RUNNING (R115). -/
def State.marksFollow (s : State) : State :=
  if s.run.mstate = .running then
    { s with sectors := { s.sectors with installed := s.sectors.installed.map Sector.rearm } }
  else s

/-- The machine state changes to m with the destination, stop reason and prestart origin given, and everything that hangs on
the change follows at that event (R83, R84): the outputs, the STATE notice (`announce`; R174 withholds it at a reset), the
retained run record, the line, the angle unit, the watch levels and the approach marks. The STATE notice is queued before the
QUIET notice of a line that the same change brings back to ACTIVE (the model's choice, assumption log 14). The pass record and
the trip kind are set by the caller before. -/
def State.enterWith (announce : Bool) (s : State) (m : MState) (dest : Option Destination) (reason : Option PassEnd)
    (origin : Option Origin) : State :=
  let s' := s.setMachine m dest reason origin
  let s' := if announce then s'.queueNotice .machine (.state m dest) else s'
  (s'.recordFollows.lineFollows.angleFollows.levelsFollow s.run.mstate).marksFollow

/-- A change of machine state with its STATE notice. -/
def State.enter (s : State) (m : MState) (dest : Option Destination := none) (reason : Option PassEnd := none)
    (origin : Option Origin := none) : State :=
  s.enterWith true m dest reason origin

/-- A change of the STOPPING destination: a STATE notice and the retained record (R84, R97). -/
def State.redirect (s : State) (dest : Destination) (reason : Option PassEnd) : State :=
  let s := { s with run := { s.run with dest := some dest, reason := reason } }
  (s.queueNotice .machine (.state s.run.mstate (some dest))).rewriteRecord none

/-- The pass record is discarded and PASS_END queued with its reason. -/
def State.endPass (s : State) (r : PassEnd) : State :=
  (s.setRun fun c => { c with pass := none }).queueNotice .machine (.passEnd r)

/-! ### PRESTART and STOPPING (R89, R95, R96) -/

/-- PRESTART completes into RUNNING once its timer has expired and every tower 1..N is ONLINE and READY (R89). -/
def State.prestartTest (s : State) : State :=
  if s.run.mstate = .prestart ∧ s.run.prestartTimer = none ∧ s.allReady = true then
    (s.setRun fun c => { c with startFailTimer := none }).enter .running
  else s

/-- Entry to PRESTART: the prestart timer with the prestart time, expired at the entry when that is 0, and the start-fail
timer with the sum of the prestart time and the stop timeout (R89). -/
def State.enterPrestart (s : State) (origin : Origin) : State :=
  let p := s.mval .prestartTime * 1000
  let s := { s with run := { s.run with
    prestartTimer := if p = 0 then none else some (s.startTimer p)
    startFailTimer := some (s.startTimer (p + s.mval .stopTimeout * 1000)) } }
  (s.enter .prestart none none (some origin)).prestartTest

/-- STOPPING completes when every tower 1..N is ordered 0 and halted, and passes to its destination (R96). Law 2 has a DRIVE
frame carry a non-zero order only in RUNNING and STOPPING, so one begun before the last hand-over and still being sent is cut
short here as at a trip (R63; assumption log 31). -/
def State.stoppingTest (s : State) : State :=
  if s.run.mstate = .stopping ∧ s.atRest = true then
    let s' := (s.setRun fun c => { c with stopTimer := none }).cutFrame
    match s.run.dest with
    | some .stopped => (s'.endPass (s.run.reason.getD .panel)).enter .stopped
    | some .held => s'.enter .held
    | some .reversing =>
      (s'.setPass fun p => { p with direction := p.direction.flip }).enterPrestart .reversal
    | none => s
  else s

/-- Entry to STOPPING toward a destination: the stop timer starts, the prestart timers stop, and the test for completion is
made at the entry (R95, R96). -/
def State.enterStopping (s : State) (dest : Destination) (reason : Option PassEnd) : State :=
  let s := { s with run := { s.run with
    prestartTimer := none, startFailTimer := none
    stopTimer := some (s.startTimer (s.mval .stopTimeout * 1000)) } }
  (s.enter .stopping (some dest) reason).stoppingTest

/-! ### Steering a pass: stop, reverse, pace, hold, trip. `none` is a request not taken in the state found. -/

/-- STOP_PASS, or a watch STOP action with reason WATCH (R97, R100). -/
def State.takeStop (s : State) (reason : PassEnd) : Option State :=
  match s.run.mstate with
  | .running | .prestart => some (s.enterStopping .stopped (some reason))
  | .stopping => some (if s.run.dest = some .stopped then s else s.redirect .stopped (some reason))
  | .held | .recovering =>
    some (((s.setRun fun c => { c with recoveryTimer := none }).endPass reason).enter .stopped)
  | _ => none

/-- REVERSE, or a watch or barrier REVERSE action (R103). -/
def State.takeReverse (s : State) : Option State :=
  match s.run.mstate with
  | .running => some (s.enterStopping .reversing none)
  | .held =>
    some ((s.setPass fun p => { p with direction := p.direction.flip }).rewriteRecord none)
  | _ => none

/-- SET_PACE, or a watch PACE action: the host pace becomes the pace clamped to 0..1000 (R99). -/
def State.takePace (s : State) (v : Nat) : Option State :=
  match s.run.mstate with
  | .prestart | .running | .held =>
    some (s.setPass fun p => { p with pace := clampPace v })
  | _ => none

/-- A hold request from the fault list (R101). -/
def State.holdRequest (s : State) : State :=
  match s.run.mstate with
  | .running => s.enterStopping .held none
  | .prestart => (s.setRun fun c => { c with prestartTimer := none, startFailTimer := none }).enter .held
  | .stopping => if s.run.dest = some .reversing then s.redirect .held none else s
  | _ => s

/-- A trip request from the fault list for a HARD fault of kind k (R104): TRIPPED at once from PRESTART, RUNNING or STOPPING,
no change in any other state. -/
def State.tripRequest (s : State) (k : FaultKind) : State :=
  if s.run.mstate.contactor then
    let s := s.zeroOrders
    let s := { s with run := { s.run with
      prestartTimer := none, startFailTimer := none, stopTimer := none, recoveryTimer := none, tripKind := some k } }
    (s.endPass .faultTrip).enter .tripped
  else s

/-! ### Faults (R136 to R140, R145, R151) -/

/-- A removed SLIP record clears its tower's slip-frozen flag (R145, R151). -/
def State.unfreeze (s : State) (r : FaultRecord) : State :=
  match r.kind, r.tower with
  | .slip, some k => s.setDyn k fun d => { d with slipFrozen := false }
  | _, _ => s

/-- The selected records leave the list, with the effects of each removal (R151). -/
def State.removeRecords (s : State) (sel : FaultRecord → Bool) : State :=
  (s.faults.records.filter sel).foldl State.unfreeze
    { s with faults := { s.faults with records := s.faults.records.filter fun r => !sel r } }

/-- The selected ACTIVE records become LATCHED: their cause has cleared (R140). -/
def State.latch (s : State) (sel : FaultRecord → Bool) : State :=
  let clear (r : FaultRecord) : FaultRecord :=
    if sel r && r.condition == .active then { r with condition := .latched } else r
  { s with faults := { s.faults with records := s.faults.records.map clear } }

/-- The ACTIVE record of (K, T), if held, becomes LATCHED. -/
def State.latchKind (s : State) (k : FaultKind) (t : Option Nat) : State :=
  s.latch fun r => r.kind == k && r.tower == t

/-- The record a HARD raising displaces from a full list: the oldest DEFERRED and LATCHED one, or, if there is none, the
oldest DEFERRED one (R137). -/
def State.victim (s : State) : Option FaultRecord :=
  match s.faults.records.find? fun r => r.mode == .deferred && r.condition == .latched with
  | some r => some r
  | none => s.faults.records.find? fun r => r.mode == .deferred

/-- What a raising did to the list. -/
structure Raising where
  outcome : FaultOutcome
  mode : FaultMode
  count : Nat
  displaced : Option (FaultKind × Option Nat)
  deriving DecidableEq, Repr, Inhabited

/-- The record of a raising of (K, T): repeated, created, created in the place of a displaced one, or not recorded (R136,
R137). A kind whose cause clears at once is LATCHED at the end of the raising (R140). -/
def State.recordRaising (s : State) (k : FaultKind) (t : Option Nat) : State × Raising :=
  let angle := s.angle.held
  let cond : Condition := if k.latchesAtOnce then .latched else .active
  let mode := s.faults.modes.mode k
  let fresh : FaultRecord := ⟨k, t, mode, cond, angle, angle, 1⟩
  let add (s : State) : State := { s with faults := { s.faults with records := s.faults.records ++ [fresh] } }
  match s.faultRecord k t with
  | some r =>
    let r' := { r with count := bump255 r.count, lastAngle := angle, condition := cond }
    ({ s with faults := { s.faults with
        records := s.faults.records.map fun e => if e.kind == k && e.tower == t then r' else e } },
      ⟨.repeated, r.mode, r'.count, none⟩)
  | none =>
    if s.faults.records.length < 32 then (add s, ⟨.new, mode, 1, none⟩)
    else if mode = .hard then
      match s.victim with
      | some v => (add (s.removeRecords fun r => r.kind == v.kind && r.tower == v.tower),
          ⟨.new, mode, 1, some (v.kind, v.tower)⟩)
      | none => (s, ⟨.notRecorded, mode, 0, none⟩)
    else (s, ⟨.notRecorded, mode, 0, none⟩)

/-- A recorded raising of SLIP whose record is DEFERRED sets its tower's slip-frozen flag (R145). -/
def State.freezeSlip (s : State) (k : FaultKind) (t : Option Nat) (r : Raising) : State :=
  match k, t with
  | .slip, some n =>
    if r.mode = .deferred ∧ r.outcome ≠ .notRecorded then s.setDyn n fun d => { d with slipFrozen := true } else s
  | _, _ => s

/-- What a raising asks of the run controller, by its mode (R139): a hold for a recorded IMMEDIATE one of any kind but
DRIFT, a trip for a HARD one, recorded or not. -/
def State.actOnRaising (s : State) (k : FaultKind) (r : Raising) : State :=
  match r.mode with
  | .immediate => if r.outcome ≠ .notRecorded ∧ k ≠ .drift then s.holdRequest else s
  | .deferred => s
  | .hard => s.tripRequest k

/-- A raising of kind K with subject T: its record, its FAULT notice, and its action on the machine (R136 to R139). -/
def State.raise (s : State) (k : FaultKind) (t : Option Nat) : State :=
  let (s, r) := s.recordRaising k t
  let s := s.freezeSlip k t r
  let s := s.queueNotice (faultSubject t) (.fault k r.mode r.count r.outcome r.displaced)
  s.actOnRaising k r

/-- CHAIN_OPEN's cause clears at an event at which the sense input reads closed and no tower 1..N has a latest report showing
its switch open (R140, R143). -/
def State.chainClears (s : State) : State :=
  if s.inputs.chainClosed = true ∧ s.openSwitch = none then s.latch fun r => r.kind == .chainOpen else s

/-! ### Answers and events -/

/-- What the owning block answers to a request: the status, the blocking reason and what follows the header. -/
structure Answer where
  status : Status
  reason : Option BlockReason
  body : ReplyBody
  deriving DecidableEq, Repr, Inhabited

/-- OK, with what the request's rule has it carry. -/
def Answer.ok (body : ReplyBody := .none) : Answer := ⟨.ok, none, body⟩

/-- A status other than OK or BLOCKED: the header alone. -/
def Answer.fail (st : Status) : Answer := ⟨st, none, .none⟩

/-- BLOCKED with a reason. -/
def Answer.blocked (r : BlockReason) : Answer := ⟨.blocked, some r, .none⟩

/-- The outcome of an event: what it does, and then the transmit side's choice. A part without supply stands where it
stopped, and no event changes it (R173; assumption log 5). -/
def event (f : State → State) (s : State) : Host.Outcome State Fault Refusal :=
  .next (if s.powered then (f s).transmit else s)

end Sys2Proof.Machine
end

