-- ==== Sys2Proof/Machine/Faults.lean ====
section
/-! DEFINITION. The fault list (chapter 8): SET_FAULT_MODE, FAULT_LIST and FAULT_CLEAR as their owner takes them, its checks
on each report, and the safety-chain sense input. -/

namespace Sys2Proof.Machine

/-! ### Requests (R147 to R150) -/

/-- A mode code of SET_FAULT_MODE: IMMEDIATE or DEFERRED, as whether it is DEFERRED. -/
def deferredOf (b : Byte) : Option Bool := markOf b

/-- SLIP changed to DEFERRED sets the slip-frozen flag of every tower 1..N whose SLIP record is held (R145). -/
def State.freezeHeld (s : State) : State :=
  s.setDyns (s.members.filter fun k => (s.faultRecord .slip (some k)).isSome) fun d => { d with slipFrozen := true }

/-- A kind's mode changed in the mode table and in every record of the kind (R147), with the slip-frozen flags of R145 and the
postponed hold of R148. -/
def State.changeMode (s : State) (k : FaultKind) (deferred : Bool) : State :=
  let mode : FaultMode := if deferred then .deferred else .immediate
  let s := { s with faults := { s.faults with
    modes := s.faults.modes.put k deferred
    records := s.faults.records.map fun r => if r.kind == k then { r with mode := mode } else r } }
  if deferred then (if k = .slip then s.freezeHeld else s)
  else if k ≠ .drift ∧ (s.faults.records.any fun r => r.kind == k) then s.holdRequest
  else s

/-- SET_FAULT_MODE (R147, R148). -/
def State.takeSetFaultMode (s : State) (kind mode : Byte) : State × Answer :=
  match faultKindOf kind, deferredOf mode with
  | some k, some deferred =>
    if !k.deferrable then (s, .fail .badValue)
    else if s.faults.modes.mode k = (if deferred then .deferred else .immediate) then (s, .ok)
    else (s.changeMode k deferred, .ok)
  | _, _ => (s, .fail .badValue)

/-- FAULT_LIST (R149). -/
def State.takeFaultList (s : State) (pos : Byte) : State × Answer :=
  let n := pos.toNat
  if n < 1 ∨ 32 < n then (s, .fail .badValue)
  else (s, .ok (.faults s.faults.records.length s.faults.modes ((s.faults.records.drop (n - 1)).take 10)))

/-- The records a FAULT_CLEAR selects, if its selection and the fields the selection uses are in range (R150). -/
def clearSelection (selection kind tower : Byte) : Option (FaultRecord → Bool) :=
  match selection.toNat with
  | 0 => some fun _ => true
  | 1 => (faultKindOf kind).map fun k r => r.kind == k
  | 2 =>
    if tower.toNat ≤ 16 then
      (faultKindOf kind).map fun k r => r.kind == k && r.tower == (if tower.toNat = 0 then none else some tower.toNat)
    else none
  | _ => none

/-- FAULT_CLEAR: every selected LATCHED record is removed, and the reply counts those removed and those left ACTIVE (R150,
R151). -/
def State.takeFaultClear (s : State) (selection kind tower : Byte) : State × Answer :=
  match clearSelection selection kind tower with
  | none => (s, .fail .badValue)
  | some sel =>
    let chosen := s.faults.records.filter sel
    let removed := (chosen.filter fun r => r.condition == .latched).length
    (s.removeRecords fun r => sel r && r.condition == .latched, .ok (.cleared removed (chosen.length - removed)))

/-! ### Checks on a report (8.4) -/

/-- The limit that tower k's joint angle is compared with: the field held, or a free value while it is unset (R141, R142;
assumption log 29). -/
def State.jointLimit (s : State) (k : Nat) (f : TowerField) : Nat := ((s.tower k).cfg.get f).getD (Config.unsetLimit k f)

/-- The warn-persistence counter and JOINT_WARN of tower k at a report of joint angle magnitude a (R140, R141). -/
def State.warnCheck (s : State) (k a : Nat) : State :=
  if s.jointLimit k .jointWarn < a then
    let c := min 20 ((s.tower k).dyn.warnCount + 1)
    let s := s.setDyn k fun d => { d with warnCount := c }
    let active := match s.faultRecord .jointWarn (some k) with | some r => r.condition == .active | none => false
    if s.tval k .warnPersistence ≤ c ∧ active = false then s.raise .jointWarn (some k) else s
  else (s.setDyn k fun d => { d with warnCount := 0 }).latchKind .jointWarn (some k)

/-- The joint-trip mark and JOINT_TRIP of tower k at a report of joint angle magnitude a (R142). -/
def State.tripCheck (s : State) (k a : Nat) : State :=
  let mark (s : State) (m : Bool) : State :=
    { s with faults := { s.faults with tripMarks := setNth s.faults.tripMarks k m } }
  if s.jointLimit k .jointTrip < a then
    if nth s.faults.tripMarks k false then s else (mark s true).raise .jointTrip (some k)
  else mark s false

/-- The switch of tower k at a report: open while the contactor is energised, it raises CHAIN_OPEN (R143). -/
def State.switchCheck (s : State) (k : Nat) (r : Report) : State :=
  if r.switchClosed = false ∧ s.run.contactor = true then s.raise .chainOpen (some k) else s

/-- What the fault list does with a report taken from tower k: the joint checks for k below N, the switch, and the clearing
of CHAIN_OPEN's cause (8.4). -/
def State.faultExamine (s : State) (k : Nat) (r : Report) : State :=
  let a := (jointAngle (some r)).natAbs
  let s := if k < s.towerCount then (s.warnCheck k a).tripCheck k a else s
  (s.switchCheck k r).chainClears

/-! ### The safety-chain sense input -/

/-- The sense input has changed: opening with the contactor energised raises CHAIN_OPEN, with the lowest-numbered tower whose
latest report shows its switch open; closing may clear its cause (R143). -/
def State.chainChanged (s : State) : State :=
  if s.inputs.chainClosed then s.chainClears
  else if s.run.contactor then s.raise .chainOpen s.openSwitch else s

/-- CHAIN_SENSE_CHANGE. The level is the input's own, whether the part has supply or not; a level that is the one read
already is no change. -/
def execChainSenseChange (closed : Bool) (s : State) : Host.Outcome State Fault Refusal :=
  if s.inputs.chainClosed = closed then .next s
  else event State.chainChanged { s with inputs := { s.inputs with chainClosed := closed } }

end Sys2Proof.Machine
end

