-- ==== Sys2Proof/Machine/RunController.lean ====
section
/-! DEFINITION. The run controller (chapter 5): the run requests and READ_MACHINE as their owner takes them, the pass at a
valid sample, and the expiries of its timers. -/

namespace Sys2Proof.Machine

/-! ### The run requests (R86 to R105) -/

/-- Checks 1 and 2 of R86 before what the request does where it is taken: UNCONFIGURED, then WRONG_STATE. -/
def State.runCheck (s : State) (taken : Option (State × Answer)) : State × Answer :=
  if s.run.mstate = .unconfigured then (s, .fail .unconfigured)
  else taken.getD (s, .fail .wrongState)

/-- The first blocking condition of START_PASS that holds (R87). -/
def State.startBlocked (s : State) (d : Direction) : Option BlockReason :=
  if !s.inputs.chainClosed then some .chainOpen
  else if !s.angle.heldValid then some .angleInvalid
  else if s.blockingFault then some .fault
  else (barrierAhead s.sectors.installed d s.angle.held).map .barrier

/-- START_PASS: the value checks, the blocking conditions, and then the pass record and PRESTART with origin NEW (R86 to
R88). -/
def State.takeStartPass (s : State) (direction : Byte) (pace : U16) (presence : Byte) (stopAngle : U16) (circles : Byte) :
    State × Answer :=
  s.runCheck <| if s.run.mstate ≠ .stopped then none else
    let stop := if presence.getLsbD 0 then some stopAngle.toNat else none
    let target := if presence.getLsbD 1 then some circles.toNat else none
    match directionOf direction with
    | none => some (s, .fail .badValue)
    | some d =>
      if stop.any (36000 ≤ ·) ∨ target.any (fun n => n < 1 || 99 < n) then some (s, .fail .badValue)
      else
        match s.startBlocked d with
        | some r => some (s, .blocked r)
        | none =>
          let p := clampPace pace.toNat
          let s := s.setRun fun c => { c with pass := some ⟨d, p, stop, target, 0, s.angle.held⟩ }
          some (s.enterPrestart .new, .ok (.pace p))

/-- SET_PACE (R99). -/
def State.takeSetPace (s : State) (pace : U16) : State × Answer :=
  s.runCheck ((s.takePace pace.toNat).map fun s => (s, .ok (.pace (clampPace pace.toNat))))

/-- STOP_PASS (R97, R100). -/
def State.takeStopPass (s : State) : State × Answer :=
  s.runCheck ((s.takeStop .panel).map fun s => (s, .ok))

/-- HOLD (R101). -/
def State.takeHold (s : State) : State × Answer :=
  s.runCheck (if s.run.mstate = .running then some (s.enterStopping .held none, .ok) else none)

/-- RESUME (R102). -/
def State.takeResume (s : State) : State × Answer :=
  s.runCheck <| if s.run.mstate ≠ .held then none else
    if !s.inputs.chainClosed then some (s, .blocked .chainOpen)
    else if s.blockingFault then some (s, .blocked .fault)
    else some (s.enterPrestart .resume, .ok)

/-- REVERSE (R103). -/
def State.takeReverseRequest (s : State) : State × Answer :=
  s.runCheck (s.takeReverse.map fun s => (s, .ok))

/-- TRIP_RESET: every HARD record is removed, the trip kind becomes absent and the machine enters STOPPED (R105). -/
def State.takeTripReset (s : State) : State × Answer :=
  s.runCheck <| if s.run.mstate ≠ .tripped then none else
    if !s.inputs.chainClosed then some (s, .blocked .chainOpen)
    else if s.activeHard then some (s, .blocked .fault)
    else
      let s := s.removeRecords fun r => r.mode == .hard
      some ((s.setRun fun c => { c with tripKind := none }).enter .stopped, .ok)

/-- READ_MACHINE (R106). -/
def State.takeReadMachine (s : State) : State × Answer :=
  (s, .ok (.machine
    { mstate := s.run.mstate, dest := s.run.dest, reason := s.run.reason, origin := s.run.origin
      complete := s.complete, pass := s.run.pass, tripKind := s.run.tripKind
      angle := s.angle.held, angleValid := s.angle.heldValid, pEff := s.engine.pEff, mode := s.span.mode
      contactor := s.run.contactor, warning := s.run.warning
      aux := s.watch.aux.toList.map (auxLevel s.run.mstate), chainClosed := s.inputs.chainClosed
      prestartTimer := elapsedSeconds s.clock s.run.prestartTimer
      startFailTimer := elapsedSeconds s.clock s.run.startFailTimer
      stopTimer := elapsedSeconds s.clock s.run.stopTimer
      recoveryTimer := elapsedSeconds s.clock s.run.recoveryTimer }))

/-! ### The pass at a valid sample (R24, R92, R93) -/

/-- The travel accumulator gains Δ, signed by the pass direction held at the sample, within ±4,000,000 (R24). -/
def State.passTravel (s : State) (delta : Int) : State :=
  s.setPass fun p => { p with travel := clampInt (-4000000) 4000000 (p.travel + signed p.direction delta) }

/-- The sample (p, Δ) crosses the stop angle of the pass: it moves in the pass direction and sweeps the angle (R92). -/
def Pass.crossesStop (r : Pass) (p : Nat) (delta : Int) : Bool :=
  match r.stopAngle with
  | some a => decide (0 < signed r.direction delta) && swept p delta a
  | none => false

/-- The travel accumulator has reached the circle target (R93). -/
def Pass.reachesCircles (r : Pass) : Bool :=
  match r.circles with
  | some n => decide ((36000 * n : Int) ≤ r.travel)
  | none => false

/-- The run controller's own checks at a sample in RUNNING, the stop angle before the circle target (R92, R93). -/
def State.passCheck (s : State) (p : Nat) (delta : Int) : State :=
  match s.run.mstate, s.run.pass with
  | .running, some r =>
    if r.crossesStop p delta then s.enterStopping .stopped (some .stopAngle)
    else if r.reachesCircles then s.enterStopping .stopped (some .circles)
    else s
  | _, _ => s

/-! ### Timer expiries -/

/-- The prestart timer expires in PRESTART: PRESTART completes now, or at a later report (R89). -/
def State.prestartExpires (s : State) : State :=
  match s.run.mstate, s.run.prestartTimer with
  | .prestart, some t => ((s.runOut t).setRun fun c => { c with prestartTimer := none }).prestartTest
  | _, _ => s

/-- PRESTART_TIMER_EXPIRY. -/
def execPrestartTimerExpiry (s : State) : Host.Outcome State Fault Refusal := event State.prestartExpires s

/-- The start-fail timer expires in PRESTART: the start fails into STOPPED or HELD by its origin (R90). -/
def State.startFails (s : State) : State :=
  match s.run.mstate, s.run.startFailTimer with
  | .prestart, some t =>
    let fresh := s.run.origin = some .new
    let m : MState := if fresh then .stopped else .held
    let s := (s.runOut t).setRun fun c =>
      { c with prestartTimer := none, startFailTimer := none, pass := if fresh then none else c.pass }
    (s.enter m).queueNotice .machine (.startFailed m)
  | _, _ => s

/-- START_FAIL_TIMER_EXPIRY. -/
def execStartFailTimerExpiry (s : State) : Host.Outcome State Fault Refusal := event State.startFails s

/-- The stop timer expires in STOPPING: STOP_TIMEOUT is raised, and trips the machine (R98). -/
def State.stopTimesOut (s : State) : State :=
  match s.run.mstate, s.run.stopTimer with
  | .stopping, some t => ((s.runOut t).setRun fun c => { c with stopTimer := none }).raise .stopTimeout none
  | _, _ => s

/-- STOP_TIMER_EXPIRY. -/
def execStopTimerExpiry (s : State) : Host.Outcome State Fault Refusal := event State.stopTimesOut s

end Sys2Proof.Machine
end

