-- ==== Sys2Proof/Machine/Sectors.lean ====
section
/-! DEFINITION. The sector table (chapter 6): SET_SECTORS and READ_SECTORS as their owner takes them, and its work at each
valid sample: installation, the cap in force, the overrun check, the approach check and the approach marks. -/

namespace Sys2Proof.Machine

/-! ### Replacing the table (R109, R110) -/

/-- The sector an entry describes, with every mark ARMED, if its angles, its kind and its value lie in range; bits 0 to 13
of the value word are counted with the value (R109 step 2, R183, 11.4). -/
def sectorOf (e : SectorEntry) : Option Sector :=
  let a := e.start.toNat
  let b := e.finish.toNat
  let v := e.value.toNat % 16384
  let angles := decide (a < 36000 ∧ b < 36000 ∧ a ≠ b)
  if e.value.getLsbD 15 then
    if angles ∧ v ≤ 3000 then
      some ⟨a, b, .barrier v (if e.value.getLsbD 14 then .reverse else .stop) .armed .armed⟩
    else none
  else if angles ∧ v ≤ 1000 then some ⟨a, b, .cap v⟩
  else none

/-- Each sector after the first starts at or above the end of the one before it, which does not wrap (R110). -/
def noOverlap : List Sector → Bool
  | a :: b :: rest => !a.wraps && a.finish ≤ b.start && noOverlap (b :: rest)
  | _ => true

/-- A wrapping last sector ends at or below the start of the first (R110). -/
def wrapFits (table : List Sector) : Bool :=
  match table.head?, table.getLast? with
  | some a, some z => !z.wraps || table.length == 1 || z.finish ≤ a.start
  | _, _ => true

/-- A barrier's zones do not reach into it: width plus twice the margin is at most 36000 (R110). -/
def zonesFit (c : Sector) : Bool :=
  match c.body with
  | .barrier m _ _ _ => c.width + 2 * m ≤ 36000
  | .cap _ => true

/-- The four checks of a closing part (R110). -/
def validTable (table : List Sector) : Bool :=
  decide ((table.map (·.start)).Pairwise (· < ·)) && noOverlap table && wrapFits table && table.all zonesFit

/-- A part refused: BAD_VALUE, and the whole build is abandoned (R109). -/
def State.abandonBuild (s : State) : State × Answer :=
  ({ s with sectors := { s.sectors with build := none } }, .fail .badValue)

/-- SET_SECTORS as the sector table takes it: continuity, entries, collection, and, for a part with the last mark, the
validation that makes the build list the pending table (R109, R110). -/
def State.takeSetSectors (s : State) (marks : Byte) (entries : List SectorEntry) : State × Answer :=
  let fst := marks.getLsbD 0
  let last := marks.getLsbD 1
  if !fst && s.sectors.build.isNone then s.abandonBuild
  else
    match entries.mapM sectorOf with
    | none => s.abandonBuild
    | some es =>
      let list := (if fst then [] else s.sectors.build.getD []) ++ es
      if 24 < list.length then s.abandonBuild
      else if !last then
        ({ s with sectors := { s.sectors with build := some list } }, .ok (.sectorCount list.length))
      else if validTable list then
        ({ s with sectors := { s.sectors with build := none, pending := some list } }, .ok (.sectorCount list.length))
      else s.abandonBuild

/-- READ_SECTORS as the sector table takes it (R117). -/
def State.takeReadSectors (s : State) (choice pos : Byte) : State × Answer :=
  let t := s.sectors
  let n := pos.toNat
  if n < 1 ∨ 24 < n then (s, .fail .badValue)
  else
    match markOf choice with
    | none => (s, .fail .badValue)
    | some pending =>
      let table := if pending then t.pending.getD [] else t.installed
      (s, .ok (.sectors
        { installed := t.installed.length, pending := t.pending.map List.length, build := t.build.map List.length
          cap := t.cap, containing := t.containing
          sectors := ((table.zipIdx.map fun (c, i) => (i + 1, c)).drop (n - 1)).take 12 }))

/-! ### A valid sample (6.3) -/

/-- A pending table is installed with every approach mark ARMED (R111). -/
def State.installPending (s : State) : State :=
  match s.sectors.pending with
  | some t => { s with sectors := { s.sectors with installed := t.map Sector.rearm, pending := none } }
  | none => s

/-- The containing sector and the cap in force at an angle (R112). -/
def State.establishCap (s : State) (q : Nat) : State :=
  let found := s.sectors.installed.find? fun c => c.contains q
  { s with sectors := { s.sectors with
      containing := (s.sectors.installed.findIdx? fun c => c.contains q).map (· + 1)
      cap := match found with
        | some ⟨_, _, .cap v⟩ => v
        | _ => 1000 } }

/-- BARRIER_OVERRUN is raised when q lies in a barrier while the machine is RUNNING or STOPPING (R113). -/
def State.overrunCheck (s : State) (q : Nat) : State :=
  if s.run.mstate.moving && s.sectors.installed.any fun c => c.isBarrier && c.contains q then
    s.raise .barrierOverrun none
  else s

/-- The direction of the pass, FORWARD where there is none. -/
def State.passDirection (s : State) : Direction :=
  match s.run.pass with
  | some p => p.direction
  | none => .forward

/-- The mark of the zone that lies toward a barrier in a direction. -/
def Sector.mark (c : Sector) (d : Direction) : ApproachMark :=
  match c.body, d with
  | .barrier _ _ lead _, .forward => lead
  | .barrier _ _ _ trail, .reverse => trail
  | .cap _, _ => .fired

/-- That mark given a value. -/
def Sector.setMark (c : Sector) (d : Direction) (m : ApproachMark) : Sector :=
  match c.body, d with
  | .barrier g a _ trail, .forward => { c with body := .barrier g a m trail }
  | .barrier g a lead _, .reverse => { c with body := .barrier g a lead m }
  | .cap _, _ => c

/-- A barrier's action as the run controller takes it in RUNNING (R95, R114). -/
def State.barrierAct (s : State) (c : Sector) : State :=
  match c.body with
  | .barrier _ .stop _ _ => s.enterStopping .stopped (some .barrier)
  | .barrier _ .reverse _ _ => s.enterStopping .reversing none
  | .cap _ => s

/-- A barrier's action fires at q in a pass of direction d: q lies in the zone toward it, whose mark is ARMED (R114). -/
def Sector.fires (c : Sector) (d : Direction) (q : Nat) : Bool := c.ahead d q && c.mark d == .armed

/-- The table with the mark of its first firing sector made FIRED, and that sector. -/
def fireFirst (d : Direction) (q : Nat) : List Sector → Option (List Sector × Sector)
  | [] => none
  | c :: rest =>
    if c.fires d q then some (c.setMark d .fired :: rest, c)
    else (fireFirst d q rest).map fun r => (c :: r.1, r.2)

/-- The approach check in RUNNING, by the pass direction d held at the sample: the barriers are examined in ascending number,
the first that fires acts, and the examination stops there (R114). -/
def State.approachCheck (s : State) (d : Direction) (q : Nat) : State :=
  if s.run.mstate = .running then
    match fireFirst d q s.sectors.installed with
    | some (table, c) => ({ s with sectors := { s.sectors with installed := table } } : State).barrierAct c
    | none => s
  else s

/-- A FIRED mark whose zone q lies outside becomes ARMED (R115). -/
def Sector.leaveZones (c : Sector) (q : Nat) : Sector :=
  match c.body with
  | .barrier m a lead trail =>
    { c with body := .barrier m a (if c.inLead q then lead else .armed) (if c.inTrail q then trail else .armed) }
  | .cap _ => c

/-- The re-arming step of a valid sample (R115). -/
def State.rearmOutside (s : State) (q : Nat) : State :=
  { s with sectors := { s.sectors with installed := s.sectors.installed.map fun c => c.leaveZones q } }

/-- The sector table's work at a valid sample, in its five steps. `dir` is the pass direction held at a sample that carries a
Δ; one without makes neither of the two checks (6.3). -/
def State.sectorSample (s : State) (dir : Option Direction) (q : Nat) : State :=
  let s := s.installPending.establishCap q
  let s := match dir with
    | some d => (s.overrunCheck q).approachCheck d q
    | none => s
  s.rearmOutside q

end Sys2Proof.Machine
end

