-- ==== Sys2Proof/Machine/TowerTable.lean ====
section
/-! DEFINITION. The tower table (chapter 1): writing the configuration, what a write does to the mechanisms that run, and
READ_TOWER. The requests CONFIG_MACHINE, CONFIG_TOWER and READ_TOWER as their owner takes them. -/

namespace Sys2Proof.Machine

/-! ### Writing fields (R9 to R16) -/

/-- One field takes a value. -/
def State.writeField (s : State) (w : FieldWrite) : State :=
  match w with
  | (.machine f, v) => { s with table := { s.table with machine := s.table.machine.put f v } }
  | (.tower k f, v) =>
    { s with table := { s.table with
        towers := setNth s.table.towers k { s.tower k with cfg := (s.tower k).cfg.put f v } } }

/-- Fields take values, in order. -/
def State.writeFields (s : State) (ws : List FieldWrite) : State := ws.foldl State.writeField s

/-- A field is among those written. -/
def writes (ws : List FieldWrite) (k : FieldKey) : Bool := ws.any fun w => w.1 == k

/-- An accepted tuning value staged: it replaces a pending value of the same field (R11). -/
def stage (pending : List FieldWrite) (w : FieldWrite) : List FieldWrite :=
  if writes pending w.1 then pending.map fun p => if p.1 == w.1 then w else p else pending ++ [w]

/-- A slip window discarded (R31), its tower's over-limit run count kept. -/
def State.discardWindow (s : State) (k : Nat) : State :=
  { s with angle := { s.angle with windows := setNth s.angle.windows k none } }

/-- A stall timer expires: it restarts with the same start wheel count and elapsed time 0, and STALL is raised (R33). -/
def State.stallExpires (s : State) (k : Nat) : State :=
  match (s.tower k).dyn.stall with
  | .running c _ => (s.setDyn k fun d => { d with stall := .running c s.clock }).raise .stall (some k)
  | .idle => s

/-- A tower enters or leaves the machine: its dynamic fields take the reset values of R5, its slip window is closed, its
over-limit run count 0 and its joint-trip mark clear (R13, R25, R134). Its last line order is kept (R61). -/
def State.resetMember (s : State) (k : Nat) : State :=
  let s := s.setDyn k fun _ => .reset
  { s with
    angle := { s.angle with windows := setNth s.angle.windows k none, overLimit := setNth s.angle.overLimit k 0 }
    faults := { s.faults with tripMarks := setNth s.faults.tripMarks k false } }

/-- A change of N from `old` has been written (R13): the towers between the old and the new count change membership; the
ACTIVE records of leaving towers become LATCHED, and a slot in progress to one of them takes no REPORT and counts no miss
(R81). -/
def State.changeMembers (s : State) (old : Nat) : State :=
  let n := s.towerCount
  let s := ((upTo 16).filter fun k => min old n < k && k ≤ max old n).foldl State.resetMember s
  let s := s.latch fun r => match r.tower with | some k => n < k && k ≤ old | none => false
  match s.span.slot with
  | some sl => if n < sl.tower then { s with span := { s.span with slot := some { sl with left := true } } } else s
  | none => s

/-- A new miss limit has been written: tower k's count and link state are brought into agreement with it (R15). -/
def State.agreeMisses (s : State) (k : Nat) : State :=
  let limit := s.mval .missLimit
  let d := (s.tower k).dyn
  let c := min d.misses limit
  if d.link = .missing ∧ c = limit then
    (s.setDyn k fun d => { d with misses := c, link := .lost, status := .absent }).raise .linkLost (some k)
  else if d.link = .lost ∧ c < limit then
    s.setDyn k fun d => { d with misses := c, link := .missing, status := towerStatus .missing d.report }
  else s.setDyn k fun d => { d with misses := c }

/-- A new drive interval restarts the running drive interval timer with the new length (R14, R38). -/
def State.restartInterval (s : State) : State :=
  match s.engine.timer with
  | some _ => { s with engine := { s.engine with timer := some (s.startTimer (s.mval .driveInterval)) } }
  | none => s

/-- A panel silence time has been applied (R12): 0 stops the timer at once; a non-zero value starts a stopped timer if the
panel is AWAKE; a running timer keeps its length. -/
def State.silenceApplied (s : State) : State :=
  let v := s.mval .panelSilence
  if v = 0 then { s with panel := { s.panel with silenceTimer := none } }
  else if s.panel.silenceTimer = none ∧ s.panel.asleep = false then
    { s with panel := { s.panel with silenceTimer := some (s.startTimer (v * 1000)) } }
  else s

/-- What a written field does to the mechanism that uses it, where that is more than being read later (R12, R16, R33). -/
def State.fieldApplied (s : State) (w : FieldWrite) : State :=
  match w.1 with
  | .machine .panelSilence => s.silenceApplied
  | .tower k .radius | .tower k .wheelScale => s.discardWindow k
  | .tower k .stallTime =>
    match (s.tower k).dyn.stall with
    | .running _ since => if s.tval k .stallTime * 1000 ≤ s.clock - since then s.stallExpires k else s
    | .idle => s
  | _ => s

/-- Fields written at once, and then their effects: the tower count, the drive interval, the miss limit, and the rest in the
order written. -/
def State.applyWrites (s : State) (ws : List FieldWrite) : State :=
  let old := s.towerCount
  let s := s.writeFields ws
  let s := if s.towerCount = old then s else s.changeMembers old
  let s := if writes ws (.machine .driveInterval) then s.restartInterval else s
  let s := if writes ws (.machine .missLimit) then s.members.foldl State.agreeMisses s else s
  ws.foldl State.fieldApplied s

/-- Every pending tuning entry is written into its field and the pending tuning is emptied (R11). -/
def State.applyPending (s : State) : State :=
  { s with table := { s.table with pending := [] } }.applyWrites s.table.pending

/-! ### Completeness (R17) -/

/-- The configuration became complete at a write in UNCONFIGURED: STOPPED, and the drive interval timer starts; or stopped
being complete at a write in STOPPED: UNCONFIGURED, the drive interval timer stops, and what is pending is applied. -/
def State.settleCompleteness (s : State) : State :=
  if s.run.mstate = .unconfigured ∧ s.complete = true then
    let s := s.enter .stopped
    { s with engine := { s.engine with timer := some (s.startTimer (s.mval .driveInterval)) } }
  else if s.run.mstate = .stopped ∧ s.complete = false then
    let s := s.enter .unconfigured
    { s with engine := { s.engine with timer := none } }.applyPending
  else s

/-! ### The checks (R9, R10) -/

/-- The radii of the checked towers that have one increase strictly: towers 1..N while N is set, every tower while N is
unset (R10). -/
def State.radiiIncrease (s : State) : Bool :=
  let checked := match s.table.machine.towerCount with | some n => upTo n | none => upTo 16
  decide ((checked.filterMap fun k => (s.tower k).cfg.radius).Pairwise (· < ·))

/-- Of two set values the first is below the second; a check that involves an unset field is not made (R10). -/
def belowIfSet (a b : Option Nat) : Bool :=
  match a, b with
  | some x, some y => x < y
  | _, _ => true

/-- Tower k's min-run order is below its max order, and its joint warn below its joint trip (R10). -/
def State.towerConsistent (s : State) (k : Nat) : Bool :=
  let c := (s.tower k).cfg
  belowIfSet c.minRun c.maxOrder && belowIfSet c.jointWarn c.jointTrip

/-- The drive interval leaves room for one poll round while N is set (R3, R10). -/
def State.roundFits (s : State) : Bool :=
  match s.table.machine.towerCount, s.table.machine.driveInterval with
  | some n, some i => (n + 2) * 15 ≤ i
  | _, _ => true

/-- The state as the table would stand after the request: the request's values over pending ones over those held (R10). -/
def State.candidate (s : State) (ws : List FieldWrite) : State := s.writeFields (s.table.pending ++ ws)

/-- An accepted write is applied at once in UNCONFIGURED, or with everything pending when it carries a geometry field, and is
staged otherwise (R11). -/
def State.applyOrStage (s : State) (ws : List FieldWrite) : State :=
  if s.run.mstate = .unconfigured ∨ ws.any (·.1.geometry) then
    ({ s with table := { s.table with pending := [] } }.applyWrites (s.table.pending ++ ws)).settleCompleteness
  else { s with table := { s.table with pending := ws.foldl stage s.table.pending } }

/-- Checks 2 to 4 of R9 and, when they pass, the write. `stray` says that the presence word sets a bit that names no field
(R183); `consistent` is the consistency check of the request's record. -/
def State.takeWrite (s : State) (ws : List FieldWrite) (stray : Bool) (consistent : State → Bool) : State × Answer :=
  if ws.any (·.1.geometry) ∧ s.run.mstate ≠ .unconfigured ∧ s.run.mstate ≠ .stopped then (s, .fail .wrongState)
  else if stray ∨ !ws.all inRange then (s, .fail .badValue)
  else if !consistent (s.candidate ws) then (s, .fail .badValue)
  else (s.applyOrStage ws, .ok)

/-- CONFIG_MACHINE as the tower table takes it (R9). -/
def State.takeConfigMachine (s : State) (presence : U16) (values : List U16) : State × Answer :=
  s.takeWrite ((presentFields machineFields presence values).map fun (f, v) => (.machine f, v))
    (namesNoField 12 presence) fun c => c.radiiIncrease && c.roundFits

/-- CONFIG_TOWER as the tower table takes it: the tower number is check 1 (R9). -/
def State.takeConfigTower (s : State) (tower : Byte) (presence : U16) (values : List U16) : State × Answer :=
  let k := tower.toNat
  if k < 1 ∨ 16 < k then (s, .fail .badValue)
  else
    s.takeWrite ((presentFields towerFields presence values).map fun (f, v) => (.tower k f, v))
      (namesNoField 16 presence) fun c => c.radiiIncrease && c.towerConsistent k

/-! ### READ_TOWER (R18, R19) -/

/-- The age of a report in units of 100 ms, rounded down, at most 65535 (R19). -/
def State.reportAge (s : State) (r : Report) : Nat := min 65535 ((s.clock - r.takenAt) / 100)

/-- The answer for tower k, with pending values in place (R18). -/
def State.towerView (s : State) (k : Nat) : TowerView :=
  let d := (s.tower k).dyn
  { cfg := ((s.candidate []).tower k).cfg
    pending := s.table.pending.any fun w => match w.1 with | .tower j _ => j == k | .machine _ => false
    within := s.members.contains k
    link := d.link, misses := d.misses, status := d.status
    report := d.report.map fun r => (r, s.reportAge r)
    lastOrder := d.lastOrder, lastDirection := d.lastDirection
    slip := d.slip, slipFrozen := d.slipFrozen, warnCount := d.warnCount, haltWheel := d.haltWheel
    stall := match d.stall with | .running _ since => some ((s.clock - since) / 1000) | .idle => none }

/-- READ_TOWER as the tower table takes it. -/
def State.takeReadTower (s : State) (tower : Byte) : State × Answer :=
  let k := tower.toNat
  if 16 < k then (s, .fail .badValue)
  else if k = 0 then
    (s, .ok (.machineRecord (s.candidate []).table.machine
      (s.table.pending.any fun w => match w.1 with | .machine _ => true | .tower .. => false) s.complete))
  else if ((s.candidate []).tower k).cfg.untouched then (s, .fail .unconfigured)
  else (s, .ok (.tower (s.towerView k)))

end Sys2Proof.Machine
end

