-- ==== Sys2Proof/Machine/Watches.lean ====
section
/-! DEFINITION. The watch unit (chapter 7): SET_WATCH, READ_WATCHES and SET_AUX as their owner takes them, the crossings of a
sample, and the firing of watches with their actions. -/

namespace Sys2Proof.Machine

/-! ### Requests (R120, R121, R130) -/

/-- The configured fields a SET_WATCH carries, if each is a value of its field (R119, R120). -/
def watchConfigOf (enabled : Byte) (ref halfWidth : U16) (direction crossing mstate action : Byte) (arg : U16)
    (rept : Byte) : Option WatchConfig := do
  let enabled ← markOf enabled
  let direction ← dirSelectorOf direction
  let crossing ← crossSelectorOf crossing
  let mstate ← stateSelectorOf mstate
  let action ← watchActionOf action arg
  let always ← markOf rept
  if ref.toNat < 36000 ∧ halfWidth.toNat ≤ 18000 then
    some ⟨enabled, ref.toNat, halfWidth.toNat, direction, crossing, mstate, action, !always⟩
  else none

/-- SET_WATCH: the entry's configured fields are replaced whole, its spent mark cleared and its fire count set to 0 (R120). -/
def State.takeSetWatch (s : State) (entry enabled : Byte) (ref halfWidth : U16)
    (direction crossing mstate action : Byte) (arg : U16) (rept : Byte) : State × Answer :=
  let n := entry.toNat
  if n < 1 ∨ 8 < n then (s, .fail .badValue)
  else
    match watchConfigOf enabled ref halfWidth direction crossing mstate action arg rept with
    | some cfg => ({ s with watch := { s.watch with entries := setNth s.watch.entries n ⟨cfg, false, 0⟩ } }, .ok)
    | none => (s, .fail .badValue)

/-- READ_WATCHES (R121). -/
def State.takeReadWatches (s : State) : State × Answer :=
  (s, .ok (.watches s.watch.entries.toList
    (s.watch.aux.toList.map fun a => (a.mode, a.level, auxLevel s.run.mstate a))))

/-- SET_AUX (R130). -/
def State.takeSetAux (s : State) (output mode : Byte) : State × Answer :=
  let n := output.toNat
  match auxModeOf mode with
  | some m =>
    if n < 1 ∨ 4 < n then (s, .fail .badValue)
    else
      let a := nth s.watch.aux n ⟨.auto, false⟩
      ({ s with watch := { s.watch with aux := setNth s.watch.aux n { a with mode := m } } }, .ok)
  | none => (s, .fail .badValue)

/-! ### Windows and crossings (R122, R123) -/

/-- A pivot angle is inside an entry's window (R122). -/
def WatchConfig.inside (w : WatchConfig) (x : Nat) : Bool := (angleDiff w.ref x).natAbs ≤ w.halfWidth

/-- The lower edge of the window, (ref − hw) mod 36000. -/
def WatchConfig.lowerEdge (w : WatchConfig) : Nat := arc w.halfWidth w.ref

/-- The upper edge of the window, (ref + hw) mod 36000. -/
def WatchConfig.upperEdge (w : WatchConfig) : Nat := (w.ref + w.halfWidth) % 36000

/-- The crossings a sample (p, q, Δ) makes of an entry's window, in their order (R123). -/
def WatchConfig.crossings (w : WatchConfig) (p q : Nat) (delta : Int) : List Crossing :=
  match w.inside p, w.inside q with
  | false, true => [.enter]
  | true, false => [.leave]
  | false, false => if swept p delta w.lowerEdge || swept p delta w.upperEdge then [.enter, .leave] else []
  | true, true => []

/-! ### Firing (R125 to R128) -/

/-- A crossing selector admits a crossing. -/
def CrossSelector.admits : CrossSelector → Crossing → Bool
  | .both, _ => true
  | .enter, .enter => true
  | .leave, .leave => true
  | _, _ => false

/-- A direction selector admits a sample's direction. -/
def DirSelector.admits : DirSelector → Direction → Bool
  | .both, _ => true
  | .forward, .forward => true
  | .reverse, .reverse => true
  | _, _ => false

/-- A state selector admits a machine state. -/
def StateSelector.admits : StateSelector → MState → Bool
  | .any, _ => true
  | .running, .running => true
  | .moving, m => m.moving
  | _, _ => false

/-- A live entry: enabled, its spent mark clear (R119). -/
def Watch.live (w : Watch) : Bool := w.cfg.enabled && !w.spent

/-- A crossing matches an entry in the machine state at the test (R125). -/
def WatchConfig.admits (w : WatchConfig) (c : Crossing) (d : Direction) (m : MState) : Bool :=
  w.crossing.admits c && w.direction.admits d && w.mstate.admits m

/-- The watch level of an output takes a value (R128, R129). -/
def State.setAuxLevel (s : State) (n : Nat) (level : Bool) : State :=
  let a := nth s.watch.aux n ⟨.auto, false⟩
  { s with watch := { s.watch with aux := setNth s.watch.aux n { a with level := level } } }

/-- The outcome of a request that the run controller takes or not. -/
def State.orRefused (s : State) (taken : Option State) : State × WatchOutcome :=
  match taken with
  | some s' => (s', .taken)
  | none => (s, .refused)

/-- A watch action is taken (R128). -/
def State.watchAct (s : State) (a : WatchAction) : State × WatchOutcome :=
  match a with
  | .notice => (s, .taken)
  | .auxOn n => (s.setAuxLevel n true, .taken)
  | .auxOff n => (s.setAuxLevel n false, .taken)
  | .stop => s.orRefused (s.takeStop .watch)
  | .reverse => s.orRefused s.takeReverse
  | .pace v => s.orRefused (s.takePace v)

/-- Watch entry n, disabled where there is none. -/
def State.watchEntry (s : State) (n : Nat) : Watch := nth s.watch.entries n ⟨.empty, false, 0⟩

/-- Entry n fires for a crossing: its fire count rises, its action is taken, WATCH_FIRED is queued, and a ONCE entry is
spent (R126, R127). -/
def State.fire (s : State) (n : Nat) (c : Crossing) (d : Direction) : State :=
  let w := s.watchEntry n
  let s := { s with watch := { s.watch with
    entries := setNth s.watch.entries n { w with fires := bump255 w.fires, spent := w.cfg.once } } }
  let (s, outcome) := s.watchAct w.cfg.action
  s.queueNotice (.watch n) (.watchFired c d outcome)

/-- A crossing of entry n is tested, as the entry and the machine state stand at the test (R125, R126). -/
def State.testCrossing (n : Nat) (d : Direction) (s : State) (c : Crossing) : State :=
  let w := s.watchEntry n
  if w.live && w.cfg.admits c d s.run.mstate then s.fire n c d else s

/-- The watch unit's work at a sample with a Δ: none where Δ is 0, else every entry in ascending number (R124, R126). -/
def State.watchSample (s : State) (p q : Nat) (delta : Int) : State :=
  if delta = 0 then s
  else
    let d : Direction := if 0 < delta then .forward else .reverse
    (upTo 8).foldl (fun s n => ((s.watchEntry n).cfg.crossings p q delta).foldl (State.testCrossing n d) s) s

end Sys2Proof.Machine
end

