-- ==== Sys2Proof/Machine/AngleUnit.lean ====
section
/-! DEFINITION. The angle unit (chapter 2): the sample timer and the samples, and what it does with a report taken: slip
windows, stall timer, halt wheel count and drift. -/

namespace Sys2Proof.Machine

/-! ### A valid sample (R22, R26, R36) -/

/-- The slip window gathers a sample's travel, saturating at 36000 (R26). -/
def SlipWindow.gather (w : SlipWindow) (delta : Int) : SlipWindow :=
  { w with travel := min 36000 (w.travel + delta.natAbs) }

/-- Every open slip window gathers a sample's travel. -/
def State.gatherTravel (s : State) (delta : Int) : State :=
  { s with angle := { s.angle with windows := s.angle.windows.map fun w => w.map (·.gather delta) } }

/-- The pivot drift check of a valid sample: in STOPPED and HELD an absent halt angle is recorded, and a held one compared
when the sample carries a Δ (R36). -/
def State.pivotDrift (s : State) (delta : Option Int) (q : Nat) : State :=
  let mark (s : State) : State := { s with angle := { s.angle with haltAngle := some q } }
  if s.run.mstate = .stopped ∨ s.run.mstate = .held then
    match s.angle.haltAngle with
    | none => mark s
    | some h =>
      if delta.isSome ∧ s.mval .driftAngle < (angleDiff h q).natAbs then mark (s.raise .drift none) else s
  else s

/-- The three blocks outside the angle unit take a sample with a Δ, one after another in the order given (R94, R118). The
travel accumulator has been updated before; `dir` is the pass direction held at the sample (R24, R114). -/
def State.handOver (s : State) (order : SampleOrder) (dir : Direction) (p q : Nat) (delta : Int) : State :=
  let run (s : State) : State := s.passCheck p delta
  let sector (s : State) : State := s.sectorSample (some dir) q
  let watch (s : State) : State := s.watchSample p q delta
  match order with
  | .rsw => watch (sector (run s))
  | .rws => sector (watch (run s))
  | .srw => watch (run (sector s))
  | .swr => run (watch (sector s))
  | .wrs => sector (run (watch s))
  | .wsr => run (sector (watch s))

/-- The held angle and the previous sample become q, marked valid, and a run of invalid samples ends (R22, steps 2 and 3). -/
def State.holdAngle (s : State) (q : Nat) : State :=
  let s' := { s with angle := { s.angle with held := q, heldValid := true, previous := some q, invalidRun := false } }
  if s.angle.invalidRun then s'.latchKind .angleInvalid none else s'

/-- A valid sample of angle q (R22). The first after a reset carries no Δ: the sector table establishes the cap from it, and
nothing else is handed over. -/
def State.validSample (s : State) (q : Nat) (order : SampleOrder) : State :=
  match s.angle.previous with
  | none => ((s.holdAngle q).sectorSample none q).pivotDrift none q
  | some p =>
    let delta := angleDiff p q
    let s := ((s.holdAngle q).passTravel delta).handOver order s.passDirection p q delta
    (s.gatherTravel delta).pivotDrift (some delta) q

/-- An invalid sample: the held angle is marked invalid, and the first of a run raises ANGLE_INVALID (R23). -/
def State.invalidSample (s : State) : State :=
  let first := !s.angle.invalidRun
  let s := { s with angle := { s.angle with heldValid := false, invalidRun := true } }
  if first then s.raise .angleInvalid none else s

/-- The sample a completed read gives: valid when the position is 0 to 35999 and the error indication clear (R20). -/
def State.takeSample (position : Nat) (error : Bool) (order : SampleOrder) (s : State) : State :=
  if position < 36000 ∧ error = false then s.validSample position order else s.invalidSample

/-! ### A report taken: the slip window (R26 to R31) -/

/-- The expected distance of a window in millimetres (R27, step 1). -/
def expectedMm (travel radius : Nat) : Nat := roundHalfUp (travel * radius * 17453) 1000000

/-- The wheel distance of a window in millimetres (R27, step 3). -/
def wheelMm (counts scale : Nat) : Nat := roundHalfUp (counts * scale) 10

/-- The raw slip in per-mille (R27, step 4). -/
def rawSlip (expected wheel : Nat) : Nat :=
  if wheel ≤ expected then 0 else min 1000 (roundHalfUp ((wheel - expected) * 1000) wheel)

/-- The smoothed slip factor (R28). -/
def nextSlip (old raw : Nat) : Nat := min 300 (roundHalfUp (3 * old + raw) 4)

/-- The slip window of tower k opens at a wheel count (R26). -/
def State.openWindow (s : State) (k : Nat) (wheel : U16) : State :=
  { s with angle := { s.angle with windows := setNth s.angle.windows k (some ⟨0, wheel⟩) } }

/-- The raw slip of an open window closing at a wheel count (R27). -/
def State.windowSlip (s : State) (k : Nat) (w : SlipWindow) (wheel : U16) : Nat :=
  rawSlip (expectedMm w.travel (s.tval k .radius)) (wheelMm (wheelTravel w.startCount wheel) (s.tval k .wheelScale))

/-- An open window closes at a report's wheel count: the slip factor unless frozen, the over-limit run count, the window
opened again, and SLIP when the count reaches the persistence (R27 to R29). R27 reopens the window "again at once" and R31
leaves none open in HELD; the model reopens it before the raising, so an entry to HELD that the raising brings about discards
it (assumption log 27). -/
def State.closeWindow (s : State) (k : Nat) (w : SlipWindow) (wheel : U16) : State :=
  let raw := s.windowSlip k w wheel
  let count := if s.tval k .slipLimit < raw then nth s.angle.overLimit k 0 + 1 else 0
  let raised := decide (s.tval k .slipLimit < raw ∧ s.tval k .slipPersistence ≤ count)
  let s := s.setDyn k fun d => if d.slipFrozen then d else { d with slip := nextSlip d.slip raw }
  let s := { s with angle := { s.angle with overLimit := setNth s.angle.overLimit k (if raised then 0 else count) } }
  let s := s.openWindow k wheel
  if raised then s.raise .slip (some k) else s

/-- An open window closes at this report: it is due, or its tower's wheel scale is below 16 and its counts are 30000 or more
(R27, R30). -/
def State.windowCloses (s : State) (k : Nat) (w : SlipWindow) (wheel : U16) : Bool :=
  decide (s.tval k .slipWindow ≤ w.travel) ||
    (decide (s.tval k .wheelScale < 16) && decide (30000 ≤ wheelTravel w.startCount wheel))

/-- The slip window of tower k at a report taken. -/
def State.slipExamine (s : State) (k : Nat) (r : Report) : State :=
  match nth s.angle.windows k none with
  | some w => if s.windowCloses k w r.wheel then s.closeWindow k w r.wheel else s
  | none =>
    if s.run.mstate.moving ∧ (s.tower k).dyn.status = .driving then s.openWindow k r.wheel else s

/-! ### A report taken: stall timer, wheel movement, halt wheel count and drift (R32, R34, R35) -/

/-- The stall timer after a report (R32). -/
def stallAfter (clock : Nat) (lastOrder : Nat) (r : Report) (t : StallTimer) : StallTimer :=
  if 0 < lastOrder ∧ 0 < r.executing then
    match t with
    | .running c since => if c = r.wheel then .running c since else .running r.wheel clock
    | .idle => .running r.wheel clock
  else .idle

/-- The stall timer of tower k at a report taken, and wheel movement, at which the cause of a STALL record clears (R32). -/
def State.stallExamine (s : State) (k : Nat) (prev : Option Report) (r : Report) : State :=
  let s' := s.setDyn k fun d => { d with stall := stallAfter s.clock d.lastOrder r d.stall }
  match prev with
  | some p => if p.wheel = r.wheel then s' else s'.latchKind .stall (some k)
  | none => s'

/-- The halt wheel count after a report: set where absent when the tower is ordered 0, executes 0 and does not run (R34). -/
def haltAfter (lastOrder : Nat) (r : Report) (h : Option U16) : Option U16 :=
  if h = none ∧ lastOrder = 0 ∧ r.executing = 0 ∧ r.driveState ≠ .running then some r.wheel else h

/-- The halt wheel count of tower k at a report taken, and the drift check in STOPPED and HELD, with the drift mark (R34,
R35). -/
def State.haltExamine (s : State) (k : Nat) (r : Report) : State × Bool :=
  let s := s.setDyn k fun d => { d with haltWheel := haltAfter d.lastOrder r d.haltWheel }
  match (s.tower k).dyn.haltWheel with
  | some h =>
    if (s.run.mstate = .stopped ∨ s.run.mstate = .held) ∧ s.tval k .driftLimit < wheelTravel h r.wheel then
      ((s.raise .drift (some k)).setDyn k fun d => { d with haltWheel := some r.wheel }, true)
    else (s, false)
  | none => (s, false)

/-- What the angle unit does with a report taken from tower k, whose report before was `prev`; the answer marks the report as
showing drift (R69 step 4). -/
def State.angleExamine (s : State) (k : Nat) (prev : Option Report) (r : Report) : State × Bool :=
  ((s.slipExamine k r).stallExamine k prev r).haltExamine k r

/-! ### The events -/

/-- The sample timer expires and restarts, and a read begins; it ends with ENCODER_READ_COMPLETE or ENCODER_READ_TIMEOUT
(R20). -/
def State.sampleTimerExpires (s : State) : State :=
  let s := s.runOut s.angle.sampleTimer
  { s with angle := { s.angle with sampleTimer := s.startTimer 100, reading := true } }

/-- SAMPLE_TIMER_EXPIRY. -/
def execSampleTimerExpiry (s : State) : Host.Outcome State Fault Refusal := event State.sampleTimerExpires s

/-- The read in progress ends. -/
def State.endRead (s : State) : State := { s with angle := { s.angle with reading := false } }

/-- The 1 ms within which a read answers has not passed: the read began at the expiry at which the sample timer restarted
(R20). -/
def State.readInTime (s : State) : Bool := decide (s.clock ≤ s.angle.sampleTimer.startedAt + 1)

/-- A read delivers its position word: the sample is taken if a read is in progress and 1 ms has not passed. A word with no
read begun, or one that comes later, answers no read and changes nothing (R20; assumption log 10). -/
def State.readCompletes (position : Nat) (error : Bool) (order : SampleOrder) (s : State) : State :=
  if s.angle.reading ∧ s.readInTime then s.endRead.takeSample position error order else s

/-- A read in progress has not answered within 1 ms of the expiry: its sample is taken then, and is invalid (R20). -/
def State.readTimesOut (s : State) : State :=
  if s.angle.reading then (s.runTo (s.angle.sampleTimer.startedAt + 1)).endRead.invalidSample else s

/-- ENCODER_READ_COMPLETE. -/
def execEncoderReadComplete (position : Nat) (error : Bool) (order : SampleOrder) (s : State) :
    Host.Outcome State Fault Refusal :=
  event (State.readCompletes position error order) s

/-- ENCODER_READ_TIMEOUT. -/
def execEncoderReadTimeout (s : State) : Host.Outcome State Fault Refusal := event State.readTimesOut s

/-- The stall timer of tower k reaches the stall time (R33). -/
def State.stallTimerExpires (k : Nat) (s : State) : State :=
  match (s.tower k).dyn.stall with
  | .running _ since => (s.runTo (since + s.tval k .stallTime * 1000)).stallExpires k
  | .idle => s

/-- STALL_TIMER_EXPIRY. -/
def execStallTimerExpiry (tower : Nat) (s : State) : Host.Outcome State Fault Refusal :=
  event (State.stallTimerExpires tower) s

end Sys2Proof.Machine
end

