-- ==== Sys2Proof/Machine/SpanLine.lean ====
section
/-! DEFINITION. The span line master (chapter 4): slots and rounds, the reply window, the taking of reports, misses and link
states, and quiet mode. -/

namespace Sys2Proof.Machine

/-! ### The report record (R6) -/

/-- The executing order as stored: a value above 1000 is stored as 1000. -/
def executingOf (w : U16) : Nat := min 1000 w.toNat

/-- The joint angle as stored for tower k of n: absent for tower N and for the absent marker, else clamped into ±3000. -/
def jointOf (k n : Nat) (w : U16) : Option Int :=
  if k = n ∨ w = 0x8000 then none else some (clampInt (-3000) 3000 w.toInt)

/-- The report record of a frame taken from tower k of n at a clock reading (R6, 11.2). -/
def reportOf (k n clock : Nat) (f : ReportFrame) : Report :=
  { driveState := (driveStateOf f.driveState).getD .stopped
    executing := executingOf f.executing
    joint := jointOf k n f.joint
    wheel := f.wheel
    switchClosed := f.status.getLsbD 0
    supplyOk := f.status.getLsbD 1
    takenAt := clock }

/-! ### Taking a report (R69 to R72, R78) -/

/-- Tower k's record takes a report: the report record, count 0, ONLINE, and the status derived (R69 steps 1 to 3). -/
def TowerDynamic.takeReport (d : TowerDynamic) (r : Report) : TowerDynamic :=
  { d with report := some r, misses := 0, link := .online, status := towerStatus .online (some r) }

/-- The report shows a change (R72): no report before, another switch state, another status, or the drift mark. -/
def showsChange (before : TowerDynamic) (r : Report) (drift : Bool) : Bool :=
  match before.report with
  | none => true
  | some p => p.switchClosed != r.switchClosed || before.status != towerStatus .online (some r) || drift

/-- The outcome of a survey slot is clean (R78): RESTING, switch closed, no drift mark. -/
def surveyClean (r : Report) (drift : Bool) : Bool := r.driveState == .resting && r.switchClosed && !drift

/-- What the line mode and its timers make of a report taken (R72, R78): in a DRIVE slot a change restarts the quiet timer in
ACTIVE and ends QUIET; in a survey slot a report that is not clean ends QUIET. -/
def State.judgeReport (s : State) (kind : SlotKind) (before : TowerDynamic) (r : Report) (drift : Bool) : State :=
  match kind with
  | .survey => if surveyClean r drift then s else s.leaveQuiet
  | _ =>
    if showsChange before r drift then (if s.span.mode = .active then s.restartQuiet else s.leaveQuiet) else s

/-- A REPORT is taken from tower k in a slot of a kind (R69): the record, the link faults it clears, DRIVE_FAULT (R71), the
examinations, the judgement of change; then the tests of PRESTART and of STOPPING, which a report may complete (R89, R96). -/
def State.takeReport (s : State) (kind : SlotKind) (k : Nat) (f : ReportFrame) : State :=
  let before := (s.tower k).dyn
  let r := reportOf k s.towerCount s.clock f
  let s := s.setDyn k fun d => d.takeReport r
  let s := if before.link = .missing ∨ before.link = .lost then
    (s.latchKind .linkMiss (some k)).latchKind .linkLost (some k) else s
  let s := if r.driveState = .fault ∧ 0 < (s.tower k).dyn.lastOrder then s.raise .driveFault (some k) else s
  let (s, drift) := s.angleExamine k before.report r
  let s := s.faultExamine k r
  (s.judgeReport kind before r drift).prestartTest.stoppingTest

/-- The phase of the slot in progress set. -/
def State.setPhase (s : State) (sl : Slot) (ph : SlotPhase) : State :=
  { s with span := { s.span with slot := some { sl with phase := ph } } }

/-- A REPORT that passes R60 is examined against the open reply window (R65, R67, R13): taken when its address and echo fit,
which closes the window; discarded otherwise. -/
def State.examineReport (s : State) (f : ReportFrame) : State :=
  match s.span.slot with
  | some sl =>
    if sl.phase = .window ∧ sl.left = false ∧ f.address.toNat = sl.tower ∧ f.echo = sl.interval then
      (s.setPhase sl .waiting).takeReport sl.kind sl.tower f
    else s
  | none => s

/-! ### The receiver (R60, R182) -/

/-- The line receiver takes no bytes while the part itself is transmitting (R60). -/
def State.spanDeaf (s : State) : Bool :=
  match s.span.slot with
  | some sl => sl.phase == .sending
  | none => false

/-- One byte arrives on the span line: the receiver assembles it, and a REPORT it completes is examined unless it is
discarded. -/
def State.spanByte (s : State) (b : Byte) : State :=
  if s.spanDeaf then s
  else
    let (rx, done) := spanRxByte s.span.rx b
    let s := { s with span := { s.span with rx := rx } }
    match done.bind reportFrameOf with
    | some f => s.examineReport f
    | none => s

/-- REPORT_RECEIVED: the bytes that arrive, the last of them ending the frame. -/
def execReportReceived (bytes : List Byte) (s : State) : Host.Outcome State Fault Refusal :=
  event (fun s => bytes.foldl State.spanByte s) s

/-- SPAN_FRAME_GAP: a frame in progress is abandoned, and the byte that ended the gap is examined as a hunting byte
(R182). -/
def execSpanFrameGap (byte : Byte) (s : State) : Host.Outcome State Fault Refusal :=
  event (fun s => ({ s with span := { s.span with rx := [] } } : State).spanByte byte) s

/-- SPAN_FRAME_KIND_NOT_REPORT: where the kind of a frame is awaited, a kind other than 0x81 is not assembled and the
receiver hunts from the next byte (R182). Elsewhere the byte is none of this event's. -/
def execSpanFrameKindNotReport (kind : Byte) (s : State) : Host.Outcome State Fault Refusal :=
  event (fun s => if s.span.rx.length = 2 ∧ kind ≠ reportKind then s.spanByte kind else s) s

/-! ### Misses (R73) -/

/-- A miss is counted against tower k (R73). -/
def State.countMiss (s : State) (k : Nat) : State :=
  let limit := s.mval .missLimit
  let d := (s.tower k).dyn
  let lost (s : State) (c : Nat) : State :=
    (s.setDyn k fun d => { d with misses := c, link := .lost, status := .absent }).raise .linkLost (some k)
  match d.link with
  | .absent => s
  | .online =>
    if limit ≤ 1 then
      ((s.setDyn k fun d => { d with misses := 1, link := .lost, status := .absent }).raise .linkMiss (some k)).raise
        .linkLost (some k)
    else (s.setDyn k fun d => { d with misses := 1, link := .missing }).raise .linkMiss (some k)
  | .missing =>
    if limit ≤ d.misses + 1 then lost s limit else s.setDyn k fun d => { d with misses := d.misses + 1 }
  | .lost => s.setDyn k fun d => { d with misses := limit }

/-! ### Slots (R62 to R66, R76, R78, R79) -/

/-- The part's frame ends: the reply window of a DRIVE or SURVEY slot opens; a REST has none (R63, R76). -/
def State.spanFrameEnds (s : State) : State :=
  match s.span.slot with
  | some sl =>
    if sl.phase = .sending then
      match sl.kind with
      | .rest => s.setPhase sl .waiting
      | _ => s.setPhase { sl with windowAt := s.clock } .window
    else s
  | none => s

/-- SPAN_FRAME_SENT. -/
def execSpanFrameSent (s : State) : Host.Outcome State Fault Refusal := event State.spanFrameEnds s

/-- The reply window expires, 10 ms after it opened, with no REPORT taken: a miss, but for a tower that has left the machine;
a miss in QUIET returns the line to ACTIVE (R66, R77, R78, R81). -/
def State.windowExpires (s : State) : State :=
  match s.span.slot with
  | some sl =>
    if sl.phase = .window then
      let s := (s.runTo (sl.windowAt + 10)).setPhase sl .waiting
      if sl.left then s else (s.countMiss sl.tower).leaveQuiet
    else s
  | none => s

/-- REPLY_WINDOW_EXPIRY. -/
def execReplyWindowExpiry (s : State) : Host.Outcome State Fault Refusal := event State.windowExpires s

/-- The survey timer starts with the survey interval. -/
def State.startSurveyTimer (s : State) : State :=
  { s with span := { s.span with surveyTimer := some (s.startTimer (s.mval .surveyInterval * 1000)) } }

/-- What follows the end of a slot (R62, R76, R78, R79): after a REST in ACTIVE, a DRIVE round; in ACTIVE the DRIVE slot of the
next tower; in QUIET the next survey slot, or the REST that is due. -/
def State.afterSlot (s : State) (sl : Slot) : State :=
  let next := sl.tower + 1
  match s.span.mode, sl.kind with
  | .active, .rest => s.beginDriveRound
  | .active, _ => if next ≤ s.towerCount then s.beginDriveSlot next else s
  | .quiet, .survey => if next ≤ s.towerCount then s.beginSurveySlot next else s.startSurveyTimer
  | .quiet, .drive => if s.span.restDue then s.beginRest else s
  | .quiet, .rest => s

/-- The 15 ms of the slot in progress run out, whatever its phase (R63; assumption log 12). -/
def State.slotEnds (s : State) : State :=
  match s.span.slot with
  | some sl =>
    let s := s.runTo (sl.startedAt + 15)
    ({ s with span := { s.span with slot := none } } : State).afterSlot sl
  | none => s

/-- SLOT_END. -/
def execSlotEnd (s : State) : Host.Outcome State Fault Refusal := event State.slotEnds s

/-! ### Quiet mode (R75, R76, R78) -/

/-- The conditions for QUIET (R76). -/
def State.quietAllowed (s : State) : Bool := s.run.mstate == .stopped && s.allReady && s.allZero

/-- The line enters QUIET (R76): the REST follows the slot in progress, or is sent at once. -/
def State.enterQuiet (s : State) : State :=
  let s := { s with span := { s.span with mode := .quiet, quietTimer := none } }
  let s := s.startSurveyTimer.queueNotice .machine (.quiet false)
  if s.span.slot.isNone then s.beginRest else { s with span := { s.span with restDue := true } }

/-- The quiet timer expires: QUIET, or another quiet delay (R76). -/
def State.quietExpires (s : State) : State :=
  match s.span.quietTimer with
  | some t => if (s.runOut t).quietAllowed then (s.runOut t).enterQuiet else (s.runOut t).restartQuiet
  | none => s

/-- QUIET_TIMER_EXPIRY. -/
def execQuietTimerExpiry (s : State) : Host.Outcome State Fault Refusal := event State.quietExpires s

/-- The survey timer expires in QUIET: a SURVEY round begins (R78). A slot still in progress then leaves no line for it, and
the timer restarts (assumption log 13). -/
def State.surveyExpires (s : State) : State :=
  match s.span.surveyTimer with
  | some t =>
    let s := s.runOut t
    if s.span.slot.isNone ∧ 1 ≤ s.towerCount then
      ({ s with span := { s.span with surveyTimer := none } } : State).beginSurveySlot 1
    else s.startSurveyTimer
  | none => s

/-- SURVEY_TIMER_EXPIRY. -/
def execSurveyTimerExpiry (s : State) : Host.Outcome State Fault Refusal := event State.surveyExpires s

end Sys2Proof.Machine
end

