-- ==== Sys2Proof/Machine/OrderEngine.lean ====
section
/-! DEFINITION. The order engine (chapter 3): the work of a drive interval expiry. -/

namespace Sys2Proof.Machine

/-! ### Effective pace and the straggler hold (R42 to R46) -/

/-- Creep pace applies: a JOINT_WARN record of some tower 1..N is DEFERRED and ACTIVE (R44). -/
def State.creeps (s : State) : Bool := s.members.any fun k => s.fallback .jointWarn k

/-- The host pace of the pass record, 0 where there is none. -/
def State.hostPace (s : State) : Nat :=
  match s.run.pass with
  | some p => p.pace
  | none => 0

/-- The effective pace of a computation (R41, R42). -/
def State.effectivePace (s : State) : Nat :=
  if s.run.mstate = .running then
    let v := min s.hostPace s.sectors.cap
    if s.creeps then min v (s.mval .creepPace) else v
  else 0

/-- The effective joint angle of tower k: positive where the tower leads the line in the pass direction (R45). -/
def State.effectiveJoint (s : State) (k : Nat) : Int :=
  signed s.passDirection (jointAngle (s.tower k).dyn.report)

/-- The inner towers, 1 to N − 1. -/
def State.inner (s : State) : List Nat := upTo (s.towerCount - 1)

/-- The straggler hold: H is not 0 and some inner tower's effective joint angle is at or below −H (R46). -/
def State.straggler (s : State) : Bool :=
  s.mval .stragglerAngle != 0 && s.inner.any fun k => decide (s.effectiveJoint k ≤ -(s.mval .stragglerAngle : Int))

/-- The working pace P* (R46). -/
def State.workingPace (s : State) : Nat := if s.straggler then 0 else s.effectivePace

/-! ### Targets (R47 to R51) -/

/-- The feedforward of an inner tower (R47). -/
def State.feedforward (s : State) (k : Nat) : Nat :=
  let n := s.towerCount
  roundHalfUp (s.workingPace * s.tval n .ratedSpeed * s.tval k .radius) (s.tval k .ratedSpeed * s.tval n .radius)

/-- A joint angle with the deadband removed (R48, step 1). -/
def beyondDeadband (d : Nat) (a : Int) : Int :=
  if a.natAbs ≤ d then 0 else if 0 < a then a - d else a + d

/-- The correction of an inner tower, truncated toward zero (R48, step 2). -/
def State.correction (s : State) (k : Nat) : Int :=
  (-(s.tval k .gain : Int) * beyondDeadband (s.tval k .deadband) (s.effectiveJoint k)).tdiv 100

/-- The unshaped target: feedforward and correction, or the working pace for tower N (R48, R49). -/
def State.unshaped (s : State) (k : Nat) : Int :=
  if k = s.towerCount then (s.workingPace : Int) else (s.feedforward k : Int) + s.correction k

/-- A target shaped by slip, max order and min-run order (R50). -/
def shape (slip minRun maxOrder : Nat) (u : Int) : Nat :=
  if u ≤ 0 then 0
  else
    let v := min maxOrder (roundHalfUp (u.toNat * 1000) (1000 - slip))
    if v < minRun then 0 else v

/-- The target of tower k: 0 in STOPPING, the max order under the deferred STALL fallback, else as shaped (R50, R51). -/
def State.target (s : State) (k : Nat) : Nat :=
  if s.run.mstate ≠ .running then 0
  else if s.fallback .stall k then s.tval k .maxOrder
  else shape (s.tower k).dyn.slip (s.tval k .minRun) (s.tval k .maxOrder) (s.unshaped k)

/-! ### The ramp (R52 to R56) -/

/-- The order from a target, the previous order and the ramp step (R52 to R54). -/
def rampStep (minRun step target prev : Nat) : Nat :=
  if target = 0 then (if prev - step < minRun then 0 else prev - step)
  else if prev = 0 then max minRun (min target step)
  else clampNat (prev - step) (prev + step) target

/-- An order brought within the tower's limits as they stand (R55). -/
def withinLimits (minRun maxOrder target v : Nat) : Nat :=
  let w := min maxOrder v
  if target ≠ 0 ∧ 0 < w ∧ w < minRun then minRun else w

/-- The order the computation gives tower k in RUNNING and STOPPING, by its ramp or the stop ramp (R52 to R56). -/
def State.order (s : State) (k : Nat) : Nat :=
  let step := if s.run.mstate = .stopping then s.mval .stopRamp else s.tval k .ramp
  let t := s.target k
  withinLimits (s.tval k .minRun) (s.tval k .maxOrder) t
    (rampStep (s.tval k .minRun) step t (s.tower k).dyn.lastOrder)

/-! ### The order set (R41, R57, R58) -/

/-- Every tower 1..N has last order sent 0 and a last line order of 0 (R57). -/
def State.towersClear (s : State) : Bool :=
  s.members.all fun k => (s.tower k).dyn.lastOrder == 0 && (nth s.span.lastLine k none).getD 0 == 0

/-- The set direction the expiry decides (R57). -/
def State.decideDirection (s : State) : Direction :=
  match s.run.pass with
  | some p => if p.direction ≠ s.engine.direction ∧ s.towersClear = true then p.direction else s.engine.direction
  | none => s.engine.direction

/-- The pass runs in another direction than the set direction held and some tower is not clear: every order is 0 (R57). -/
def State.turnWaits (s : State) : Bool :=
  match s.run.pass with
  | some p => p.direction != s.engine.direction && !s.towersClear
  | none => false

/-- The order of tower k in the set (R41, R57). -/
def State.setOrder (s : State) (k : Nat) : Nat :=
  if s.run.mstate.moving ∧ s.turnWaits = false then s.order k else 0

/-- The order set of an expiry (R58). -/
structure OrderSet where
  interval : Byte
  direction : Direction
  orders : List (Nat × Nat)
  deriving DecidableEq, Repr, Inhabited

/-- The set computed from the values held, with the interval number as it stands. -/
def State.computeSet (s : State) : OrderSet :=
  ⟨s.engine.interval, s.decideDirection, s.members.map fun k => (k, s.setOrder k)⟩

/-- A tower's record takes an order of the set (R7, R32, R34): order 0 idles its stall timer, any other discards its halt
wheel count. -/
def TowerDynamic.takeOrder (d : TowerDynamic) (v : Nat) (dir : Direction) : TowerDynamic :=
  { d with
    lastOrder := v, lastDirection := dir
    stall := if v = 0 then .idle else d.stall
    haltWheel := if v = 0 then d.haltWheel else none }

/-- The hand-over of a set (R58): the tower records, the set direction held, the set interval number, and in ACTIVE a DRIVE
round where none is in progress (R62, R64). -/
def State.handSet (s : State) (os : OrderSet) : State :=
  let s := os.orders.foldl (init := s) fun s (k, v) => s.setDyn k fun d => d.takeOrder v os.direction
  let s := { s with
    engine := { s.engine with direction := os.direction }
    span := { s.span with setInterval := some os.interval } }
  if s.span.mode = .active ∧ s.span.slot = none then s.beginDriveRound else s

/-- The drive interval expires (R39): pending tuning, interval number, computation, hand-over and restart; then the test of
STOPPING, which a last order of 0 may complete (R96). -/
def State.intervalExpires (s : State) : State :=
  match s.engine.timer with
  | some t =>
    let s := (s.runOut t).applyPending
    let s := { s with engine := { s.engine with interval := s.engine.interval + 1 } }
    let os := s.computeSet
    let s := ({ s with engine := { s.engine with pEff := s.effectivePace } } : State).handSet os
    let s := { s with engine := { s.engine with timer := some (s.startTimer (s.mval .driveInterval)) } }
    s.stoppingTest
  | none => s

/-- DRIVE_INTERVAL_EXPIRY. -/
def execDriveIntervalExpiry (s : State) : Host.Outcome State Fault Refusal := event State.intervalExpires s

end Sys2Proof.Machine
end

