-- ==== Sys2Proof/Machine/Store.lean ====
section
/-! DEFINITION. The configuration store (chapter 10): STORE_CONFIG and its write, loading at a reset, the retained run record at
a loss and a return of power, recovery, and the resets themselves. -/

namespace Sys2Proof.Machine

/-! ### STORE_CONFIG (R170 to R173) -/

/-- The recovery settings with those a STORE_CONFIG carries in place, if each carried one is in range (R171, R172). -/
def carriedSettings (old : RecoverySettings) (presence policy : Byte) (delay tolerance : U16) : Option RecoverySettings := do
  let policy ← if presence.getLsbD 0 then policyOf policy else some old.policy
  let delay ← if presence.getLsbD 1 then (if 5 ≤ delay.toNat ∧ delay.toNat ≤ 600 then some delay.toNat else none)
    else some old.delay
  let tolerance ← if presence.getLsbD 2 then (if tolerance.toNat ≤ 500 then some tolerance.toNat else none)
    else some old.tolerance
  some ⟨policy, delay, tolerance⟩

/-- The configuration image as it stands: pending tuning in place of the applied values, the pending sector table if one is
held, and the configured fields alone of what else is stored (R170). -/
def State.snapshot (s : State) : ConfigImage :=
  let c := s.candidate []
  { machine := c.table.machine
    towers := c.table.towers.map (·.cfg)
    sectors := (s.sectors.pending.getD s.sectors.installed).map Sector.rearm
    watches := s.watch.entries.map (·.cfg)
    modes := s.faults.modes
    priorities := s.panel.priorities
    filters := s.panel.filters
    recovery := s.store.settings }

/-- STORE_CONFIG as the store takes it (R172). Accepted, it has no answer until its write completes. -/
def State.takeStoreConfig (s : State) (presence policy : Byte) (delay tolerance : U16) : State × Option Answer :=
  if s.run.mstate ≠ .unconfigured ∧ s.run.mstate ≠ .stopped then (s, some (.fail .wrongState))
  else
    match carriedSettings s.store.settings presence policy delay tolerance with
    | none => (s, some (.fail .badValue))
    | some settings =>
      let s : State := { s with store := { s.store with settings := settings } }
      ({ s with store := { s.store with writing := some s.snapshot } }, none)

/-- The reply of the request in service is made ready. -/
def State.makeReady (s : State) (a : Answer) : State :=
  match s.panel.service with
  | some ⟨t, none⟩ => { s with panel := { s.panel with service := some ⟨t, some ⟨t, a.status, a.reason, a.body⟩⟩ } }
  | _ => s

/-- The check value of an image (R181): the CRC-32 over its bytes in the order stored. -/
def ConfigImage.check (i : ConfigImage) : U32 := crc32 (Config.imageBytes i)

/-- The store write and its verify complete: the stored copy is the image followed by its check value, low byte first, or one
whose check fails, and the reply is made ready (R172, R181). -/
def State.writeCompletes (verified : Bool) (s : State) : State :=
  match s.store.writing with
  | some image =>
    let s := { s with store := { s.store with
      writing := none, stored := if verified then .written image (u32Bytes image.check) else .failing } }
    s.makeReady (if verified then .ok (.stored image.recovery image.check) else .fail .storeFailed)
  | none => s

/-- STORE_WRITE_COMPLETE. -/
def execStoreWriteComplete (verified : Bool) (s : State) : Host.Outcome State Fault Refusal :=
  event (State.writeCompletes verified) s

/-- A write in progress is lost with the supply or at a reset: the next load finds the check failed (R173). -/
def State.loseWrite (s : State) : State :=
  if s.store.writing.isSome then { s with store := { s.store with writing := none, stored := .failing } } else s

/-- SUPPLY_LOSS: the part stops where it stands (R173). -/
def execSupplyLoss (s : State) : Host.Outcome State Fault Refusal := .next { s.loseWrite with powered := false }

/-! ### Power return (R177) -/

/-- The record of the stored trip kind is placed in the fault list at a return of class TRIPPED that follows a reset; one of
that kind with no tower that the list holds already stands for it (R177; assumption log 17). -/
def State.restoreTrip (s : State) (k : FaultKind) : State :=
  let angle := match s.store.record.captured with
    | some (a, _) => a
    | none => 0
  if (s.faultRecord k none).isNone ∧ s.faults.records.length < 32 then
    { s with faults := { s.faults with records := s.faults.records ++ [⟨k, none, .hard, .latched, angle, angle, 1⟩] } }
  else s

/-- The machine enters the state that the retained record and the recovery policy give (R177). `announce` is false at a
reset, where no STATE notice is queued (R174). The trip kind is absent in a POWER_WAIT entered at power-on, and held in one
entered from TRIPPED, so its absence marks a return that follows a reset. -/
def State.powerReturn (s : State) (announce : Bool) : State :=
  let r := s.store.record
  let policy := s.store.settings.policy
  let go (s : State) (m : MState) : State := s.enterWith announce m none none none
  let withPass := s.setRun fun c => { c with pass := r.pass }
  let recovery (s : State) (d : RecoveryData) : State := s.queueNotice .machine (.recovery d)
  if r.valid = false then go s .stopped
  else
    match r.cls with
    | .other => go s .stopped
    | .tripped =>
      let s' := match s.run.tripKind, r.tripKind with
        | none, some k => s.restoreTrip k
        | _, _ => s
      go (s'.setRun fun c => { c with tripKind := r.tripKind }) .tripped
    | .held =>
      match policy with
      | .stayStopped => recovery (go s .stopped) (.refused .policy)
      | _ => go withPass .held
    | .moving =>
      match policy with
      | .stayStopped => recovery (go s .stopped) (.refused .policy)
      | .resumeHeld => go withPass .held
      | .resume =>
        let s' := withPass.setRun fun c => { c with recoveryTimer := some (s.startTimer (s.store.settings.delay * 1000)) }
        recovery (go s' .recovering) .pending

/-! ### Power loss (R176) -/

/-- The power-fail input asserts (R176): the run state is captured, and the machine enters POWER_WAIT with every order 0. -/
def State.powerFails (s : State) : State :=
  if s.run.mstate = .unconfigured ∨ s.run.mstate = .powerWait then s
  else
    let s := (s.rewriteRecord (some (s.angle.held, s.angle.heldValid))).zeroOrders
    (s.setRun fun c =>
      { c with prestartTimer := none, startFailTimer := none, stopTimer := none, recoveryTimer := none,
               pass := none }).enter .powerWait

/-- POWER_FAIL_ASSERT. The level is the input's own, whether the part has supply or not. -/
def execPowerFailAssert (s : State) : Host.Outcome State Fault Refusal :=
  if s.inputs.powerFail then .next s
  else event State.powerFails { s with inputs := { s.inputs with powerFail := true } }

/-- The power-fail input de-asserts: in POWER_WAIT power returns (R177); in any other state nothing changes. -/
def State.powerReturns (s : State) : State :=
  if s.run.mstate = .powerWait then s.powerReturn true else s

/-- POWER_FAIL_DEASSERT. -/
def execPowerFailDeassert (s : State) : Host.Outcome State Fault Refusal :=
  if s.inputs.powerFail then event State.powerReturns { s with inputs := { s.inputs with powerFail := false } }
  else .next s

/-! ### Recovery (R179) -/

/-- The first recovery condition that fails (R179). -/
def State.recoveryRefusal (s : State) : Option RecoveryReason :=
  let angleHolds := match s.store.record.captured with
    | some (a, valid) => valid && s.angle.heldValid &&
        decide ((angleDiff a s.angle.held).natAbs ≤ s.store.settings.tolerance)
    | none => false
  if !angleHolds then some .angle
  else if !(s.members.all fun k => (s.tower k).dyn.link == .online) then some .tower
  else if !s.inputs.chainClosed then some .chain
  else if s.blockingFault then some .fault
  else none

/-- The recovery timer expires in RECOVERING: PRESTART with the restored pass, or STOPPED with it discarded (R179). -/
def State.recoveryExpires (s : State) : State :=
  match s.run.mstate, s.run.recoveryTimer with
  | .recovering, some t =>
    let s := (s.runOut t).setRun fun c => { c with recoveryTimer := none }
    match s.recoveryRefusal with
    | none => (s.enterPrestart .recovery).queueNotice .machine (.recovery .resumed)
    | some why =>
      ((s.setRun fun c => { c with pass := none }).enter .stopped).queueNotice .machine (.recovery (.refused why))
  | _, _ => s

/-- RECOVERY_TIMER_EXPIRY. -/
def execRecoveryTimerExpiry (s : State) : Host.Outcome State Fault Refusal := event State.recoveryExpires s

/-! ### Resets (R174, R180) -/

/-- The check of a load: the four bytes stored after the image are the check value of that image (R174, R181). -/
def StoredCopy.passes : StoredCopy → Bool
  | .written image check => check == u32Bytes image.check
  | .failing => false

/-- The image a load gives: the stored one, or the empty configuration when its check fails (R174). -/
def StoredCopy.load (c : StoredCopy) : ConfigImage :=
  match c with
  | .written image _ => if c.passes then image else .empty
  | .failing => .empty

/-- Every block right after a reset with an image loaded: its reset values, and what the image holds for it. The stored copy,
the retained record, the input levels and the model's own clock and queue are not the reset's. DESIGN CHOICE (assumption log 32):
the spec does not say what becomes of an encoder read in progress (R20); the reset drops it, and it gives no sample. -/
def State.fresh (s : State) : State :=
  let image := s.store.stored.load
  { State.reset with
    pending := s.pending
    clock := s.clock
    inputs := s.inputs
    table := ⟨image.machine, image.towers.map fun c => ⟨c, .reset⟩, []⟩
    angle := { State.reset.angle with sampleTimer := s.startTimer 100 }
    sectors := { State.reset.sectors with installed := image.sectors.map Sector.rearm }
    watch := { State.reset.watch with entries := image.watches.map fun c => ⟨c, false, 0⟩ }
    faults := { State.reset.faults with modes := image.modes }
    panel := { State.reset.panel with
      tx := .idle, notices := [], priorities := image.priorities, filters := image.filters }
    store := { s.store with settings := image.recovery } }

/-- The timers that a reset starts: the drive interval timer and the quiet timer when the loaded configuration is complete
(R38, R61), and the panel silence timer when its time is set and not 0 (R153). -/
def State.startTimers (s : State) : State :=
  let complete := s.complete
  let silence := s.mval .panelSilence
  { s with
    engine := { s.engine with timer := if complete then some (s.startTimer (s.mval .driveInterval)) else none }
    span := { s.span with
      quietTimer := if complete then some (s.startTimer (s.mval .quietDelay * 1000)) else none }
    panel := { s.panel with silenceTimer := if silence = 0 then none else some (s.startTimer (silence * 1000)) } }

/-- The class at loss is one whose pass or trip a refused recovery tells the panel computer of (R174). -/
def LossClass.matters : LossClass → Bool
  | .moving | .held | .tripped => true
  | .other => false

/-- STOPPED at a reset that finds no valid record: the record stays as it is, invalid (assumption log 18). -/
def State.stoppedAtReset (s : State) : State :=
  { (s.enterWith false .stopped none none none) with store := s.store }

/-- The machine state after a load (R174). -/
def State.decide (s : State) : State :=
  let r := s.store.record
  if s.complete = false then
    let s := { s with store := { s.store with record := { r with valid := false } } }
    if r.valid && r.cls.matters then s.queueNotice .machine (.recovery (.refused .config)) else s
  else if s.inputs.powerFail then s.setRun fun c => { c with mstate := .powerWait }
  else if r.valid then s.powerReturn false
  else s.stoppedAtReset

/-- The reset (R174): the image is loaded, RESTARTED is queued and CONFIG_INVALID behind it when the check fails, the timers
start, and the machine state is decided. -/
def State.resetPart (device : Bool) (s : State) : State :=
  let s := s.loseWrite
  let s := s.fresh.queueNotice .machine (.restarted device)
  let s := if s.store.stored.passes then s else s.queueNotice .machine .configInvalid
  s.startTimers.decide

/-- The retained run record is made invalid. -/
def State.invalidateRecord (s : State) : State :=
  { s with store := { s.store with record := { s.store.record with valid := false } } }

/-- POWER_ON_RESET: power is applied or the external reset input acts. `recordCheck` says whether the retained run record's
own check passes; a record whose check fails is read as invalid (R175). -/
def execPowerOnReset (recordCheck : Bool) (s : State) : Host.Outcome State Fault Refusal :=
  .next ((if recordCheck then s else s.invalidateRecord).resetPart false).transmit

/-- A device reset: the retained run record is invalidated and the part resets (R180). -/
def State.deviceReset (s : State) : State := s.invalidateRecord.resetPart true

/-- DEVICE_RESET. -/
def execDeviceReset (s : State) : Host.Outcome State Fault Refusal := event State.deviceReset s

end Sys2Proof.Machine
end

