-- ==== Sys2Proof/Machine/PanelPort.lean ====
section
/-! DEFINITION. The panel port (chapter 9): its own requests as their owner takes them, the taking of a request, the intake
queue, the receiver, the ends of its frames and the panel silence timer. -/

namespace Sys2Proof.Machine

/-! ### The port's own requests (R159 to R168) -/

/-- SET_NOTICE_PRIORITY (R159). -/
def State.takeSetNoticePriority (s : State) (kind priority : Byte) : State × Answer :=
  match noticeKindOf kind with
  | some k =>
    if 15 < priority.toNat then (s, .fail .badValue)
    else ({ s with panel := { s.panel with priorities := setNth s.panel.priorities k.code priority.toNat } }, .ok)
  | none => (s, .fail .badValue)

/-- SET_NOTICE_MASK (R162). -/
def State.takeSetNoticeMask (s : State) (level : Byte) : State × Answer :=
  if 15 < level.toNat then (s, .fail .badValue)
  else ({ s with panel := { s.panel with mask := level.toNat } }, .ok)

/-- NOTICE_FETCH: the highest-ordered entry whose frame is not being sent leaves the queue with the reply, which carries and
clears the lost mark (R163). -/
def State.takeNoticeFetch (s : State) : State × Answer :=
  let lost := s.panel.lost
  let s' : State := { s with panel := { s.panel with lost := false } }
  match s.highest fun n => n.sending.isNone with
  | some n =>
    ({ s' with panel := { s'.panel with
        notices := s'.panel.notices.filter fun e => !e.isFor n.data.kind n.subject } },
      .ok (.fetched (some ⟨n.subject, n.data, n.count, lost⟩) lost))
  | none => (s', .ok (.fetched none lost))

/-- PANEL_SLEEP (R164). -/
def State.takePanelSleep (s : State) : State × Answer :=
  ({ s with panel := { s.panel with asleep := true, wakeLine := false, silenceTimer := none } }, .ok)

/-- PANEL_AWAKE: its effects are those of every request taken but PANEL_SLEEP (R157, R164). -/
def State.takePanelAwake (s : State) : State × Answer := (s, .ok)

/-- A subject number lies in the range of a kind's class, or in 0..16 when the kind is any (R159, R165). -/
def subjectInClass (kind : Option NoticeKind) (n : Nat) : Bool :=
  match kind with
  | none | some .fault => n ≤ 16
  | some .watchFired => 1 ≤ n && n ≤ 8
  | some _ => n == 0

/-- The filter a SET_WAKE_FILTER carries, if its parts are in range (R165, 11.4). -/
def wakeFilterOf (kind subject minPriority : Byte) : Option WakeFilter := do
  let k ← if kind = 0 then some none else (noticeKindOf kind).map some
  let sub ← if subject = 0xFF then some none
    else if subjectInClass k subject.toNat then some (some subject.toNat) else none
  if minPriority.toNat ≤ 15 then some ⟨k, sub, minPriority.toNat⟩ else none

/-- SET_WAKE_FILTER (R165). -/
def State.takeSetWakeFilter (s : State) (slot useMark kind subject minPriority : Byte) : State × Answer :=
  let n := slot.toNat
  let put (f : Option WakeFilter) : State × Answer :=
    ({ s with panel := { s.panel with filters := setNth s.panel.filters n f } }, .ok)
  if n < 1 ∨ 4 < n then (s, .fail .badValue)
  else if useMark = 0 then put none
  else
    match wakeFilterOf kind subject minPriority with
    | some f => put (some f)
    | none => (s, .fail .badValue)

/-- READ_PORT, with the level of the wake line before the taking (R168). -/
def State.takeReadPort (s : State) (wakeBefore : Bool) : State × Answer :=
  (s, .ok (.port
    { priorities := s.panel.priorities.toList, mask := s.panel.mask, filters := s.panel.filters.toList
      asleep := s.panel.asleep, wakeLine := wakeBefore
      queued := s.panel.notices.length, eligible := (s.panel.notices.filter s.eligible).length
      lost := s.panel.lost, silence := elapsedSeconds s.clock s.panel.silenceTimer }))

/-- RESET_DEVICE: the reset follows its reply (R180). -/
def State.takeResetDevice (s : State) : State × Answer := (s, .ok)

/-! ### Taking a request (R156, R157) -/

/-- The checks of type and length, and the owner of each request (R156). The answer is `none` for an accepted STORE_CONFIG,
whose reply is not yet ready. `wakeBefore` is the wake line's level before the taking. -/
def State.serve (s : State) (wakeBefore : Bool) : Request → State × Option Answer
  | .configMachine p vs => (s.takeConfigMachine p vs).map id some
  | .configTower k p vs => (s.takeConfigTower k p vs).map id some
  | .readTower k => (s.takeReadTower k).map id some
  | .startPass d p pr sa c => (s.takeStartPass d p pr sa c).map id some
  | .setPace p => (s.takeSetPace p).map id some
  | .stopPass => s.takeStopPass.map id some
  | .hold => s.takeHold.map id some
  | .resume => s.takeResume.map id some
  | .reverse => s.takeReverseRequest.map id some
  | .tripReset => s.takeTripReset.map id some
  | .readMachine => s.takeReadMachine.map id some
  | .setSectors m es => (s.takeSetSectors m es).map id some
  | .readSectors c n => (s.takeReadSectors c n).map id some
  | .setWatch n en r h d c st a g rp => (s.takeSetWatch n en r h d c st a g rp).map id some
  | .readWatches => s.takeReadWatches.map id some
  | .setAux n m => (s.takeSetAux n m).map id some
  | .setFaultMode k m => (s.takeSetFaultMode k m).map id some
  | .faultList p => (s.takeFaultList p).map id some
  | .faultClear sel k t => (s.takeFaultClear sel k t).map id some
  | .storeConfig pr po d t => s.takeStoreConfig pr po d t
  | .resetDevice => s.takeResetDevice.map id some
  | .setNoticePriority k p => (s.takeSetNoticePriority k p).map id some
  | .setNoticeMask l => (s.takeSetNoticeMask l).map id some
  | .noticeFetch => s.takeNoticeFetch.map id some
  | .panelSleep => s.takePanelSleep.map id some
  | .panelAwake => s.takePanelAwake.map id some
  | .setWakeFilter n u k sub p => (s.takeSetWakeFilter n u k sub p).map id some
  | .readPort => (s.takeReadPort wakeBefore).map id some
  | .unknown _ => (s, some (.fail .badType))
  | .badLength _ => (s, some (.fail .badLength))

/-- The panel is made AWAKE, the wake line released, and the silence timer restarted if its time is set and not 0 (R157). -/
def State.wakePanel (s : State) : State :=
  let v := s.mval .panelSilence
  { s with panel := { s.panel with
      asleep := false, wakeLine := false
      silenceTimer := if v = 0 then s.panel.silenceTimer else some (s.startTimer (v * 1000)) } }

/-- What every request taken does at its taking (R157): the quiet timer restarts or the line leaves QUIET, an ACTIVE
PANEL_SILENT record is LATCHED, and, but for PANEL_SLEEP, the panel is awake. A frame of PANEL_SLEEP's type that the length
check refuses is not the request PANEL_SLEEP here, and wakes the panel (the model's choice, assumption log 30). -/
def State.noteTaken (s : State) (r : Request) : State :=
  let s := if s.span.mode = .active then s.restartQuiet else s.leaveQuiet
  let s := s.latchKind .panelSilent none
  if r = .panelSleep then s else s.wakePanel

/-- A frame becomes the request in service: it is taken, checked and handed to its owner, and its reply is made ready (R156). -/
def State.take (s : State) (f : PanelFrame) : State :=
  let r := parseRequest f
  let (s', a) := (s.noteTaken r).serve s.panel.wakeLine r
  { s' with panel := { s'.panel with
      service := some ⟨f.type, a.map fun a => ⟨f.type, a.status, a.reason, a.body⟩⟩ } }

/-- A complete frame with a correct check value arrives (R155, R156): it is dropped when four are queued, taken when nothing
is in service and none waits, and queued otherwise. -/
def State.arrive (s : State) (f : PanelFrame) : State :=
  if 4 ≤ s.panel.intake.length then { s with panel := { s.panel with overrun := true } }
  else if s.panel.service.isNone && s.panel.intake.isEmpty then s.take f
  else { s with panel := { s.panel with intake := s.panel.intake ++ [f] } }

/-- The head of the intake queue, if any, is taken (R156). -/
def State.takeNext (s : State) : State :=
  match s.panel.intake with
  | f :: rest => ({ s with panel := { s.panel with intake := rest } } : State).take f
  | [] => s

/-! ### The receiver (R154) -/

/-- One byte arrives on the panel receive line; a frame it completes arrives unless its check value is wrong, and the transmit
side chooses. -/
def State.panelByte (s : State) (b : Byte) : State :=
  let (rx, done) := panelRxByte s.panel.rx b
  let s : State := { s with panel := { s.panel with rx := rx } }
  match done.bind panelFrameOf with
  | some f => (s.arrive f).transmit
  | none => s

/-- PANEL_FRAME_COMPLETE: the bytes that arrive, the last of them ending the frame. -/
def execPanelFrameComplete (bytes : List Byte) (s : State) : Host.Outcome State Fault Refusal :=
  event (fun s => bytes.foldl State.panelByte s) s

/-- PANEL_FRAME_GAP: a frame in progress is abandoned, and the byte that ends the gap is examined as a hunting byte. -/
def execPanelFrameGap (byte : Byte) (s : State) : Host.Outcome State Fault Refusal :=
  event (fun s => ({ s with panel := { s.panel with rx := [] } } : State).panelByte byte) s

/-- PANEL_FRAME_LENGTH_ABOVE_120: where the length of a frame is awaited, a length above 120 discards the frame. Elsewhere the
byte is none of this event's. -/
def execPanelFrameLengthAbove120 (length : Byte) (s : State) : Host.Outcome State Fault Refusal :=
  event (fun s => if s.panel.rx.length = 1 ∧ 120 < length.toNat then s.panelByte length else s) s

/-! ### The ends of the port's frames, and its timer (R156, R162, R167, R180) -/

/-- A reply frame has been sent: that of an accepted RESET_DEVICE is followed by the device reset (R180); after any other
nothing is in service and the next request is taken (R156). -/
def State.replyEnds (s : State) : State :=
  match s.panel.tx with
  | .reply r _ =>
    if r.type = 0x39 ∧ r.status = .ok then s.deviceReset
    else ({ s with panel := { s.panel with tx := .idle, service := none } } : State).takeNext
  | _ => s

/-- REPLY_SENT. -/
def execReplySent (s : State) : Host.Outcome State Fault Refusal := event State.replyEnds s

/-- What becomes of a queued entry when a notice frame has been sent (R162): the entry whose frame it was is removed, or kept
with its arrivals in flight as its count. -/
def Notice.sent (n : Notice) : Option Notice :=
  match n.sending with
  | none => some n
  | some 0 => none
  | some (k + 1) => some { n with count := k + 1, sending := none }

/-- A notice frame has been sent (R162). -/
def State.noticeEnds (s : State) : State :=
  match s.panel.tx with
  | .notice _ => { s with panel := { s.panel with tx := .idle, notices := s.panel.notices.filterMap Notice.sent } }
  | _ => s

/-- NOTICE_FRAME_SENT. -/
def execNoticeFrameSent (s : State) : Host.Outcome State Fault Refusal := event State.noticeEnds s

/-- The panel silence timer expires: it restarts, and PANEL_SILENT is raised (R167). -/
def State.silenceExpires (s : State) : State :=
  match s.panel.silenceTimer with
  | some t =>
    let s := s.runOut t
    ({ s with panel := { s.panel with
        silenceTimer := some (s.startTimer (s.mval .panelSilence * 1000)) } } : State).raise .panelSilent none
  | none => s

/-- PANEL_SILENCE_EXPIRY. -/
def execPanelSilenceExpiry (s : State) : Host.Outcome State Fault Refusal := event State.silenceExpires s

end Sys2Proof.Machine
end

