-- ==== Sys2Proof/Machine/Requests.lean ====
section
/-! DEFINITION. The request commands: each is the arrival of its frame, complete and with a correct check value, at the panel
port, which drops it, queues it or takes it as R155 and R156 state (assumption log 8). Its effect when taken is its owner's:
`State.serve`. -/

namespace Sys2Proof.Machine

/-- A frame has completed at the receiver, which hunts again. A payload above 120 bytes makes no frame (R154). -/
def State.submitFrame (f : PanelFrame) (s : State) : State :=
  if f.payload.length ≤ 120 then ({ s with panel := { s.panel with rx := [] } } : State).arrive f else s

/-- A request's frame has completed. -/
def State.submit (r : Request) (s : State) : State := s.submitFrame (frameOf r)

/-- CONFIG_MACHINE: `State.takeConfigMachine`. -/
def execConfigMachine (presence : U16) (values : List U16) (s : State) : Host.Outcome State Fault Refusal :=
  event (State.submit (.configMachine presence values)) s

/-- CONFIG_TOWER: `State.takeConfigTower`. -/
def execConfigTower (tower : Byte) (presence : U16) (values : List U16) (s : State) : Host.Outcome State Fault Refusal :=
  event (State.submit (.configTower tower presence values)) s

/-- READ_TOWER: `State.takeReadTower`. -/
def execReadTower (tower : Byte) (s : State) : Host.Outcome State Fault Refusal :=
  event (State.submit (.readTower tower)) s

/-- START_PASS: `State.takeStartPass`. -/
def execStartPass (direction : Byte) (pace : U16) (presence : Byte) (stopAngle : U16) (circles : Byte) (s : State) :
    Host.Outcome State Fault Refusal :=
  event (State.submit (.startPass direction pace presence stopAngle circles)) s

/-- SET_PACE: `State.takeSetPace`. -/
def execSetPace (pace : U16) (s : State) : Host.Outcome State Fault Refusal := event (State.submit (.setPace pace)) s

/-- STOP_PASS: `State.takeStopPass`. -/
def execStopPass (s : State) : Host.Outcome State Fault Refusal := event (State.submit .stopPass) s

/-- HOLD: `State.takeHold`. -/
def execHold (s : State) : Host.Outcome State Fault Refusal := event (State.submit .hold) s

/-- RESUME: `State.takeResume`. -/
def execResume (s : State) : Host.Outcome State Fault Refusal := event (State.submit .resume) s

/-- REVERSE: `State.takeReverseRequest`. -/
def execReverse (s : State) : Host.Outcome State Fault Refusal := event (State.submit .reverse) s

/-- TRIP_RESET: `State.takeTripReset`. -/
def execTripReset (s : State) : Host.Outcome State Fault Refusal := event (State.submit .tripReset) s

/-- READ_MACHINE: `State.takeReadMachine`. -/
def execReadMachine (s : State) : Host.Outcome State Fault Refusal := event (State.submit .readMachine) s

/-- SET_SECTORS: `State.takeSetSectors`. -/
def execSetSectors (marks : Byte) (entries : List SectorEntry) (s : State) : Host.Outcome State Fault Refusal :=
  event (State.submit (.setSectors marks entries)) s

/-- READ_SECTORS: `State.takeReadSectors`. -/
def execReadSectors (choice first : Byte) (s : State) : Host.Outcome State Fault Refusal :=
  event (State.submit (.readSectors choice first)) s

/-- SET_WATCH: `State.takeSetWatch`. -/
def execSetWatch (entry enabled : Byte) (ref halfWidth : U16) (direction crossing mstate action : Byte) (arg : U16)
    (rept : Byte) (s : State) : Host.Outcome State Fault Refusal :=
  event (State.submit (.setWatch entry enabled ref halfWidth direction crossing mstate action arg rept)) s

/-- READ_WATCHES: `State.takeReadWatches`. -/
def execReadWatches (s : State) : Host.Outcome State Fault Refusal := event (State.submit .readWatches) s

/-- SET_AUX: `State.takeSetAux`. -/
def execSetAux (output mode : Byte) (s : State) : Host.Outcome State Fault Refusal :=
  event (State.submit (.setAux output mode)) s

/-- SET_FAULT_MODE: `State.takeSetFaultMode`. -/
def execSetFaultMode (kind mode : Byte) (s : State) : Host.Outcome State Fault Refusal :=
  event (State.submit (.setFaultMode kind mode)) s

/-- FAULT_LIST: `State.takeFaultList`. -/
def execFaultList (first : Byte) (s : State) : Host.Outcome State Fault Refusal :=
  event (State.submit (.faultList first)) s

/-- FAULT_CLEAR: `State.takeFaultClear`. -/
def execFaultClear (selection kind tower : Byte) (s : State) : Host.Outcome State Fault Refusal :=
  event (State.submit (.faultClear selection kind tower)) s

/-- STORE_CONFIG: `State.takeStoreConfig`. -/
def execStoreConfig (presence policy : Byte) (delay tolerance : U16) (s : State) : Host.Outcome State Fault Refusal :=
  event (State.submit (.storeConfig presence policy delay tolerance)) s

/-- RESET_DEVICE: `State.takeResetDevice`; the reset follows when its reply has been sent. -/
def execResetDevice (s : State) : Host.Outcome State Fault Refusal := event (State.submit .resetDevice) s

/-- SET_NOTICE_PRIORITY: `State.takeSetNoticePriority`. -/
def execSetNoticePriority (kind priority : Byte) (s : State) : Host.Outcome State Fault Refusal :=
  event (State.submit (.setNoticePriority kind priority)) s

/-- SET_NOTICE_MASK: `State.takeSetNoticeMask`. -/
def execSetNoticeMask (level : Byte) (s : State) : Host.Outcome State Fault Refusal :=
  event (State.submit (.setNoticeMask level)) s

/-- NOTICE_FETCH: `State.takeNoticeFetch`. -/
def execNoticeFetch (s : State) : Host.Outcome State Fault Refusal := event (State.submit .noticeFetch) s

/-- PANEL_SLEEP: `State.takePanelSleep`. -/
def execPanelSleep (s : State) : Host.Outcome State Fault Refusal := event (State.submit .panelSleep) s

/-- PANEL_AWAKE: `State.takePanelAwake`. -/
def execPanelAwake (s : State) : Host.Outcome State Fault Refusal := event (State.submit .panelAwake) s

/-- SET_WAKE_FILTER: `State.takeSetWakeFilter`. -/
def execSetWakeFilter (slot useMark kind subject minPriority : Byte) (s : State) : Host.Outcome State Fault Refusal :=
  event (State.submit (.setWakeFilter slot useMark kind subject minPriority)) s

/-- READ_PORT: `State.takeReadPort`. -/
def execReadPort (s : State) : Host.Outcome State Fault Refusal := event (State.submit .readPort) s

/-- UNKNOWN_REQUEST_TYPE: a frame of a type outside the catalogue, which is answered BAD_TYPE (R156). -/
def execUnknownRequestType (type : Byte) (payload : List Byte) (s : State) : Host.Outcome State Fault Refusal :=
  event (State.submitFrame ⟨type, payload⟩) s

end Sys2Proof.Machine
end

