-- ==== Sys2Proof/Machine/Frames.lean ====
section
/-! DEFINITION. What stands on the part's outputs: the bytes of the frame that each line's transmit side is sending (chapter
11), with the codes of 11.5, and the levels of the discrete outputs. -/

namespace Sys2Proof.Machine

/-! ### Codes (11.5) -/

/-- Status codes. -/
def Status.code : Status → Byte
  | .ok => 0 | .badType => 1 | .badLength => 2 | .badValue => 3 | .wrongState => 4 | .blocked => 5
  | .unconfigured => 6 | .storeFailed => 7

/-- Blocking reason codes. -/
def BlockReason.code : BlockReason → Byte
  | .chainOpen => 1 | .angleInvalid => 2 | .fault => 3 | .barrier _ => 4

/-- The reason argument: the sector number of a BARRIER, else 0 (11.3). -/
def BlockReason.argument : BlockReason → Byte
  | .barrier n => BitVec.ofNat 8 n
  | _ => 0

/-- Machine state codes. -/
def MState.code : MState → Byte
  | .unconfigured => 0 | .stopped => 1 | .prestart => 2 | .running => 3 | .stopping => 4 | .held => 5 | .tripped => 6
  | .powerWait => 7 | .recovering => 8

/-- STOPPING destination codes. -/
def Destination.code : Destination → Byte
  | .stopped => 1 | .held => 2 | .reversing => 3

/-- Pass-end reason codes. -/
def PassEnd.code : PassEnd → Byte
  | .stopAngle => 1 | .circles => 2 | .barrier => 3 | .watch => 4 | .panel => 5 | .faultTrip => 6

/-- Fault kind codes. -/
def FaultKind.code : FaultKind → Byte
  | .jointWarn => 1 | .slip => 2 | .stall => 3 | .linkMiss => 4 | .drift => 5 | .panelSilent => 6 | .jointTrip => 7
  | .linkLost => 8 | .driveFault => 9 | .chainOpen => 10 | .stopTimeout => 11 | .barrierOverrun => 12 | .angleInvalid => 13

/-- Fault mode codes. -/
def FaultMode.code : FaultMode → Byte
  | .immediate => 0 | .deferred => 1 | .hard => 2

/-- Condition codes. -/
def Condition.code : Condition → Byte
  | .active => 0 | .latched => 1

/-- FAULT outcome codes. -/
def FaultOutcome.code : FaultOutcome → Byte
  | .new => 0 | .repeated => 1 | .notRecorded => 2

/-- Recovery reason codes. -/
def RecoveryReason.code : RecoveryReason → Byte
  | .policy => 1 | .config => 2 | .angle => 3 | .tower => 4 | .chain => 5 | .fault => 6

/-- Direction codes. -/
def Direction.code : Direction → Byte
  | .forward => 0 | .reverse => 1

/-- Crossing codes. -/
def Crossing.code : Crossing → Byte
  | .enter => 1 | .leave => 2

/-- Watch outcome codes. -/
def WatchOutcome.code : WatchOutcome → Byte
  | .taken => 0 | .refused => 1

/-- A mark as its lowest bit. -/
def markByte (b : Bool) : Byte := if b then 1 else 0

/-- A tower number as a byte, 0 where it is absent. -/
def towerByte (t : Option Nat) : Byte := BitVec.ofNat 8 (t.getD 0)

/-! ### Notices and replies (11.3) -/

/-- The data of a notice frame, by its kind. -/
def NoticeData.bytes : NoticeData → List Byte
  | .state m d => [m.code, (d.map Destination.code).getD 0]
  | .passEnd r => [r.code]
  | .fault k m c o d =>
    [k.code, m.code, BitVec.ofNat 8 c, o.code, (d.map fun p => p.1.code).getD 0, towerByte (d.bind fun p => p.2)]
  | .watchFired c d o => [c.code, d.code, o.code]
  | .startFailed m => [m.code]
  | .quiet left => [markByte left]
  | .recovery .pending => [0, 0]
  | .recovery .resumed => [1, 0]
  | .recovery (.refused r) => [2, r.code]
  | .restarted device => [markByte device]
  | .configInvalid => []

/-- The payload of a notice frame: kind code, flags, subject, count, data. -/
def NoticeFrame.payload (n : NoticeFrame) : List Byte :=
  [BitVec.ofNat 8 n.data.kind.code, markByte n.lost, BitVec.ofNat 8 n.subject.number, BitVec.ofNat 8 n.count]
    ++ n.data.bytes

/-- A fault record as FAULT_LIST returns it, nine bytes (11.5). -/
def FaultRecord.bytes (r : FaultRecord) : List Byte :=
  [r.kind.code, towerByte r.tower, r.mode.code, r.condition.code] ++ natBytes r.firstAngle ++ natBytes r.lastAngle
    ++ [BitVec.ofNat 8 r.count]

/-- The mode table as one byte: bits 0 to 5 for kinds 1 to 6, set for DEFERRED (11.5). -/
def ModeTable.byte (t : ModeTable) : Byte :=
  markByte t.jointWarn ||| (markByte t.slip <<< 1) ||| (markByte t.stall <<< 2) ||| (markByte t.linkMiss <<< 3) |||
    (markByte t.drift <<< 4) ||| (markByte t.panelSilent <<< 5)

/-- What follows a reply's header, where chapter 11 or the field itself settles its bytes; the layout of every other body is
the implementation's (assumption log 7). -/
def ReplyBody.bytes : ReplyBody → List Byte
  | .none => []
  | .pace p => natBytes p
  | .faults held modes records =>
    [BitVec.ofNat 8 held, modes.byte, BitVec.ofNat 8 records.length] ++ records.flatMap FaultRecord.bytes
  | .fetched Option.none _ => [0]
  | .fetched (some n) _ => 1 :: n.payload
  | b => Config.bodyBytes b

/-- The payload of a reply: the four-byte header and, at OK, its body. -/
def Reply.payload (r : Reply) (overrun : Bool) : List Byte :=
  [r.status.code, (r.reason.map BlockReason.code).getD 0, (r.reason.map BlockReason.argument).getD 0, markByte overrun]
    ++ (if r.status = .ok then r.body.bytes else [])

/-- The bytes the panel transmit line is sending, if any: a reply of type (request type + 0x80) mod 256, or a notice of type
0x7F (11.3). -/
def State.panelLine (s : State) : Option (List Byte) :=
  match s.panel.tx with
  | .idle => none
  | .reply r overrun => some (panelFrameBytes ⟨r.type + 0x80, r.payload overrun⟩)
  | .notice n => some (panelFrameBytes ⟨0x7F, n.payload⟩)

/-! ### The span line (R60, 11.2) -/

/-- The frame of a slot. -/
def Slot.bytes (sl : Slot) : List Byte :=
  let address : Byte := BitVec.ofNat 8 sl.tower
  match sl.kind with
  | .drive => withCrc ([spanStart, address, 0x01, sl.interval, sl.direction.code] ++ natBytes sl.order
      ++ [BitVec.ofNat 8 sl.hold])
  | .survey => withCrc [spanStart, address, 0x02, sl.interval]
  | .rest => withCrc [spanStart, 0, 0x03]

/-- The bytes the span line master is sending, if any. -/
def State.spanLine (s : State) : Option (List Byte) :=
  match s.span.slot with
  | some sl => if sl.phase = .sending then some sl.bytes else none
  | none => none

/-! ### Discrete outputs (connection summary, R129) -/

/-- The level of auxiliary output n (R129). -/
def State.auxOutput (s : State) (n : Nat) : Bool := auxLevel s.run.mstate (nth s.watch.aux n ⟨.auto, false⟩)

end Sys2Proof.Machine
end

