-- ==== Sys2Proof/Machine/Dispatch.lean ====
section
/-! DEFINITION. One arm for each command. -/

namespace Sys2Proof.Machine

def exec (i : Instr) (s : State) : Host.Outcome State Fault Refusal :=
  match i with
  | .configMachine presence values => Sys2Proof.Machine.execConfigMachine presence values s
  | .configTower tower presence values => Sys2Proof.Machine.execConfigTower tower presence values s
  | .readTower tower => Sys2Proof.Machine.execReadTower tower s
  | .startPass direction pace presence stopAngle circles => Sys2Proof.Machine.execStartPass direction pace presence stopAngle circles s
  | .setPace pace => Sys2Proof.Machine.execSetPace pace s
  | .stopPass => Sys2Proof.Machine.execStopPass s
  | .hold => Sys2Proof.Machine.execHold s
  | .resume => Sys2Proof.Machine.execResume s
  | .reverse => Sys2Proof.Machine.execReverse s
  | .tripReset => Sys2Proof.Machine.execTripReset s
  | .readMachine => Sys2Proof.Machine.execReadMachine s
  | .setSectors marks entries => Sys2Proof.Machine.execSetSectors marks entries s
  | .readSectors choice first => Sys2Proof.Machine.execReadSectors choice first s
  | .setWatch entry enabled ref halfWidth direction crossing mstate action arg rept => Sys2Proof.Machine.execSetWatch entry enabled ref halfWidth direction crossing mstate action arg rept s
  | .readWatches => Sys2Proof.Machine.execReadWatches s
  | .setAux output mode => Sys2Proof.Machine.execSetAux output mode s
  | .setFaultMode kind mode => Sys2Proof.Machine.execSetFaultMode kind mode s
  | .faultList first => Sys2Proof.Machine.execFaultList first s
  | .faultClear selection kind tower => Sys2Proof.Machine.execFaultClear selection kind tower s
  | .storeConfig presence policy delay tolerance => Sys2Proof.Machine.execStoreConfig presence policy delay tolerance s
  | .resetDevice => Sys2Proof.Machine.execResetDevice s
  | .setNoticePriority kind priority => Sys2Proof.Machine.execSetNoticePriority kind priority s
  | .setNoticeMask level => Sys2Proof.Machine.execSetNoticeMask level s
  | .noticeFetch => Sys2Proof.Machine.execNoticeFetch s
  | .panelSleep => Sys2Proof.Machine.execPanelSleep s
  | .panelAwake => Sys2Proof.Machine.execPanelAwake s
  | .setWakeFilter slot useMark kind subject minPriority => Sys2Proof.Machine.execSetWakeFilter slot useMark kind subject minPriority s
  | .readPort => Sys2Proof.Machine.execReadPort s
  | .unknownRequestType type payload => Sys2Proof.Machine.execUnknownRequestType type payload s
  | .panelFrameComplete bytes => Sys2Proof.Machine.execPanelFrameComplete bytes s
  | .panelFrameGap byte => Sys2Proof.Machine.execPanelFrameGap byte s
  | .replySent => Sys2Proof.Machine.execReplySent s
  | .noticeFrameSent => Sys2Proof.Machine.execNoticeFrameSent s
  | .panelSilenceExpiry => Sys2Proof.Machine.execPanelSilenceExpiry s
  | .driveIntervalExpiry => Sys2Proof.Machine.execDriveIntervalExpiry s
  | .slotEnd => Sys2Proof.Machine.execSlotEnd s
  | .spanFrameSent => Sys2Proof.Machine.execSpanFrameSent s
  | .replyWindowExpiry => Sys2Proof.Machine.execReplyWindowExpiry s
  | .reportReceived bytes => Sys2Proof.Machine.execReportReceived bytes s
  | .spanFrameGap byte => Sys2Proof.Machine.execSpanFrameGap byte s
  | .stallTimerExpiry tower => Sys2Proof.Machine.execStallTimerExpiry tower s
  | .quietTimerExpiry => Sys2Proof.Machine.execQuietTimerExpiry s
  | .surveyTimerExpiry => Sys2Proof.Machine.execSurveyTimerExpiry s
  | .sampleTimerExpiry => Sys2Proof.Machine.execSampleTimerExpiry s
  | .encoderReadComplete position error order => Sys2Proof.Machine.execEncoderReadComplete position error order s
  | .encoderReadTimeout => Sys2Proof.Machine.execEncoderReadTimeout s
  | .prestartTimerExpiry => Sys2Proof.Machine.execPrestartTimerExpiry s
  | .startFailTimerExpiry => Sys2Proof.Machine.execStartFailTimerExpiry s
  | .stopTimerExpiry => Sys2Proof.Machine.execStopTimerExpiry s
  | .chainSenseChange closed => Sys2Proof.Machine.execChainSenseChange closed s
  | .powerFailAssert => Sys2Proof.Machine.execPowerFailAssert s
  | .powerFailDeassert => Sys2Proof.Machine.execPowerFailDeassert s
  | .recoveryTimerExpiry => Sys2Proof.Machine.execRecoveryTimerExpiry s
  | .powerOnReset recordCheck => Sys2Proof.Machine.execPowerOnReset recordCheck s
  | .deviceReset => Sys2Proof.Machine.execDeviceReset s
  | .supplyLoss => Sys2Proof.Machine.execSupplyLoss s
  | .storeWriteComplete verified => Sys2Proof.Machine.execStoreWriteComplete verified s
  | .panelFrameLengthAbove120 length => Sys2Proof.Machine.execPanelFrameLengthAbove120 length s
  | .spanFrameKindNotReport kind => Sys2Proof.Machine.execSpanFrameKindNotReport kind s

end Sys2Proof.Machine
end

