-- ==== Sys2Proof/Machine/Step.lean ====
section
/-! DEFINITION. One step of the part: the command at the front of its queue, or a millisecond in which nothing comes. -/

namespace Sys2Proof.Machine

/-- A millisecond passes with no command (assumption log 1). -/
def State.tick (s : State) : State := if s.powered then { s with clock := s.clock + 1 } else s

/-- The command at the front of the queue acts on the part with the queue's rest; with an empty queue the part idles. -/
def step (s : State) : Host.Outcome State Fault Refusal :=
  match s.pending with
  | c :: rest => exec c { s with pending := rest }
  | [] => .next s.tick

/-- The state with the command that a word of the opcode table spells put at the front of its queue. The table gives no row
any bits, so no word spells one and the state is unchanged (assumption log 3). -/
def State.withFetchWord (s : State) (nbits w : Nat) : State :=
  match decodeTableWord nbits w with
  | some c => { s with pending := c :: s.pending }
  | none => s

end Sys2Proof.Machine
end

