-- ==== Sys2Proof/Safety.lean ====
section
/-! DEFINITION. What counts as a safe part: the laws of the manual as predicates on a state, and the words the obligations are
stated in. -/

namespace Sys2Proof.Machine

/-! ### Words for statements -/

/-- A request that arrives is taken at once: the part has supply, nothing is in service and nothing waits (R156). -/
def State.receptive (s : State) : Prop := s.powered = true ∧ s.panel.service = none ∧ s.panel.intake = []

/-- The state in which the owner of a request finds the part: its frame has completed, and what R157 has every request taken
do is done. -/
def State.heard (s : State) (r : Request) : State :=
  ({ s with panel := { s.panel with rx := [] } } : State).noteTaken r

/-- The reply of the request in service, of a type, stands ready. -/
def State.replying (u : State) (type : Byte) (a : Answer) : State :=
  { u with panel := { u.panel with service := some ⟨type, some ⟨type, a.status, a.reason, a.body⟩⟩ } }

/-- A state that has followed s holds a notice, if the queue of s had room for the notices of one event (R160, R161). -/
def State.gains (t s : State) (subject : Subject) (data : NoticeData) : Prop :=
  s.panel.notices.length < 30 → ∃ n ∈ t.panel.notices, n.subject = subject ∧ n.data = data

/-- The state and the pass that a retained record and the recovery policy give at a return of power: the table of R177. -/
def landing (r : RetainedRecord) (policy : RecoveryPolicy) : MState × Option Pass :=
  if r.valid = false then (.stopped, none)
  else
    match r.cls, policy with
    | .other, _ => (.stopped, none)
    | .tripped, _ => (.tripped, none)
    | .held, .stayStopped => (.stopped, none)
    | .held, _ => (.held, r.pass)
    | .moving, .stayStopped => (.stopped, none)
    | .moving, .resumeHeld => (.held, r.pass)
    | .moving, .resume => (.recovering, r.pass)

/-- The image that a stored copy gives at a load: the one whose CRC-32 the four bytes behind it are, low byte first (R174,
R181). -/
def StoredCopy.contents : StoredCopy → Option ConfigImage
  | .written image check =>
    let c := crc32 (Config.imageBytes image)
    if check = [c.extractLsb' 0 8, c.extractLsb' 8 8, c.extractLsb' 16 8, c.extractLsb' 24 8] then some image else none
  | .failing => none

/-- The value held in a configuration field, if set. -/
def State.held (s : State) : FieldKey → Option Nat
  | .machine f => s.table.machine.get f
  | .tower k f => (s.tower k).cfg.get f

/-- The value of a configuration field with pending tuning in place: the last pending value, or the value held (R10, R18). -/
def State.setting (s : State) (key : FieldKey) : Option Nat :=
  match (s.table.pending.filter fun w => w.1 == key).getLast? with
  | some w => some w.2
  | none => s.held key

/-- The machine states in which a run request is taken (the table of 5.1). -/
def takenIn : Instr → Option (List MState)
  | .startPass .. => some [.stopped]
  | .setPace _ => some [.prestart, .running, .held]
  | .stopPass => some [.running, .prestart, .stopping, .held, .recovering]
  | .hold => some [.running]
  | .resume => some [.held]
  | .reverse => some [.running, .held]
  | .tripReset => some [.tripped]
  | _ => none

/-! ### The mode of a record is the mode of its kind (R134, R147) -/

/-- Every record has the mode the mode table gives its kind, and a trip kind held or retained is a HARD kind. -/
def State.modesAgree (s : State) : Prop :=
  (∀ r ∈ s.faults.records, r.mode = s.faults.modes.mode r.kind) ∧
    (∀ k, s.run.tripKind = some k → k.deferrable = false) ∧
    (∀ k, s.store.record.tripKind = some k → k.deferrable = false)

/-! ### Law 1 (R55): every order is 0 or within the tower's limits -/

/-- The last order sent to tower k is 0 or lies within m_k..M_k. -/
def State.orderWithin (s : State) (k : Nat) : Prop :=
  (s.tower k).dyn.lastOrder = 0 ∨
    (s.tval k .minRun ≤ (s.tower k).dyn.lastOrder ∧ (s.tower k).dyn.lastOrder ≤ s.tval k .maxOrder)

/-! ### Law 2 (R63): orders other than 0 only in RUNNING and STOPPING -/

/-- Outside RUNNING and STOPPING every tower 1..N has last order sent 0, and a DRIVE frame that is being sent carries 0. -/
def State.ordersAtRest (s : State) : Prop :=
  s.run.mstate.moving = false →
    (∀ k ∈ s.members, (s.tower k).dyn.lastOrder = 0) ∧
    ∀ sl, s.span.slot = some sl → sl.kind = .drive → sl.phase = .sending → sl.order = 0

/-! ### Law 4 (R83): the outputs follow the machine state -/

/-- The contactor output and the prestart warning output stand as the machine state requires. -/
def State.outputsFollow (s : State) : Prop :=
  s.run.contactor = s.run.mstate.contactor ∧ s.run.warning = s.run.mstate.warning

/-! ### Law 5 (R79): QUIET only in STOPPED -/

/-- The line is in QUIET only while the machine state is STOPPED. -/
def State.quietOnlyStopped (s : State) : Prop := s.span.mode = .quiet → s.run.mstate = .stopped

/-! ### Laws 6 and 7 (R160, R136): the notice queue and the fault list -/

/-- What a notice entry is told apart by. -/
def Notice.key (n : Notice) : NoticeKind × Subject := (n.data.kind, n.subject)

/-- At most 32 notices, and never two with the same kind and subject. -/
def State.noticesDistinct (s : State) : Prop :=
  s.panel.notices.length ≤ 32 ∧ (s.panel.notices.map Notice.key).Nodup

/-- What a fault record is told apart by. -/
def FaultRecord.key (r : FaultRecord) : FaultKind × Option Nat := (r.kind, r.tower)

/-- At most 32 records, and never two with the same kind and tower. -/
def State.faultsDistinct (s : State) : Prop :=
  s.faults.records.length ≤ 32 ∧ (s.faults.records.map FaultRecord.key).Nodup

/-! ### Law 8 (R110): the sector tables -/

/-- A sector table is ordered, without overlap, and only its last sector wraps: the starts ascend strictly, each sector after
the first starts at or above the end of the one before it, which does not wrap, a wrapping last one ends at or below the start
of the first, and no barrier's zones reach into it (the four checks of R110). -/
def tableOrdered (table : List Sector) : Prop :=
  table.Pairwise (fun a b => a.start < b.start) ∧
  table.IsChain (fun a b => a.start ≤ a.finish ∧ a.finish ≤ b.start) ∧
  (∀ a z, table.head? = some a → table.getLast? = some z → z.finish < z.start → table.length = 1 ∨ z.finish ≤ a.start) ∧
  (∀ c ∈ table, ∀ m act lead trail, c.body = .barrier m act lead trail →
    ((c.finish : Int) - c.start) % 36000 + 2 * m ≤ 36000)

/-- Every table the part holds or stores is so. -/
def State.sectorsOrdered (s : State) : Prop :=
  tableOrdered s.sectors.installed ∧ (∀ t, s.sectors.pending = some t → tableOrdered t) ∧
    (∀ i c, s.store.stored = .written i c → tableOrdered i.sectors) ∧ (∀ i, s.store.writing = some i → tableOrdered i.sectors)

/-! ### Law 9 (R28): slip factors -/

/-- Every tower's slip factor lies within 0..300. -/
def State.slipBounded (s : State) : Prop := ∀ k, (s.tower k).dyn.slip ≤ 300

/-! ### Law 10 (R73): LOST exactly at the miss limit -/

/-- The count of a tower agrees with its link state under a miss limit. -/
def TowerDynamic.linkAgrees (limit : Nat) (d : TowerDynamic) : Prop :=
  match d.link with
  | .absent | .online => d.misses = 0
  | .missing => 1 ≤ d.misses ∧ d.misses < limit
  | .lost => d.misses = limit

/-- The counts and link states of towers 1..N agree. -/
def State.linksAgree (s : State) : Prop := ∀ k ∈ s.members, (s.tower k).dyn.linkAgrees (s.mval .missLimit)

/-! ### The configuration lies in range (R2, R4) -/

/-- Every set field of a machine record lies in its range. -/
def MachineRecord.ranged (r : MachineRecord) : Prop := ∀ f v, r.get f = some v → f.inRange v = true

/-- The machine record of an image or of the table has its defaulted geometry set. -/
def MachineRecord.defaulted (r : MachineRecord) : Prop := r.missLimit.isSome ∧ r.driveInterval.isSome

/-- Every set field of a tower's configuration lies in its range. -/
def TowerConfig.ranged (c : TowerConfig) : Prop := ∀ f v, c.get f = some v → f.inRange v = true

/-- Every field of an image lies in its range. -/
def ConfigImage.ranged (i : ConfigImage) : Prop :=
  i.machine.ranged ∧ i.machine.defaulted ∧ ∀ c ∈ i.towers.toList, c.ranged

/-- Every configuration field the part holds, has pending or stores lies in its range, and only tuning is pending (R9, R11). -/
def State.configRanged (s : State) : Prop :=
  s.table.machine.ranged ∧ s.table.machine.defaulted ∧ (∀ r ∈ s.table.towers.toList, r.cfg.ranged) ∧
    (∀ w ∈ s.table.pending, inRange w = true ∧ w.1.geometry = false) ∧
    (∀ i c, s.store.stored = .written i c → i.ranged) ∧ (∀ i, s.store.writing = some i → i.ranged)

/-! ### Law 11 (R104, R105): a HARD ACTIVE record and an energised contactor exclude each other -/

/-- While a HARD record is ACTIVE the machine is in none of the three energised states. -/
def State.hardStopped (s : State) : Prop := s.activeHard = true → s.run.mstate.contactor = false

/-! ### Law 12 (R1): angles of the pivot -/

/-- A position of the pivot. -/
def isAngle (a : Nat) : Prop := a < 36000

/-- The angles of a pass record. -/
def Pass.angles (p : Pass) : Prop := isAngle p.origin ∧ ∀ a, p.stopAngle = some a → isAngle a

/-- The angles of a sector. -/
def Sector.angles (c : Sector) : Prop := isAngle c.start ∧ isAngle c.finish

/-- The angles of an image: its sectors and its watches. -/
def ConfigImage.angles (i : ConfigImage) : Prop :=
  (∀ c ∈ i.sectors, c.angles) ∧ ∀ w ∈ i.watches.toList, isAngle w.ref

/-- Every angle that the part holds or stores as a position of the pivot lies within 0..35999. -/
def State.anglesHold (s : State) : Prop :=
  isAngle s.angle.held ∧ (∀ a, s.angle.previous = some a → isAngle a) ∧ (∀ a, s.angle.haltAngle = some a → isAngle a) ∧
    (∀ p, s.run.pass = some p → p.angles) ∧ (∀ p, s.store.record.pass = some p → p.angles) ∧
    (∀ a v, s.store.record.captured = some (a, v) → isAngle a) ∧
    (∀ c ∈ s.sectors.installed, c.angles) ∧ (∀ t, s.sectors.pending = some t → ∀ c ∈ t, c.angles) ∧
    (∀ t, s.sectors.build = some t → ∀ c ∈ t, c.angles) ∧
    (∀ w ∈ s.watch.entries.toList, isAngle w.cfg.ref) ∧
    (∀ r ∈ s.faults.records, isAngle r.firstAngle ∧ isAngle r.lastAngle) ∧
    (∀ i c, s.store.stored = .written i c → i.angles) ∧ (∀ i, s.store.writing = some i → i.angles)

end Sys2Proof.Machine
end

