-- ==== Sys2Proof/Certificates/Slice0/Obligations.lean ====
section
/-! DEFINITION. The statements for the provers. `s.heard r` is the part once what every request taken does is done (R157,
`EveryRequestTakenIsHeard`); `u.replying type a` is u with the reply of the request in service ready; `u.transmit` is u after the
transmit side's choice (`TransmitSideChoosesInOrder`). So an equation `exec c s = .next (… .replying …).transmit` says all that a
request does, and that nothing else changes.

Every statement of this form leans on four readings of the model's, which the single statements do not name again: the clock,
which an expiry carries to its moment (assumption log 1, DESIGN CHOICE); the transmit side's choice at the end of the event, once
all that it does is done (log 2, DEDUCED); a request row as the arrival of its whole good frame (log 8, DEDUCED); and what R157
has every request taken do, done before its owner acts (log 14, DESIGN CHOICE). -/

open Sys2Proof Sys2Proof.Machine

/-! ### The step -/

/-- The command at the front of the queue acts, by `exec`, on the part with the queue's rest. The model's choice (assumption
log 1): with no command waiting a step lets a millisecond pass, if the part has supply. -/
def Obligations.StepTakesTheFrontCommand : Prop :=
  (∀ (c : Instr) (rest : List Instr) (s : State),
    step { s with pending := c :: rest } = exec c { s with pending := rest }) ∧
  (∀ s : State, s.pending = [] → step s = .next (if s.powered then { s with clock := s.clock + 1 } else s))

/-- No command ends the part: each answers a next state, takes nothing from the queue and never turns the clock back (the
clock and the queue are the model's own, assumption logs 1 and 3). R173, and assumption log 5: after a loss of supply the
part stands where it stopped. Only the levels of its two sense inputs follow what comes, until a power-on reset. R173: a
loss of supply stops the part where it stands, and a write in progress leaves a stored copy whose check fails. -/
def Obligations.EveryCommandAnswersANextState : Prop :=
  (∀ (c : Instr) (s : State), ∃ t, exec c s = .next t ∧ t.pending = s.pending ∧ s.clock ≤ t.clock) ∧
  (∀ (c : Instr) (s : State), s.powered = false → c ≠ .supplyLoss → (∀ b, c ≠ .powerOnReset b) →
    ∃ t, exec c s = .next t ∧ t = { s with inputs := t.inputs }) ∧
  (∀ s : State,
    (s.store.writing = none → exec .supplyLoss s = .next { s with powered := false }) ∧
    (∀ i, s.store.writing = some i → exec .supplyLoss s =
      .next { s with powered := false, store := { s.store with writing := none, stored := .failing } }))

/-! ### The laws, kept by every step -/

/-- Law 4 (R83): the contactor and warning outputs follow the machine state. Law 5 (R79): the line is in QUIET only in
STOPPED. -/
def Obligations.OutputsAndQuietFollowTheMachineState : Prop :=
  (∀ s t : State, s.outputsFollow → step s = .next t → t.outputsFollow) ∧
  (∀ s t : State, s.quietOnlyStopped → step s = .next t → t.quietOnlyStopped)

/-- Law 2 (R63): outside RUNNING and STOPPING no tower holds an order other than 0, and no DRIVE frame that is being sent
carries one. -/
def Obligations.OrdersAreZeroOutsideTheMovingStates : Prop :=
  ∀ s t : State, s.ordersAtRest → step s = .next t → t.ordersAtRest

/-- Law 6 (R160): at most 32 notices, no two of one kind and subject. Law 7 (R136): at most 32 fault records, no two of one
kind and tower. -/
def Obligations.NoticesAndFaultRecordsStayDistinct : Prop :=
  (∀ s t : State, s.noticesDistinct → step s = .next t → t.noticesDistinct) ∧
  (∀ s t : State, s.faultsDistinct → step s = .next t → t.faultsDistinct)

/-- Law 8 (R110): on every sector table installed, pending, stored or being written the starts ascend strictly, no two
sectors overlap, only the last wraps, and no barrier's zones reach into it. -/
def Obligations.SectorTablesStayOrdered : Prop :=
  ∀ s t : State, s.sectorsOrdered → step s = .next t → t.sectorsOrdered

/-- Law 9 (R28): slip factors stay within 0..300. Law 12 (R1): every angle held or stored as a position of the pivot lies
within 0..35999. -/
def Obligations.SlipFactorsAndPivotAnglesStayInRange : Prop :=
  (∀ s t : State, s.slipBounded → step s = .next t → t.slipBounded) ∧
  (∀ s t : State, s.anglesHold → step s = .next t → t.anglesHold)

/-- R2, R4, R9, R11: every configuration value held, pending or stored stays in its range, and only tuning is pending. Law
10 (R73): a tower is LOST exactly when its miss count equals the miss limit, under a configuration in range. -/
def Obligations.ConfigurationAndLinkStatesStayConsistent : Prop :=
  (∀ s t : State, s.configRanged → step s = .next t → t.configRanged) ∧
  (∀ s t : State, s.configRanged → s.linksAgree → step s = .next t → t.linksAgree)

/-- Law 11 (R104): a HARD ACTIVE record and an energised contactor exclude each other. R134, R136, R147: every record has
the mode that the mode table gives its kind. -/
def Obligations.FaultRecordsKeepTheMachineSafe : Prop :=
  (∀ s t : State, s.hardStopped → step s = .next t → t.hardStopped) ∧
  (∀ s t : State, s.modesAgree → step s = .next t → t.modesAgree)

/-- The laws hold right after reset. -/
def Obligations.ResetMeetsTheLaws : Prop :=
  State.reset.outputsFollow ∧ State.reset.ordersAtRest ∧ State.reset.quietOnlyStopped ∧ State.reset.noticesDistinct ∧
    State.reset.faultsDistinct ∧ State.reset.sectorsOrdered ∧ State.reset.slipBounded ∧ State.reset.configRanged ∧
    State.reset.linksAgree ∧ State.reset.hardStopped ∧ State.reset.anglesHold ∧ State.reset.modesAgree

/-! ### The panel port: frames and requests -/

/-- Chapter 11, R181, R183: the bytes of the frame of a request say that request again, with every field at every value. -/
def Obligations.RequestFramesSayTheirRequest : Prop :=
  ∀ r : Request, r.fits = true → (panelFrameOf (panelFrameBytes (frameOf r))).map parseRequest = some r

/-- R154, R156, and assumption log 8: the bytes of a request's frame, arriving at a hunting receiver, do what the request's
own command does. -/
def Obligations.FrameBytesDoWhatTheRequestDoes : Prop :=
  ∀ (i : Instr) (f : PanelFrame) (s : State), i.frame = some f → f.payload.length ≤ 120 → s.panel.rx = [] →
    ∃ t, exec (.panelFrameComplete (panelFrameBytes f)) s = .next t ∧ exec i s = .next t

/-- R154: a gap abandons the frame in progress, and the byte after it is examined as a hunting byte; a length byte above 120
discards the frame. The model's reading (assumption logs 9 and 20): where no length is awaited, or the length is at most
120, that row does nothing. R182: a gap abandons the span frame in progress, and the byte after it is examined as a hunting
byte; a kind other than REPORT's is not assembled; a part that is sending hears nothing (R60). The model's reading
(assumption logs 9 and 20): where no kind is awaited, or the kind is REPORT's, that row does nothing. R60, R154, R181: a
complete panel frame, or a REPORT, whose two check bytes are not the CRC-16 of the bytes before them, low byte first, is
discarded and changes nothing. -/
def Obligations.GapsAndUnfitBytesAbandonAFrame : Prop :=
  (∀ (b : Byte) (s : State), s.powered = true →
    exec (.panelFrameGap b) s =
      .next { s with panel := { s.panel with rx := if b = 0xA5 then [b] else [] } }.transmit ∧
    (∀ x, s.panel.rx = [x] → 120 < b.toNat →
      exec (.panelFrameLengthAbove120 b) s = .next { s with panel := { s.panel with rx := [] } }.transmit) ∧
    (s.panel.rx.length ≠ 1 ∨ b.toNat ≤ 120 → exec (.panelFrameLengthAbove120 b) s = .next s.transmit)) ∧
  (∀ (s : State) (b : Byte), s.powered = true →
    let hears := ∀ sl, s.span.slot = some sl → sl.phase ≠ .sending
    let heard (bs : List Byte) : State := { s with span := { s.span with rx := bs } }
    (hears → exec (.spanFrameGap b) s = .next (heard (if b = 0x5A then [b] else [])).transmit) ∧
    (¬ hears → exec (.spanFrameGap b) s = .next (heard []).transmit) ∧
    (∀ x y, hears → s.span.rx = [x, y] → b ≠ 0x81 → exec (.spanFrameKindNotReport b) s = .next (heard []).transmit) ∧
    (¬ hears ∨ s.span.rx.length ≠ 2 ∨ b = 0x81 → exec (.spanFrameKindNotReport b) s = .next s.transmit)) ∧
  ((∀ (f : PanelFrame) (check : U16) (s : State), s.powered = true → s.panel.rx = [] → f.payload.length ≤ 120 →
    let body : List Byte := 0xA5 :: BitVec.ofNat 8 f.payload.length :: f.type :: f.payload
    check ≠ crc16 body →
    exec (.panelFrameComplete (body ++ [check.extractLsb' 0 8, check.extractLsb' 8 8])) s = .next s.transmit) ∧
  (∀ (r : ReportFrame) (check : U16) (s : State), s.powered = true → s.span.rx = [] → check ≠ crc16 r.body →
    exec (.reportReceived (r.body ++ [check.extractLsb' 0 8, check.extractLsb' 8 8])) s = .next s.transmit))

/-- R155, R156: a request whose frame completes while another is in service, or behind waiting ones, joins the intake queue,
or is dropped with the overrun mark set when four wait already. That a request row is the arrival of its frame is assumption
log 8. R156: a type outside the catalogue is answered BAD_TYPE, and a payload that does not fit its type BAD_LENGTH, with
nothing of the request done. -/
def Obligations.BusyPortsAndUnfitFrames : Prop :=
  (∀ (i : Instr) (f : PanelFrame) (s : State), i.frame = some f → f.payload.length ≤ 120 → s.powered = true →
    s.panel.service.isSome = true ∨ s.panel.intake ≠ [] →
    exec i s = .next { s with panel := { s.panel with
      rx := []
      intake := if s.panel.intake.length < 4 then s.panel.intake ++ [f] else s.panel.intake
      overrun := if s.panel.intake.length < 4 then s.panel.overrun else true } }.transmit) ∧
  ((∀ (s : State) (type : Byte) (payload : List Byte), s.receptive → type.toNat ∉ catalogue → payload.length ≤ 120 →
    exec (.unknownRequestType type payload) s =
      .next ((s.heard (.unknown type)).replying type (.fail .badType)).transmit) ∧
  (∀ (s : State) (i : Instr) (f : PanelFrame), s.receptive → i.frame = some f → f.payload.length ≤ 120 →
    parseRequest f = .badLength f.type →
    exec i s = .next ((s.heard (.badLength f.type)).replying f.type (.fail .badLength)).transmit))

/-- R157, R75, R79, R140: what every request taken does at its taking, and that it does no more. In ACTIVE the quiet timer
restarts; a line in QUIET returns to ACTIVE, where a slot in progress goes on and otherwise a DRIVE round begins with tower
1. The model's readings in it: the receiver hunts after a request row, as after the end of its frame (assumption log 8); a
PANEL_SLEEP frame of bad length wakes the panel, since it is not the request PANEL_SLEEP (log 30, the model's choice); an
interval number not yet handed over is sent as 0 (log 16); no round begins without a tower or in UNCONFIGURED (log 22). -/
def Obligations.EveryRequestTakenIsHeard : Prop :=
  ∀ (s : State) (r : Request),
    let v := s.mval .panelSilence
    let quiet : Timer := ⟨s.mval .quietDelay * 1000, s.clock⟩
    let hold := max 5 (min 255 (((s.mval .missLimit + 1) * s.mval .driveInterval + 99) / 100))
    let woken : SpanMaster := { s.span with mode := .active, surveyTimer := none, restDue := false, quietTimer := some quiet }
    let first : SpanMaster := { woken with
      slot := some ⟨.drive, 1, .sending, s.span.setInterval.getD 0, (s.tower 1).dyn.lastDirection, (s.tower 1).dyn.lastOrder,
        hold, s.clock, s.clock, false⟩
      lastLine := setNth s.span.lastLine 1 (some (s.tower 1).dyn.lastOrder) }
    let latched : FaultList := { s.faults with records := s.faults.records.map fun f =>
      if f.kind = .panelSilent ∧ f.tower = none then { f with condition := .latched } else f }
    let quieted : State := { s with panel := { s.panel with rx := [] }, faults := latched }
    let told (u : State) : State := u.queueNotice .machine (.quiet true)
    let awake (u : State) : State :=
      if r = .panelSleep then u else { u with panel := { u.panel with
        asleep := false, wakeLine := false
        silenceTimer := if v = 0 then s.panel.silenceTimer else some ⟨v * 1000, s.clock⟩ } }
    (s.span.mode = .active → s.run.mstate = .unconfigured → s.heard r = awake quieted) ∧
    (s.span.mode = .active → s.run.mstate ≠ .unconfigured →
      s.heard r = awake { quieted with span := { s.span with quietTimer := some quiet } }) ∧
    (s.span.mode = .quiet → s.span.slot ≠ none ∨ s.towerCount = 0 ∨ s.run.mstate = .unconfigured →
      s.heard r = awake (told { quieted with span := woken })) ∧
    (s.span.mode = .quiet → s.span.slot = none → 1 ≤ s.towerCount → s.run.mstate ≠ .unconfigured →
      s.heard r = awake (told { quieted with span := first }))

/-- R160, R161, R166: a notice coalesces with the entry of its kind and subject; else it enters a queue with room; else it
displaces the youngest entry of the lowest priority below its own whose frame is not being sent; else it is dropped. One
that enters or coalesces while the panel is ASLEEP and matches a wake filter asserts the wake line. That an entry's age is
its place in the queue is assumption log 26. -/
def Obligations.NoticesCoalesceEnterDisplaceOrDrop : Prop :=
  ∀ (s : State) (subject : Subject) (data : NoticeData), s.noticesDistinct →
    let t := s.queueNotice subject data
    let p := s.priority data.kind
    let woken := s.panel.wakeLine || (s.panel.asleep && s.panel.filters.toList.any fun f =>
      match f with
      | some f => (f.kind == none || f.kind == some data.kind) && (f.subject == none || f.subject == some subject.number)
          && f.minPriority ≤ p
      | none => false)
    let below (n : Notice) : Prop := n.sending = none ∧ s.priority n.data.kind < p
    t = { s with panel := { s.panel with
      notices := t.panel.notices, lost := t.panel.lost, wakeLine := t.panel.wakeLine } } ∧
    (∀ before n after, s.panel.notices = before ++ n :: after → n.key = (data.kind, subject) →
      t.panel.notices = before ++
        { n with data := data, count := min 255 (n.count + 1), sending := n.sending.map fun c => min 255 (c + 1) } :: after ∧
      t.panel.lost = s.panel.lost ∧ t.panel.wakeLine = woken) ∧
    ((∀ n ∈ s.panel.notices, n.key ≠ (data.kind, subject)) →
      (s.panel.notices.length < 32 →
        t.panel.notices = s.panel.notices ++ [⟨subject, data, 1, none⟩] ∧ t.panel.lost = s.panel.lost ∧
        t.panel.wakeLine = woken) ∧
      (s.panel.notices.length = 32 →
        (∀ before v after, s.panel.notices = before ++ v :: after → below v →
          (∀ n ∈ s.panel.notices, below n → s.priority v.data.kind ≤ s.priority n.data.kind) →
          (∀ n ∈ after, below n → s.priority v.data.kind < s.priority n.data.kind) →
          t.panel.notices = before ++ after ++ [⟨subject, data, 1, none⟩] ∧ t.panel.lost = true ∧
          t.panel.wakeLine = woken) ∧
        ((∀ n ∈ s.panel.notices, ¬ below n) →
          t.panel.notices = s.panel.notices ∧ t.panel.lost = true ∧ t.panel.wakeLine = s.panel.wakeLine)))

/-- R155, R158, R161, R162: an idle transmit side sends the ready reply; else, while the panel is AWAKE, the eligible entry
of highest priority, lowest kind code and greatest age; else nothing. A side that is sending is left alone. That an entry's
age is its place in the queue is assumption log 26. That a notice may be sent before the reply of a STORE_CONFIG whose write
runs, also where that request has just woken the panel, is the model's choice (assumption log 33). -/
def Obligations.TransmitSideChoosesInOrder : Prop :=
  ∀ s : State,
    (s.panel.tx ≠ .idle → s.transmit = s) ∧
    (∀ ty r, s.panel.tx = .idle → s.panel.service = some ⟨ty, some r⟩ →
      s.transmit = { s with panel := { s.panel with tx := .reply r s.panel.overrun, overrun := false } }) ∧
    (s.panel.tx = .idle → (∀ ty r, s.panel.service ≠ some ⟨ty, some r⟩) →
      (s.panel.asleep = true ∨ (∀ n ∈ s.panel.notices, s.priority n.data.kind ≤ s.panel.mask) → s.transmit = s) ∧
      (∀ before n after, s.panel.asleep = false → s.panel.notices = before ++ n :: after →
        s.panel.mask < s.priority n.data.kind → s.noticesDistinct →
        (∀ m ∈ before, s.panel.mask < s.priority m.data.kind →
          s.priority m.data.kind < s.priority n.data.kind ∨
            (s.priority m.data.kind = s.priority n.data.kind ∧ n.data.kind.code < m.data.kind.code)) →
        (∀ m ∈ after, s.panel.mask < s.priority m.data.kind →
          s.priority m.data.kind < s.priority n.data.kind ∨
            (s.priority m.data.kind = s.priority n.data.kind ∧ n.data.kind.code ≤ m.data.kind.code)) →
        s.transmit = { s with panel := { s.panel with
          tx := .notice ⟨n.subject, n.data, n.count, s.panel.lost⟩
          lost := false
          notices := before ++ { n with sending := some 0 } :: after } }))

/-- R156, R180: at the end of a reply frame nothing is in service and the next waiting request, if any, is taken; the end of
the OK reply to RESET_DEVICE resets the part. The reset at that end is assumption log 21. R162: the end of a notice frame
removes its entry, or keeps it with its arrivals in flight as its count. -/
def Obligations.EndsOfTransmittedFrames : Prop :=
  (∀ (s : State) (r : Reply) (o : Bool), s.powered = true → s.panel.tx = .reply r o →
    (r.type ≠ 0x39 ∨ r.status ≠ .ok →
      (s.panel.intake = [] →
        exec .replySent s = .next { s with panel := { s.panel with tx := .idle, service := none } }.transmit) ∧
      (∀ f rest, s.panel.intake = f :: rest →
        let u : State := { s with panel := { s.panel with tx := .idle, service := none, intake := rest } }
        exec .replySent s = .next (u.take f).transmit)) ∧
    (r.type = 0x39 → r.status = .ok → exec .replySent s = exec .deviceReset s)) ∧
  (∀ (s : State) (f : NoticeFrame), s.powered = true → s.panel.tx = .notice f →
    exec .noticeFrameSent s = .next { s with panel := { s.panel with
      tx := .idle
      notices := s.panel.notices.filterMap fun (n : Notice) =>
        if n.sending = none then some n
        else if n.sending = some 0 then none
        else some { n with count := n.sending.getD 0, sending := none } } }.transmit)

/-- R159, R162, R165: the port's settings. A value outside its range is refused and changes nothing. R165: a wake filter
slot takes a filter, or is made unused; a slot, kind, subject or priority outside its range is refused. That use mark 0 is
taken without looking at the other fields, and that any other use mark sets a filter, is the model's reading (assumption log
19). R164: PANEL_SLEEP puts the panel to sleep, releases the wake line and stops the silence timer; PANEL_AWAKE does what
every request taken does, and no more. Both are answered OK. R167: the panel silence timer restarts at its expiry and
PANEL_SILENT is raised. -/
def Obligations.PortSettingsSleepAndSilence : Prop :=
  (∀ (s : State) (a b : Byte), s.receptive →
    (let h := s.heard (.setNoticePriority a b);
      (∀ k, noticeKindOf a = some k → b.toNat ≤ 15 → exec (.setNoticePriority a b) s =
        .next (({ h with panel := { h.panel with
          priorities := setNth h.panel.priorities k.code b.toNat } } : State).replying 0x40 .ok).transmit) ∧
      (noticeKindOf a = none ∨ 15 < b.toNat →
        exec (.setNoticePriority a b) s = .next (h.replying 0x40 (.fail .badValue)).transmit)) ∧
    (let h := s.heard (.setNoticeMask a);
      (a.toNat ≤ 15 → exec (.setNoticeMask a) s =
        .next (({ h with panel := { h.panel with mask := a.toNat } } : State).replying 0x41 .ok).transmit) ∧
      (15 < a.toNat → exec (.setNoticeMask a) s = .next (h.replying 0x41 (.fail .badValue)).transmit))) ∧
  (∀ (s : State) (slot useMark kind subject minPriority : Byte), s.receptive →
    let h := s.heard (.setWakeFilter slot useMark kind subject minPriority)
    let put (f : Option WakeFilter) : State :=
      { h with panel := { h.panel with filters := setNth h.panel.filters slot.toNat f } }
    let bad := exec (.setWakeFilter slot useMark kind subject minPriority) s =
      .next (h.replying 0x4A (.fail .badValue)).transmit
    let ok (f : Option WakeFilter) := exec (.setWakeFilter slot useMark kind subject minPriority) s =
      .next ((put f).replying 0x4A .ok).transmit
    (slot.toNat < 1 ∨ 4 < slot.toNat → bad) ∧
    (1 ≤ slot.toNat → slot.toNat ≤ 4 →
      (useMark = 0 → ok none) ∧
      (useMark ≠ 0 →
        (15 < minPriority.toNat ∨ 9 < kind.toNat → bad) ∧
        (kind = 0 → minPriority.toNat ≤ 15 →
          (subject = 0xFF → ok (some ⟨none, none, minPriority.toNat⟩)) ∧
          (subject.toNat ≤ 16 → ok (some ⟨none, some subject.toNat, minPriority.toNat⟩)) ∧
          (subject ≠ 0xFF → 16 < subject.toNat → bad)) ∧
        (∀ k, noticeKindOf kind = some k → minPriority.toNat ≤ 15 →
          (subject = 0xFF → ok (some ⟨some k, none, minPriority.toNat⟩)) ∧
          (subject ≠ 0xFF →
            let inClass := match k with
              | .fault => subject.toNat ≤ 16
              | .watchFired => 1 ≤ subject.toNat ∧ subject.toNat ≤ 8
              | _ => subject.toNat = 0
            (inClass → ok (some ⟨some k, some subject.toNat, minPriority.toNat⟩)) ∧ (¬ inClass → bad)))))) ∧
  (∀ s : State, s.receptive →
    (let h := s.heard .panelSleep;
      exec .panelSleep s = .next (({ h with panel := { h.panel with
        asleep := true, wakeLine := false, silenceTimer := none } } : State).replying 0x48 .ok).transmit) ∧
    exec .panelAwake s = .next ((s.heard .panelAwake).replying 0x49 .ok).transmit) ∧
  (∀ (s : State) (timer : Timer), s.powered = true → s.panel.silenceTimer = some timer →
    let now := max s.clock (timer.startedAt + timer.length)
    let u : State := { s with clock := now, panel := { s.panel with
      silenceTimer := some ⟨s.mval .panelSilence * 1000, now⟩ } }
    exec .panelSilenceExpiry s = .next (u.raise .panelSilent none).transmit)

/-- R163: NOTICE_FETCH returns and removes the highest-ordered entry whose frame is not being sent, whatever the mask; it
carries and clears the lost mark. The queue is the one the request finds once it is taken, a QUIET notice of that taking in
it: the model's choice (assumption log 14). The taking of the request's row and the transmit side's choice at its end are
logs 8 and 2. -/
def Obligations.NoticeFetchReturnsTheHighestEntry : Prop :=
  ∀ s : State, s.receptive →
    let h := s.heard .noticeFetch
    ((∀ n ∈ h.panel.notices, n.sending ≠ none) → exec .noticeFetch s =
      .next (({ h with panel := { h.panel with lost := false } } : State).replying 0x42
        (.ok (.fetched none h.panel.lost))).transmit) ∧
    (∀ before n after, h.noticesDistinct → h.panel.notices = before ++ n :: after → n.sending = none →
      (∀ m ∈ before, m.sending = none →
        h.priority m.data.kind < h.priority n.data.kind ∨
          (h.priority m.data.kind = h.priority n.data.kind ∧ n.data.kind.code < m.data.kind.code)) →
      (∀ m ∈ after, m.sending = none →
        h.priority m.data.kind < h.priority n.data.kind ∨
          (h.priority m.data.kind = h.priority n.data.kind ∧ n.data.kind.code ≤ m.data.kind.code)) →
      exec .noticeFetch s = .next (({ h with panel := { h.panel with
        lost := false, notices := before ++ after } } : State).replying 0x42
          (.ok (.fetched (some ⟨n.subject, n.data, n.count, h.panel.lost⟩) h.panel.lost))).transmit)

/-- R168: READ_PORT answers with the port as it stands, the wake line as it stood before the taking, and changes nothing.
The counts and the lost mark are those the request finds once it is taken, a QUIET notice of that taking counted: the
model's choice (assumption log 14). The taking of the request's row and the transmit side's choice at its end are logs 8 and
2. -/
def Obligations.ReadPortReportsThePort : Prop :=
  ∀ s : State, s.receptive →
    let h := s.heard .readPort
    exec .readPort s = .next (h.replying 0x4B (.ok (.port
      { priorities := s.panel.priorities.toList, mask := s.panel.mask, filters := s.panel.filters.toList
        asleep := false, wakeLine := s.panel.wakeLine
        queued := h.panel.notices.length
        eligible := (h.panel.notices.filter fun n => s.panel.mask < s.priority n.data.kind).length
        lost := h.panel.lost
        silence := h.panel.silenceTimer.map fun t => min t.length (s.clock - t.startedAt) / 1000 }))).transmit

/-! ### The tower table and its configuration -/

/-- R18, R19: READ_TOWER answers from the tower table, with pending values in place, and changes nothing. That UNCONFIGURED
is judged with pending values in place is the model's reading (assumption log 16). -/
def Obligations.ReadTowerReportsTheTable : Prop :=
  ∀ (s : State) (tower : Byte), s.receptive →
    let k := tower.toNat
    let answers (a : Answer) := exec (.readTower tower) s = .next ((s.heard (.readTower tower)).replying 0x03 a).transmit
    let staged (p : FieldKey → Bool) := s.table.pending.any fun w => p w.1
    let d := (s.tower k).dyn
    (16 < k → answers (.fail .badValue)) ∧
    (k = 0 → ∃ r : MachineRecord, (∀ f, r.get f = s.setting (.machine f)) ∧
      answers (.ok (.machineRecord r (staged fun key => match key with | .machine _ => true | _ => false) s.complete))) ∧
    (1 ≤ k → k ≤ 16 → (∀ f ∈ undefaulted, s.setting (.tower k f) = none) → answers (.fail .unconfigured)) ∧
    (1 ≤ k → k ≤ 16 → (∃ f ∈ undefaulted, s.setting (.tower k f) ≠ none) →
      ∃ c : TowerConfig, (∀ f, c.get f = s.setting (.tower k f)) ∧
        answers (.ok (.tower
          { cfg := c
            pending := staged fun key => match key with | .tower j _ => j == k | _ => false
            within := decide (k ≤ s.towerCount)
            link := d.link, misses := d.misses, status := d.status
            report := d.report.map fun r => (r, min 65535 ((s.clock - r.takenAt) / 100))
            lastOrder := d.lastOrder, lastDirection := d.lastDirection
            slip := d.slip, slipFrozen := d.slipFrozen, warnCount := d.warnCount, haltWheel := d.haltWheel
            stall := match d.stall with | .running _ since => some ((s.clock - since) / 1000) | .idle => none })))

/-- R9 checks 1 to 3, R183: a request that fails a check of the configuration requests is refused with that check's status,
and nothing of it is applied. R9 check 4, R10, R3: a request that passes the first three checks is refused BAD_VALUE where
the table as it would stand, with the request's values over pending ones over those held, has two set radii that do not
increase, a drive interval that leaves no room for a round, or, for the tower written, a min-run order not below the max
order or a joint warn not below the joint trip. A check that involves an unset field is not made. That the joint trip is
held above the joint warn by this check and not by its range is assumption log 16. -/
def Obligations.ConfigurationRequestsAreChecked : Prop :=
  (∀ (s : State) (tower : Byte) (presence : U16) (values : List U16), s.receptive → values.length = bitsSet presence →
    let fixed := s.run.mstate ≠ .unconfigured ∧ s.run.mstate ≠ .stopped
    (let ws := presentFields machineFields presence values;
      let refused (st : Status) := exec (.configMachine presence values) s =
        .next ((s.heard (.configMachine presence values)).replying 0x01 (.fail st)).transmit
      (fixed → (∃ w ∈ ws, w.1.geometry = true) → refused .wrongState) ∧
      (¬ fixed ∨ (∀ w ∈ ws, w.1.geometry = false) → (4096 ≤ presence.toNat ∨ ∃ w ∈ ws, w.1.inRange w.2 = false) →
        refused .badValue)) ∧
    (let ws := presentFields towerFields presence values;
      let refused (st : Status) := exec (.configTower tower presence values) s =
        .next ((s.heard (.configTower tower presence values)).replying 0x02 (.fail st)).transmit
      (tower.toNat < 1 ∨ 16 < tower.toNat → refused .badValue) ∧
      (1 ≤ tower.toNat → tower.toNat ≤ 16 →
        (fixed → (∃ w ∈ ws, w.1.geometry = true) → refused .wrongState) ∧
        (¬ fixed ∨ (∀ w ∈ ws, w.1.geometry = false) → (∃ w ∈ ws, w.1.inRange w.2 = false) → refused .badValue)))) ∧
  (∀ (s : State) (tower : Byte) (presence : U16) (values : List U16), s.receptive → values.length = bitsSet presence →
    let rests := s.run.mstate = .unconfigured ∨ s.run.mstate = .stopped
    let after (ws : List FieldWrite) (key : FieldKey) : Option Nat :=
      match (ws.filter fun w => w.1 == key).getLast? with
      | some w => some w.2
      | none => s.setting key
    let radiiClash (ws : List FieldWrite) := ∃ j k a b, 1 ≤ j ∧ j < k ∧ k ≤ 16 ∧
      (∀ n, after ws (.machine .towerCount) = some n → k ≤ n) ∧ after ws (.tower j .radius) = some a ∧
      after ws (.tower k .radius) = some b ∧ b ≤ a
    (let ws : List FieldWrite := (presentFields machineFields presence values).map fun w => (.machine w.1, w.2);
      (rests ∨ ∀ w ∈ ws, w.1.geometry = false) → presence.toNat < 4096 → (∀ w ∈ ws, inRange w = true) →
      radiiClash ws ∨ (∃ n i, after ws (.machine .towerCount) = some n ∧ after ws (.machine .driveInterval) = some i ∧
        i < (n + 2) * 15) →
      exec (.configMachine presence values) s =
        .next ((s.heard (.configMachine presence values)).replying 0x01 (.fail .badValue)).transmit) ∧
    (let k := tower.toNat
      let ws : List FieldWrite := (presentFields towerFields presence values).map fun w => (.tower k w.1, w.2);
      1 ≤ k → k ≤ 16 → (rests ∨ ∀ w ∈ ws, w.1.geometry = false) → (∀ w ∈ ws, inRange w = true) →
      radiiClash ws ∨
        (∃ m x, after ws (.tower k .minRun) = some m ∧ after ws (.tower k .maxOrder) = some x ∧ x ≤ m) ∨
        (∃ w x, after ws (.tower k .jointWarn) = some w ∧ after ws (.tower k .jointTrip) = some x ∧ x ≤ w) →
      exec (.configTower tower presence values) s =
        .next ((s.heard (.configTower tower presence values)).replying 0x02 (.fail .badValue)).transmit))

/-- R10, R11: outside UNCONFIGURED accepted tuning is staged: each written field's pending value becomes the value written,
every other field's stays, and nothing is applied. The two sides of the disjunction are the two requests. -/
def Obligations.AcceptedTuningIsStaged : Prop :=
  ∀ (s : State) (tower : Byte) (presence : U16) (values : List U16), s.receptive → values.length = bitsSet presence →
    s.run.mstate ≠ .unconfigured →
    (let ws := presentFields machineFields presence values;
      presence.toNat < 4096 → (∀ w ∈ ws, w.1.geometry = false ∧ w.1.inRange w.2 = true) →
      (s.candidate (ws.map fun w => (.machine w.1, w.2))).radiiIncrease = true →
      (s.candidate (ws.map fun w => (.machine w.1, w.2))).roundFits = true →
      ∃ p : List FieldWrite,
        (let h := s.heard (.configMachine presence values);
          exec (.configMachine presence values) s =
            .next (({ h with table := { s.table with pending := p } } : State).replying 0x01 .ok).transmit) ∧
        (∀ w ∈ ws, { s with table := { s.table with pending := p } }.setting (.machine w.1) = some w.2) ∧
        (∀ key, (∀ w ∈ ws, key ≠ .machine w.1) →
          { s with table := { s.table with pending := p } }.setting key = s.setting key)) ∧
    (let ws := presentFields towerFields presence values;
      let k := tower.toNat
      1 ≤ k → k ≤ 16 → (∀ w ∈ ws, w.1.geometry = false ∧ w.1.inRange w.2 = true) →
      (s.candidate (ws.map fun w => (.tower k w.1, w.2))).radiiIncrease = true →
      (s.candidate (ws.map fun w => (.tower k w.1, w.2))).towerConsistent k = true →
      ∃ p : List FieldWrite,
        (let h := s.heard (.configTower tower presence values);
          exec (.configTower tower presence values) s =
            .next (({ h with table := { s.table with pending := p } } : State).replying 0x02 .ok).transmit) ∧
        (∀ w ∈ ws, { s with table := { s.table with pending := p } }.setting (.tower k w.1) = some w.2) ∧
        (∀ key, (∀ w ∈ ws, key ≠ .tower k w.1) →
          { s with table := { s.table with pending := p } }.setting key = s.setting key))

/-- R11, R17: in UNCONFIGURED an accepted request writes its fields at once; a write that completes the configuration makes
the machine STOPPED and starts the drive interval timer and the quiet timer. R11, R13 to R17: in STOPPED an accepted request
with a geometry field writes its fields and everything pending at once. Then a change of N changes membership, a written
drive interval restarts its timer, a written miss limit is brought into agreement tower by tower, each written field has its
effect, in this order (assumption log 15), and completeness is settled. R12 to R17, R33, R81: what the values written do,
one by one. A tower between the old and the new N takes its reset values; ACTIVE records of leaving towers become LATCHED
and a slot to one takes no REPORT. A miss limit brings counts and link states into agreement. A silence time stops or starts
its timer; a radius or wheel scale discards the slip window; a stall time at or below the elapsed time expires the stall
timer. A machine STOPPED with an incomplete configuration becomes UNCONFIGURED. -/
def Obligations.WritesAreAppliedWithTheirEffects : Prop :=
  (∀ (s : State) (i : Instr) (f : PanelFrame) (ws : List FieldWrite), s.receptive → s.run.mstate = .unconfigured →
    s.table.pending = [] → i.frame = some f →
    (∃ presence values, values.length = bitsSet presence ∧
      ((i = .configMachine presence values ∧ presence.toNat < 4096 ∧
          ws = (presentFields machineFields presence values).map (fun w => (.machine w.1, w.2)) ∧
          (s.candidate ws).roundFits = true) ∨
        (∃ tower : Byte, i = .configTower tower presence values ∧ 1 ≤ tower.toNat ∧ tower.toNat ≤ 16 ∧
          ws = (presentFields towerFields presence values).map (fun w => (.tower tower.toNat w.1, w.2)) ∧
          (s.candidate ws).towerConsistent tower.toNat = true))) →
    (∀ w ∈ ws, inRange w = true) → (s.candidate ws).radiiIncrease = true →
    ∃ t, exec i s = .next t ∧ t.panel.service = some ⟨f.type, some ⟨f.type, .ok, none, .none⟩⟩ ∧ t.table.pending = [] ∧
      (∀ w ∈ ws, t.held w.1 = some w.2) ∧ (∀ key, (∀ w ∈ ws, key ≠ w.1) → t.held key = s.held key) ∧
      t.angle.held = s.angle.held ∧ t.inputs = s.inputs ∧ t.sectors = s.sectors ∧ t.store.stored = s.store.stored ∧
      (t.complete = false → t.run = s.run ∧ t.engine.timer.isSome = s.engine.timer.isSome) ∧
      (t.complete = true → t.run.mstate = .stopped ∧ t.run.contactor = false ∧ t.run.warning = false ∧
        t.engine.timer = some ⟨t.mval .driveInterval, t.clock⟩ ∧
        t.span.mode = .active ∧ t.span.quietTimer = some ⟨t.mval .quietDelay * 1000, t.clock⟩)) ∧
  (∀ (s : State) (i : Instr) (f : PanelFrame) (ws : List FieldWrite), s.receptive → s.run.mstate = .stopped →
    i.frame = some f →
    (∃ presence values, values.length = bitsSet presence ∧
      ((i = .configMachine presence values ∧ presence.toNat < 4096 ∧
          ws = (presentFields machineFields presence values).map (fun w => (.machine w.1, w.2)) ∧
          (s.candidate ws).roundFits = true) ∨
        (∃ tower : Byte, i = .configTower tower presence values ∧ 1 ≤ tower.toNat ∧ tower.toNat ≤ 16 ∧
          ws = (presentFields towerFields presence values).map (fun w => (.tower tower.toNat w.1, w.2)) ∧
          (s.candidate ws).towerConsistent tower.toNat = true))) →
    (∃ w ∈ ws, w.1.geometry = true) → (∀ w ∈ ws, inRange w = true) → (s.candidate ws).radiiIncrease = true →
    let written := s.table.pending ++ ws
    let has (f : MachineField) := ∃ w ∈ written, w.1 = .machine f
    ∃ w : State, w = { s.heard (parseRequest f) with table := w.table } ∧ w.table.pending = [] ∧
      (∀ key, (∀ k, (∃ f, key = .tower k f) → 1 ≤ k ∧ k ≤ 16) →
        w.held key = match (written.filter fun v => v.1 == key).getLast? with
          | some v => some v.2
          | none => s.held key) ∧
      (∀ k, (w.tower k).dyn = (s.tower k).dyn) ∧
      let a := if w.towerCount = s.towerCount then w else w.changeMembers s.towerCount
      let b := if has .driveInterval then a.restartInterval else a
      let c := if has .missLimit then b.members.foldl State.agreeMisses b else b
      let d := written.foldl State.fieldApplied c
      exec i s = .next (d.settleCompleteness.replying f.type .ok).transmit) ∧
  ((∀ (s : State) (old : Nat), s.towerCount ≠ old →
    let n := s.towerCount
    let t := s.changeMembers old
    let moves (k : Nat) := min old n < k ∧ k ≤ max old n
    t = { s with
      table := t.table
      angle := { s.angle with windows := t.angle.windows, overLimit := t.angle.overLimit }
      span := { s.span with slot := s.span.slot.map fun sl => if n < sl.tower then { sl with left := true } else sl }
      faults := { s.faults with
        records := s.faults.records.map fun r =>
          if ∃ k, r.tower = some k ∧ n < k ∧ k ≤ old then { r with condition := .latched } else r
        tripMarks := t.faults.tripMarks } } ∧
    t.table.machine = s.table.machine ∧ t.table.pending = s.table.pending ∧
    ∀ k, 1 ≤ k → k ≤ 16 →
      (moves k → t.tower k = ⟨(s.tower k).cfg, ⟨none, .absent, 0, .absent, 0, .forward, 0, false, 0, none, .idle⟩⟩ ∧
        nth t.angle.windows k none = none ∧ nth t.angle.overLimit k 0 = 0 ∧ nth t.faults.tripMarks k false = false) ∧
      (¬ moves k → t.tower k = s.tower k ∧ nth t.angle.windows k none = nth s.angle.windows k none ∧
        nth t.angle.overLimit k 0 = nth s.angle.overLimit k 0 ∧
        nth t.faults.tripMarks k false = nth s.faults.tripMarks k false)) ∧
  (∀ (s : State) (k : Nat), 1 ≤ k → k ≤ 16 →
    let limit := s.mval .missLimit
    let d := (s.tower k).dyn
    let c := min d.misses limit
    let agreed (l : LinkState) (st : TowerStatus) : State := s.setDyn k fun d => { d with misses := c, link := l, status := st }
    (d.link = .missing → c = limit → s.agreeMisses k = (agreed .lost .absent).raise .linkLost (some k)) ∧
    (d.link = .lost → c < limit → s.agreeMisses k = agreed .missing (towerStatus .missing d.report)) ∧
    (¬ (d.link = .missing ∧ c = limit) → ¬ (d.link = .lost ∧ c < limit) → s.agreeMisses k = agreed d.link d.status)) ∧
  (∀ (s : State) (w : FieldWrite),
    let v := s.mval .panelSilence
    let silence (t : Option Timer) : State := { s with panel := { s.panel with silenceTimer := t } }
    (w.1 = .machine .panelSilence →
      (v = 0 → s.fieldApplied w = silence none) ∧
      (0 < v → s.panel.silenceTimer = none → s.panel.asleep = false →
        s.fieldApplied w = silence (some ⟨v * 1000, s.clock⟩)) ∧
      (0 < v → s.panel.silenceTimer ≠ none ∨ s.panel.asleep = true → s.fieldApplied w = s)) ∧
    (∀ k, w.1 = .tower k .radius ∨ w.1 = .tower k .wheelScale →
      s.fieldApplied w = { s with angle := { s.angle with windows := setNth s.angle.windows k none } }) ∧
    (∀ k, w.1 = .tower k .stallTime →
      ((s.tower k).dyn.stall = .idle → s.fieldApplied w = s) ∧
      (∀ c since, (s.tower k).dyn.stall = .running c since →
        (s.clock - since < s.tval k .stallTime * 1000 → s.fieldApplied w = s) ∧
        (s.tval k .stallTime * 1000 ≤ s.clock - since →
          s.fieldApplied w = (s.setDyn k fun d => { d with stall := .running c s.clock }).raise .stall (some k)))) ∧
    (w.1 ≠ .machine .panelSilence → (∀ k, w.1 ∉ ([.tower k .radius, .tower k .wheelScale, .tower k .stallTime] : List FieldKey)) →
      s.fieldApplied w = s)) ∧
  (∀ s : State,
    (∀ t, s.engine.timer = some t → s.restartInterval =
      { s with engine := { s.engine with timer := some ⟨s.mval .driveInterval, s.clock⟩ } }) ∧
    (s.engine.timer = none → s.restartInterval = s) ∧
    (s.run.mstate = .stopped → s.complete = false → s.table.pending = [] → s.span.mode = .active →
      let u : State := { s with
        run := { s.run with
          mstate := .unconfigured, dest := none, reason := none, origin := none, contactor := false, warning := false }
        engine := { s.engine with timer := none }
        span := { s.span with quietTimer := none }
        angle := { s.angle with
          windows := Vector.replicate 16 none, overLimit := Vector.replicate 16 0, haltAngle := none }
        store := { s.store with record := ⟨true, .other, s.run.pass, none, none⟩ } }
      s.settleCompleteness = u.queueNotice .machine (.state .unconfigured none)) ∧
    (s.run.mstate = .stopped → s.complete = true → s.settleCompleteness = s)))

/-! ### The run controller -/

/-- R87, R88, R89: START_PASS in STOPPED with nothing in its way creates the pass and enters PRESTART, which is left for
RUNNING at once where the prestart time is 0 and every tower is ready (`PrestartCompletesOrFails`). That the bits of the
presence byte above the two named are ignored, here and in what follows, is the model's reading (assumption log 19). R86
check 3, R87: START_PASS in STOPPED with a value out of range is refused BAD_VALUE; else the first blocking condition that
holds is answered, chain, angle, fault and barrier in this order. The run controller is as it was. -/
def Obligations.StartPassStartsOrIsBlocked : Prop :=
  (∀ (s : State) (direction presence circles : Byte) (pace stopAngle : U16) (d : Direction), s.receptive →
    s.run.mstate = .stopped → directionOf direction = some d →
    (presence.getLsbD 0 = true → stopAngle.toNat < 36000) →
    (presence.getLsbD 1 = true → 1 ≤ circles.toNat ∧ circles.toNat ≤ 99) →
    s.inputs.chainClosed = true → s.angle.heldValid = true → (∀ r ∈ s.faults.records, r.mode = .deferred) →
    (∀ c ∈ s.sectors.installed, c.ahead d s.angle.held = false) →
    let c : Instr := .startPass direction pace presence stopAngle circles
    let h := s.heard (.startPass direction pace presence stopAngle circles)
    let p : Pass :=
      { direction := d, pace := min 1000 pace.toNat
        stopAngle := if presence.getLsbD 0 then some stopAngle.toNat else none
        circles := if presence.getLsbD 1 then some circles.toNat else none
        travel := 0, origin := s.angle.held }
    let warn := s.mval .prestartTime * 1000
    let u : State := { h with
      run := { s.run with
        mstate := .prestart, dest := none, reason := none, origin := some .new, pass := some p
        prestartTimer := if warn = 0 then none else some ⟨warn, s.clock⟩
        startFailTimer := some ⟨warn + s.mval .stopTimeout * 1000, s.clock⟩
        contactor := true, warning := true }
      angle := { s.angle with
        windows := Vector.replicate 16 none, overLimit := Vector.replicate 16 0, haltAngle := none }
      store := { s.store with record := ⟨true, .moving, some p, none, none⟩ } }
    exec c s = .next (((u.queueNotice .machine (.state .prestart none)).prestartTest).replying 0x10
      (.ok (.pace (min 1000 pace.toNat)))).transmit) ∧
  (∀ (s : State) (direction presence circles : Byte) (pace stopAngle : U16), s.receptive → s.run.mstate = .stopped →
    let c : Instr := .startPass direction pace presence stopAngle circles
    let answers (a : Answer) := exec c s =
      .next ((s.heard (.startPass direction pace presence stopAngle circles)).replying 0x10 a).transmit
    let bad := directionOf direction = none ∨ (presence.getLsbD 0 = true ∧ 36000 ≤ stopAngle.toNat) ∨
      (presence.getLsbD 1 = true ∧ (circles.toNat < 1 ∨ 99 < circles.toNat))
    (bad → answers (.fail .badValue)) ∧
    (¬ bad →
      (s.inputs.chainClosed = false → answers (.blocked .chainOpen)) ∧
      (s.inputs.chainClosed = true → s.angle.heldValid = false → answers (.blocked .angleInvalid)) ∧
      (s.inputs.chainClosed = true → s.angle.heldValid = true → (∃ r ∈ s.faults.records, r.mode ≠ .deferred) →
        answers (.blocked .fault)) ∧
      (∀ d before b after, s.inputs.chainClosed = true → s.angle.heldValid = true →
        (∀ r ∈ s.faults.records, r.mode = .deferred) → directionOf direction = some d →
        s.sectors.installed = before ++ b :: after → (∀ x ∈ before, x.ahead d s.angle.held = false) →
        b.ahead d s.angle.held = true → answers (.blocked (.barrier (before.length + 1))))))

/-- R95, R100, R101, R103: STOP_PASS in RUNNING or PRESTART, HOLD in RUNNING and REVERSE in RUNNING enter STOPPING toward
their destinations; STOPPING is left at once where every tower is at rest already (`StoppingCompletesOrTimesOut`). R97, R84:
STOP_PASS in STOPPING makes the destination STOPPED; a change of destination is reported and captured. R100, R103: STOP_PASS
in HELD or RECOVERING ends the pass and enters STOPPED; REVERSE in HELD flips the pass direction. PASS_END is queued before
the STATE notice of the same change by the model's choice (assumption log 14). -/
def Obligations.StopHoldAndReverseSteerThePass : Prop :=
  (∀ (s : State) (i : Instr) (f : PanelFrame) (dest : Destination) (reason : Option PassEnd), s.receptive →
    i.frame = some f →
    (i = .stopPass ∧ dest = .stopped ∧ reason = some .panel ∧ (s.run.mstate = .running ∨ s.run.mstate = .prestart)) ∨
      (i = .hold ∧ dest = .held ∧ reason = none ∧ s.run.mstate = .running) ∨
      (i = .reverse ∧ dest = .reversing ∧ reason = none ∧ s.run.mstate = .running) →
    let h := s.heard (parseRequest f)
    let u : State := { h with
      run := { s.run with
        mstate := .stopping, dest := some dest, reason := reason, origin := none
        prestartTimer := none, startFailTimer := none, stopTimer := some ⟨s.mval .stopTimeout * 1000, s.clock⟩
        contactor := true, warning := false }
      angle := { s.angle with haltAngle := none }
      store := { s.store with
        record := ⟨true, if dest = .stopped then .other else .moving, s.run.pass, none, none⟩ } }
    exec i s = .next (((u.queueNotice .machine (.state .stopping (some dest))).stoppingTest).replying f.type .ok).transmit) ∧
  (∀ s : State, s.receptive → s.run.mstate = .stopping →
    let h := s.heard .stopPass
    (s.run.dest = some .stopped → exec .stopPass s = .next (h.replying 0x12 .ok).transmit) ∧
    (s.run.dest ≠ some .stopped →
      let u : State := { h with
        run := { s.run with dest := some .stopped, reason := some .panel }
        store := { s.store with record := ⟨true, .other, s.run.pass, none, none⟩ } }
      exec .stopPass s = .next ((u.queueNotice .machine (.state .stopping (some .stopped))).replying 0x12 .ok).transmit)) ∧
  (∀ s : State, s.receptive →
    (s.run.mstate = .held ∨ s.run.mstate = .recovering →
      let h := s.heard .stopPass
      let u : State := { h with
        run := { s.run with
          mstate := .stopped, dest := none, reason := none, origin := none, pass := none, recoveryTimer := none
          contactor := false, warning := false }
        span := { h.span with quietTimer := some ⟨s.mval .quietDelay * 1000, s.clock⟩ }
        angle := { s.angle with
          windows := Vector.replicate 16 none, overLimit := Vector.replicate 16 0
          haltAngle := if s.angle.heldValid then some s.angle.held else none }
        store := { s.store with record := ⟨true, .other, none, none, none⟩ } }
      exec .stopPass s = .next (((u.queueNotice .machine (.passEnd .panel)).queueNotice .machine
        (.state .stopped none)).replying 0x12 .ok).transmit) ∧
    (s.run.mstate = .held →
      let h := s.heard .reverse
      let p := s.run.pass.map fun p =>
        { p with direction := match p.direction with | .forward => .reverse | .reverse => .forward }
      exec .reverse s = .next (({ h with
        run := { s.run with pass := p }
        store := { s.store with record := ⟨true, .held, p, none, none⟩ } } : State).replying 0x15 .ok).transmit))

/-- R86: a run request is answered UNCONFIGURED in UNCONFIGURED, and WRONG_STATE in a state in which it is not taken; the
run controller is as it was. R102: RESUME in HELD is blocked by an open chain and by a record of IMMEDIATE or HARD mode, in
this order; else the machine enters PRESTART with its pass kept. R105: TRIP_RESET in TRIPPED is blocked by an open chain and
by an ACTIVE HARD record, in this order; else every HARD record leaves the list, the trip kind is absent and the machine
enters STOPPED. -/
def Obligations.RunRequestsLeaveTheirStatesOrAreRefused : Prop :=
  (∀ (s : State) (i : Instr) (f : PanelFrame) (states : List MState), s.receptive → i.frame = some f →
    takenIn i = some states → s.run.mstate ∉ states →
    exec i s = .next ((s.heard (parseRequest f)).replying f.type
      (.fail (if s.run.mstate = .unconfigured then .unconfigured else .wrongState))).transmit) ∧
  (∀ s : State, s.receptive → s.run.mstate = .held →
    let h := s.heard .resume
    let warn := s.mval .prestartTime * 1000
    let u : State := { h with
      run := { s.run with
        mstate := .prestart, dest := none, reason := none, origin := some .resume
        prestartTimer := if warn = 0 then none else some ⟨warn, s.clock⟩
        startFailTimer := some ⟨warn + s.mval .stopTimeout * 1000, s.clock⟩
        contactor := true, warning := true }
      angle := { s.angle with
        windows := Vector.replicate 16 none, overLimit := Vector.replicate 16 0, haltAngle := none }
      store := { s.store with record := ⟨true, .moving, s.run.pass, none, none⟩ } }
    (s.inputs.chainClosed = false → exec .resume s = .next (h.replying 0x14 (.blocked .chainOpen)).transmit) ∧
    (s.inputs.chainClosed = true → (∃ r ∈ s.faults.records, r.mode ≠ .deferred) →
      exec .resume s = .next (h.replying 0x14 (.blocked .fault)).transmit) ∧
    (s.inputs.chainClosed = true → (∀ r ∈ s.faults.records, r.mode = .deferred) →
      exec .resume s =
        .next (((u.queueNotice .machine (.state .prestart none)).prestartTest).replying 0x14 .ok).transmit)) ∧
  (∀ s : State, s.receptive → s.run.mstate = .tripped → s.modesAgree →
    let h := s.heard .tripReset
    let u : State := { h with
      run := { s.run with
        mstate := .stopped, dest := none, reason := none, origin := none, tripKind := none
        contactor := false, warning := false }
      faults := { h.faults with records := h.faults.records.filter fun r => r.mode ≠ .hard }
      span := { h.span with quietTimer := some ⟨s.mval .quietDelay * 1000, s.clock⟩ }
      angle := { s.angle with
        windows := Vector.replicate 16 none, overLimit := Vector.replicate 16 0
        haltAngle := if s.angle.heldValid then some s.angle.held else none }
      store := { s.store with record := ⟨true, .other, s.run.pass, none, none⟩ } }
    (s.inputs.chainClosed = false → exec .tripReset s = .next (h.replying 0x16 (.blocked .chainOpen)).transmit) ∧
    (s.inputs.chainClosed = true → (∃ r ∈ s.faults.records, r.mode = .hard ∧ r.condition = .active) →
      exec .tripReset s = .next (h.replying 0x16 (.blocked .fault)).transmit) ∧
    (s.inputs.chainClosed = true → (∀ r ∈ s.faults.records, r.mode = .hard → r.condition = .latched) →
      exec .tripReset s = .next ((u.queueNotice .machine (.state .stopped none)).replying 0x16 .ok).transmit))

/-- R106: READ_MACHINE answers with the machine as it stands and changes nothing. R117, R121: READ_SECTORS and READ_WATCHES
answer with the sector table and the watch unit as they stand. That a table choice above 1 names no value is the model's
reading (assumption log 19). -/
def Obligations.ReadRequestsReportTheirBlocks : Prop :=
  (∀ s : State, s.receptive →
    let seconds (t : Option Timer) := t.map fun t => min t.length (s.clock - t.startedAt) / 1000
    exec .readMachine s = .next ((s.heard .readMachine).replying 0x17 (.ok (.machine
      { mstate := s.run.mstate, dest := s.run.dest, reason := s.run.reason, origin := s.run.origin
        complete := s.complete, pass := s.run.pass, tripKind := s.run.tripKind
        angle := s.angle.held, angleValid := s.angle.heldValid, pEff := s.engine.pEff, mode := .active
        contactor := s.run.contactor, warning := s.run.warning
        aux := [s.auxOutput 1, s.auxOutput 2, s.auxOutput 3, s.auxOutput 4]
        chainClosed := s.inputs.chainClosed
        prestartTimer := seconds s.run.prestartTimer, startFailTimer := seconds s.run.startFailTimer
        stopTimer := seconds s.run.stopTimer, recoveryTimer := seconds s.run.recoveryTimer }))).transmit) ∧
  (∀ (s : State) (choice first : Byte), s.receptive →
    (let h := s.heard (.readSectors choice first);
      let table := if choice = 1 then s.sectors.pending.getD [] else s.sectors.installed
      (first.toNat < 1 ∨ 24 < first.toNat ∨ 1 < choice.toNat →
        exec (.readSectors choice first) s = .next (h.replying 0x21 (.fail .badValue)).transmit) ∧
      (1 ≤ first.toNat → first.toNat ≤ 24 → choice.toNat ≤ 1 →
        exec (.readSectors choice first) s = .next (h.replying 0x21 (.ok (.sectors
          { installed := s.sectors.installed.length, pending := s.sectors.pending.map List.length
            build := s.sectors.build.map List.length, cap := s.sectors.cap, containing := s.sectors.containing
            sectors := ((table.zipIdx.map fun c => (c.2 + 1, c.1)).drop (first.toNat - 1)).take 12 }))).transmit)) ∧
    exec .readWatches s = .next ((s.heard .readWatches).replying 0x29 (.ok (.watches s.watch.entries.toList
      (s.watch.aux.toList.map fun a => (a.mode, a.level,
        match a.mode with
        | .forcedOn => true
        | .forcedOff => false
        | .auto => a.level && (s.run.mstate == .running || s.run.mstate == .stopping)))))).transmit)

/-- R89, R84: PRESTART completes into RUNNING exactly when its timer has expired and every tower is ONLINE and READY; the
start-fail timer then stops and every approach mark is ARMED (R115). R89, R90: the timers of PRESTART. The prestart timer's
expiry lets PRESTART complete; the start-fail timer's fails the start into STOPPED with the pass discarded, or into HELD
with it kept, by the prestart origin. START_FAILED is queued after the STATE notice by the model's choice (assumption log
14). -/
def Obligations.PrestartCompletesOrFails : Prop :=
  (∀ s : State, s.span.mode = .active →
    let done := s.run.mstate = .prestart ∧ s.run.prestartTimer = none ∧
      ∀ k, 1 ≤ k → k ≤ s.towerCount → (s.tower k).dyn.link = .online ∧ (s.tower k).dyn.status = .ready
    let u : State := { s with
      run := { s.run with
        mstate := .running, dest := none, reason := none, origin := none, startFailTimer := none
        contactor := true, warning := false }
      angle := { s.angle with haltAngle := none }
      sectors := { s.sectors with installed := s.sectors.installed.map fun c =>
        match c.body with
        | .barrier m a _ _ => { c with body := .barrier m a .armed .armed }
        | .cap _ => c }
      store := { s.store with record := ⟨true, .moving, s.run.pass, none, none⟩ } }
    (done → s.prestartTest = u.queueNotice .machine (.state .running none)) ∧ (¬ done → s.prestartTest = s)) ∧
  (∀ (s : State) (timer : Timer), s.powered = true → s.run.mstate = .prestart → s.span.mode = .active →
    let now := max s.clock (timer.startedAt + timer.length)
    (s.run.prestartTimer = some timer →
      exec .prestartTimerExpiry s =
        .next ({ s with clock := now, run := { s.run with prestartTimer := none } } : State).prestartTest.transmit) ∧
    (s.run.startFailTimer = some timer →
      let fresh := s.run.origin = some .new
      let m : MState := if fresh then .stopped else .held
      let pass := if fresh then none else s.run.pass
      let u : State := { s with
        clock := now
        run := { s.run with
          mstate := m, dest := none, reason := none, origin := none, pass := pass, prestartTimer := none
          startFailTimer := none, contactor := false, warning := false }
        span := if fresh then { s.span with quietTimer := some ⟨s.mval .quietDelay * 1000, now⟩ } else s.span
        angle := { s.angle with
          windows := Vector.replicate 16 none, overLimit := Vector.replicate 16 0
          haltAngle := if s.angle.heldValid then some s.angle.held else none }
        store := { s.store with record := ⟨true, if fresh then .other else .held, pass, none, none⟩ } }
      exec .startFailTimerExpiry s =
        .next ((u.queueNotice .machine (.state m none)).queueNotice .machine (.startFailed m)).transmit))

/-- R96, R97, R103: STOPPING completes exactly when every tower is ordered 0 and halted: into STOPPED with the pass ended,
into HELD with it kept, or into PRESTART with its direction flipped. PASS_END is queued before STATE by the model's choice
(assumption log 14); a frame of a non-zero order still being sent is cut short, as Law 2 has it (R63; assumption log 31).
R98, R104: the stop timer's expiry in STOPPING raises STOP_TIMEOUT, which trips the machine: TRIPPED with every order 0 and
the pass discarded, the record latched where the list has room for it. -/
def Obligations.StoppingCompletesOrTimesOut : Prop :=
  (∀ s : State, s.span.mode = .active →
    let done := s.run.mstate = .stopping ∧ ∀ k, 1 ≤ k → k ≤ s.towerCount → (s.tower k).dyn.lastOrder = 0 ∧
      match (s.tower k).dyn.report with
      | some r => r.executing = 0 ∧ r.driveState = .stopped
      | none => (s.tower k).dyn.link = .absent
    let cut : SpanMaster := { s.span with slot := s.span.slot.map fun sl =>
      if sl.kind = .drive ∧ sl.phase = .sending ∧ 0 < sl.order then { sl with phase := .waiting } else sl }
    let halt := if s.angle.heldValid then some s.angle.held else none
    let still (m : MState) (pass : Option Pass) : State := { s with
      run := { s.run with
        mstate := m, dest := none, reason := none, origin := none, pass := pass, stopTimer := none
        contactor := false, warning := false }
      span := cut
      angle := { s.angle with
        windows := Vector.replicate 16 none, overLimit := Vector.replicate 16 0, haltAngle := halt }
      watch := { s.watch with aux := s.watch.aux.map fun a => { a with level := false } }
      store := { s.store with record := ⟨true, if m = .held then .held else .other, pass, none, none⟩ } }
    (¬ done → s.stoppingTest = s) ∧
    (done → ∀ reason, s.run.dest = some .stopped → s.run.reason = some reason →
      let u := still .stopped none
      let u : State := { u with span := { cut with quietTimer := some ⟨s.mval .quietDelay * 1000, s.clock⟩ } }
      s.stoppingTest = (u.queueNotice .machine (.passEnd reason)).queueNotice .machine (.state .stopped none)) ∧
    (done → s.run.dest = some .held →
      s.stoppingTest = (still .held s.run.pass).queueNotice .machine (.state .held none)) ∧
    (done → s.run.dest = some .reversing →
      let warn := s.mval .prestartTime * 1000
      let pass := s.run.pass.map fun p =>
        { p with direction := match p.direction with | .forward => .reverse | .reverse => .forward }
      let u : State := { s with
        run := { s.run with
          mstate := .prestart, dest := none, reason := none, origin := some .reversal, pass := pass, stopTimer := none
          prestartTimer := if warn = 0 then none else some ⟨warn, s.clock⟩
          startFailTimer := some ⟨warn + s.mval .stopTimeout * 1000, s.clock⟩
          contactor := true, warning := true }
        span := cut
        angle := { s.angle with
          windows := Vector.replicate 16 none, overLimit := Vector.replicate 16 0, haltAngle := none }
        watch := { s.watch with aux := s.watch.aux.map fun a => { a with level := false } }
        store := { s.store with record := ⟨true, .moving, pass, none, none⟩ } }
      s.stoppingTest = (u.queueNotice .machine (.state .prestart none)).prestartTest)) ∧
  (∀ (s : State) (timer : Timer), s.powered = true → s.run.mstate = .stopping → s.run.stopTimer = some timer →
    s.modesAgree →
    ∃ t, exec .stopTimerExpiry s = .next t ∧ t.clock = max s.clock (timer.startedAt + timer.length) ∧
      t.run = { s.run with
        mstate := .tripped, dest := none, reason := none, origin := none, pass := none, tripKind := some .stopTimeout
        prestartTimer := none, startFailTimer := none, stopTimer := none, recoveryTimer := none
        contactor := false, warning := false } ∧
      (∀ k, 1 ≤ k → k ≤ s.towerCount → (t.tower k).dyn.lastOrder = 0 ∧ (t.tower k).dyn.stall = .idle) ∧
      (s.faults.records.length < 32 →
        ∃ r ∈ t.faults.records, r.kind = .stopTimeout ∧ r.tower = none ∧ r.mode = .hard ∧ r.condition = .latched) ∧
      (∀ k, (t.tower k).cfg = (s.tower k).cfg ∧ (t.tower k).dyn.report = (s.tower k).dyn.report) ∧
      t.table.machine = s.table.machine ∧ t.table.pending = s.table.pending ∧ t.engine = s.engine ∧
      t.sectors = s.sectors ∧ t.inputs = s.inputs ∧ t.watch.entries = s.watch.entries ∧
      t.store.record = ⟨true, .tripped, none, some .stopTimeout, none⟩ ∧ t.store.stored = s.store.stored)

/-! ### Faults, holds and trips -/

/-- R136 to R140, R145: what a raising does. It repeats the record of its kind and tower, creates one, creates one in the
place of the oldest DEFERRED record where a HARD kind meets a full list, or is not recorded; it queues its FAULT notice; and
it acts by its mode: a trip request for HARD, a hold request for a recorded IMMEDIATE one of any kind but DRIFT. That the
notice is queued before the hold or trip is assumption log 14, and that a record's age is its place in the list is log 26.
-/
def Obligations.RaisingsRecordNotifyAndAct : Prop :=
  ∀ (s : State) (k : FaultKind) (tower : Option Nat), s.faultsDistinct →
    let angle := s.angle.held
    let mode := s.faults.modes.mode k
    let condition : Condition :=
      if k ∈ [.slip, .drift, .jointTrip, .driveFault, .stopTimeout, .barrierOverrun] then .latched else .active
    let fresh : FaultRecord := ⟨k, tower, mode, condition, angle, angle, 1⟩
    let listed (u : State) (rs : List FaultRecord) : State := { u with faults := { u.faults with records := rs } }
    let frozen (u : State) (m : FaultMode) : State :=
      match tower with
      | some n => if k = .slip ∧ m = .deferred then u.setDyn n fun d => { d with slipFrozen := true } else u
      | none => u
    let told (u : State) (m : FaultMode) (count : Nat) (o : FaultOutcome) (gone : Option (FaultKind × Option Nat)) : State :=
      u.queueNotice (match tower with | some n => .tower n | none => .machine) (.fault k m count o gone)
    let acts (u : State) (m : FaultMode) : State :=
      match m with
      | .hard => u.tripRequest k
      | .immediate => if k = .drift then u else u.holdRequest
      | .deferred => u
    (∀ before r after, s.faults.records = before ++ r :: after → r.key = (k, tower) →
      let r' := { r with count := min 255 (r.count + 1), lastAngle := angle, condition := condition }
      s.raise k tower =
        acts (told (frozen (listed s (before ++ r' :: after)) r.mode) r.mode r'.count .repeated none) r.mode) ∧
    ((∀ r ∈ s.faults.records, r.key ≠ (k, tower)) →
      (s.faults.records.length < 32 → s.raise k tower =
        acts (told (frozen (listed s (s.faults.records ++ [fresh])) mode) mode 1 .new none) mode) ∧
      (s.faults.records.length = 32 →
        (mode ≠ .hard → s.raise k tower = told s mode 0 .notRecorded none) ∧
        (mode = .hard → (∀ r ∈ s.faults.records, r.mode ≠ .deferred) →
          s.raise k tower = (told s mode 0 .notRecorded none).tripRequest k) ∧
        (∀ before v after, mode = .hard → s.faults.records = before ++ v :: after → v.mode = .deferred →
          ((v.condition = .latched ∧ ∀ r ∈ before, r.mode = .deferred → r.condition = .active) ∨
            (∀ r ∈ before, r.mode ≠ .deferred) ∧ (∀ r ∈ v :: after, r.mode = .deferred → r.condition = .active)) →
          let u := listed s (before ++ after ++ [fresh])
          let u := match v.tower with
            | some n => if v.kind = .slip then u.setDyn n fun d => { d with slipFrozen := false } else u
            | none => u
          s.raise k tower = (told u mode 1 .new (some (v.kind, v.tower))).tripRequest k)))

/-- R101: a hold request takes RUNNING toward HELD, PRESTART to HELD at once and a reversal to HELD; it changes no other
state. R104: a trip request takes the three energised states to TRIPPED at once, with every order 0, a frame of a non-zero
order cut short, the timers stopped, the pass ended and the outputs released; it changes no other state. PASS_END is queued
before STATE by the model's choice (assumption log 14). The premise of an ACTIVE line leaves out QUIET, which Law 5 allows
in STOPPED alone. -/
def Obligations.HoldAndTripRequestsActByState : Prop :=
  (∀ s : State, s.span.mode = .active →
    (s.run.mstate = .running →
      let u : State := { s with
        run := { s.run with
          mstate := .stopping, dest := some .held, reason := none, origin := none
          prestartTimer := none, startFailTimer := none, stopTimer := some ⟨s.mval .stopTimeout * 1000, s.clock⟩
          contactor := true, warning := false }
        angle := { s.angle with haltAngle := none }
        store := { s.store with record := ⟨true, .moving, s.run.pass, none, none⟩ } }
      s.holdRequest = (u.queueNotice .machine (.state .stopping (some .held))).stoppingTest) ∧
    (s.run.mstate = .prestart →
      let u : State := { s with
        run := { s.run with
          mstate := .held, dest := none, reason := none, origin := none, prestartTimer := none, startFailTimer := none
          contactor := false, warning := false }
        angle := { s.angle with
          windows := Vector.replicate 16 none, overLimit := Vector.replicate 16 0
          haltAngle := if s.angle.heldValid then some s.angle.held else none }
        store := { s.store with record := ⟨true, .held, s.run.pass, none, none⟩ } }
      s.holdRequest = u.queueNotice .machine (.state .held none)) ∧
    (s.run.mstate = .stopping → s.run.dest = some .reversing →
      let u : State := { s with
        run := { s.run with dest := some .held, reason := none }
        store := { s.store with record := ⟨true, .moving, s.run.pass, none, none⟩ } }
      s.holdRequest = u.queueNotice .machine (.state .stopping (some .held))) ∧
    (s.run.mstate ∉ [.running, .prestart, .stopping] ∨ (s.run.mstate = .stopping ∧ s.run.dest ≠ some .reversing) →
      s.holdRequest = s)) ∧
  (∀ (s : State) (k : FaultKind), s.span.mode = .active →
    (s.run.mstate ∉ [.prestart, .running, .stopping] → s.tripRequest k = s) ∧
    (s.run.mstate ∈ [.prestart, .running, .stopping] →
      let t := s.tripRequest k
      let moved := s.run.mstate ≠ .prestart
      t = (((({ s with
        table := t.table
        run := { s.run with
          mstate := .tripped, dest := none, reason := none, origin := none, pass := none, tripKind := some k
          prestartTimer := none, startFailTimer := none, stopTimer := none, recoveryTimer := none
          contactor := false, warning := false }
        span := { s.span with slot := s.span.slot.map fun sl =>
          if sl.kind = .drive ∧ sl.phase = .sending ∧ 0 < sl.order then { sl with phase := .waiting } else sl }
        angle := { s.angle with
          windows := Vector.replicate 16 none, overLimit := Vector.replicate 16 0, haltAngle := none }
        watch := { s.watch with aux := s.watch.aux.map fun a => if moved then { a with level := false } else a }
        store := { s.store with record := ⟨true, .tripped, none, some k, none⟩ } } : State)).queueNotice .machine
          (.passEnd .faultTrip)).queueNotice .machine (.state .tripped none)) ∧
      t.table.machine = s.table.machine ∧ t.table.pending = s.table.pending ∧
      (∀ j, 1 ≤ j → j ≤ s.towerCount → t.tower j =
        { s.tower j with dyn := { (s.tower j).dyn with lastOrder := 0, stall := .idle } }) ∧
      (∀ j, s.towerCount < j → t.tower j = s.tower j)))

/-- R147, R148: SET_FAULT_MODE changes the mode of a deferrable kind in the mode table and in every record of the kind; SLIP
made DEFERRED freezes the slip factor of each tower with a SLIP record; a kind made IMMEDIATE, but for DRIFT, asks once for
a hold if it has a record. The mode already held, or a value out of range, changes nothing. R150, R151: FAULT_CLEAR removes
the selected LATCHED records, leaves the selected ACTIVE ones, counts both, and clears the slip-frozen flag of each tower
whose SLIP record it removes; a selection out of range is refused. That only the fields its selection uses are looked at is
assumption log 19. -/
def Obligations.FaultModesAndClearing : Prop :=
  (∀ (s : State) (kind mode : Byte), s.receptive →
    let h := s.heard (.setFaultMode kind mode)
    let answers (u : State) (a : Answer) := exec (.setFaultMode kind mode) s = .next (u.replying 0x30 a).transmit
    (faultKindOf kind = none ∨ 1 < mode.toNat ∨ 6 < kind.toNat → answers h (.fail .badValue)) ∧
    (∀ k, faultKindOf kind = some k → kind.toNat ≤ 6 →
      let changed (m : FaultMode) : State := { h with faults := { h.faults with
        modes := h.faults.modes.put k (m == .deferred)
        records := h.faults.records.map fun r => if r.kind = k then { r with mode := m } else r } }
      (mode = 0 → s.faults.modes.mode k = .immediate → answers h .ok) ∧
      (mode = 1 → s.faults.modes.mode k = .deferred → answers h .ok) ∧
      (mode = 1 → s.faults.modes.mode k = .immediate →
        (k ≠ .slip → answers (changed .deferred) .ok) ∧
        (k = .slip → ∃ u : State, answers u .ok ∧ u = { changed .deferred with table := u.table } ∧
          u.table.machine = s.table.machine ∧ u.table.pending = s.table.pending ∧
          ∀ j, u.tower j =
            (if 1 ≤ j ∧ j ≤ 16 ∧ j ≤ s.towerCount ∧ (∃ r ∈ s.faults.records, r.kind = .slip ∧ r.tower = some j) then
              { s.tower j with dyn := { (s.tower j).dyn with slipFrozen := true } } else s.tower j))) ∧
      (mode = 0 → s.faults.modes.mode k = .deferred →
        (k ≠ .drift ∧ (∃ r ∈ s.faults.records, r.kind = k) → answers (changed .immediate).holdRequest .ok) ∧
        (k = .drift ∨ (∀ r ∈ s.faults.records, r.kind ≠ k) → answers (changed .immediate) .ok)))) ∧
  (∀ (s : State) (selection kind tower : Byte), s.receptive →
    let h := s.heard (.faultClear selection kind tower)
    let selected (r : FaultRecord) : Bool :=
      selection = 0 || (faultKindOf kind == some r.kind &&
        (selection = 1 || r.tower == (if tower = 0 then none else some tower.toNat)))
    let gone (r : FaultRecord) : Bool := selected r && r.condition == .latched
    (2 < selection.toNat ∨ (1 ≤ selection.toNat ∧ faultKindOf kind = none) ∨ (selection = 2 ∧ 16 < tower.toNat) →
      exec (.faultClear selection kind tower) s = .next (h.replying 0x32 (.fail .badValue)).transmit) ∧
    (selection = 0 ∨ (selection = 1 ∧ faultKindOf kind ≠ none) ∨
        (selection = 2 ∧ faultKindOf kind ≠ none ∧ tower.toNat ≤ 16) →
      ∃ u : State, exec (.faultClear selection kind tower) s = .next (u.replying 0x32 (.ok (.cleared
          (h.faults.records.filter gone).length
          (h.faults.records.filter fun r => selected r && r.condition == .active).length))).transmit ∧
        u = { h with table := u.table, faults := { h.faults with records := h.faults.records.filter fun r => !gone r } } ∧
        u.table.machine = s.table.machine ∧ u.table.pending = s.table.pending ∧
        ∀ j, u.tower j =
          (if ∃ r ∈ h.faults.records, gone r ∧ r.kind = .slip ∧ r.tower = some j then
            { s.tower j with dyn := { (s.tower j).dyn with slipFrozen := false } } else s.tower j)))

/-- R149: FAULT_LIST answers with the number of records, the mode table and up to ten records from a position. The records
are as the request finds them once it is taken, with an ACTIVE PANEL_SILENT record LATCHED: the model's choice (assumption
log 14). The taking of the request's row and the transmit side's choice at its end are logs 8 and 2. -/
def Obligations.FaultListReportsTheRecords : Prop :=
  ∀ (s : State) (first : Byte), s.receptive →
    let h := s.heard (.faultList first)
    (first.toNat < 1 ∨ 32 < first.toNat →
      exec (.faultList first) s = .next (h.replying 0x31 (.fail .badValue)).transmit) ∧
    (1 ≤ first.toNat → first.toNat ≤ 32 → exec (.faultList first) s = .next (h.replying 0x31 (.ok (.faults
      s.faults.records.length s.faults.modes ((h.faults.records.drop (first.toNat - 1)).take 10)))).transmit)

/-- R140, R143: a chain that opens while the contactor is energised raises CHAIN_OPEN for the first tower whose report shows
its switch open; one that opens otherwise raises nothing; one that closes latches CHAIN_OPEN if no report shows a switch
open. A level the input has already is no change: the model's reading (assumption log 24). -/
def Obligations.ChainSenseChangesRaiseAndLatch : Prop :=
  ∀ (s : State) (closed : Bool), s.powered = true →
    let u : State := { s with inputs := { s.inputs with chainClosed := closed } }
    let open' (k : Nat) : Prop := ∃ r, (s.tower k).dyn.report = some r ∧ r.switchClosed = false
    (s.inputs.chainClosed = closed → exec (.chainSenseChange closed) s = .next s) ∧
    (s.inputs.chainClosed = true → closed = false →
      (s.run.contactor = false → exec (.chainSenseChange closed) s = .next u.transmit) ∧
      (s.run.contactor = true →
        (∀ k, 1 ≤ k → k ≤ s.towerCount → open' k → (∀ j, 1 ≤ j → j < k → ¬ open' j) →
          exec (.chainSenseChange closed) s = .next (u.raise .chainOpen (some k)).transmit) ∧
        ((∀ k, 1 ≤ k → k ≤ s.towerCount → ¬ open' k) →
          exec (.chainSenseChange closed) s = .next (u.raise .chainOpen none).transmit))) ∧
    (s.inputs.chainClosed = false → closed = true →
      ((∃ k, 1 ≤ k ∧ k ≤ s.towerCount ∧ open' k) → exec (.chainSenseChange closed) s = .next u.transmit) ∧
      ((∀ k, 1 ≤ k → k ≤ s.towerCount → ¬ open' k) →
        exec (.chainSenseChange closed) s = .next ({ u with faults := { u.faults with
          records := u.faults.records.map fun (r : FaultRecord) =>
            if r.kind = .chainOpen then { r with condition := .latched } else r } } : State).transmit))

/-! ### Sectors, barriers, watches and auxiliary outputs -/

/-- R109, R110: a part of a sector table is collected; the closing part becomes the pending table if it passes the checks of
R110; a part that is refused abandons the build. That the bits of the marks byte above the first and last mark are ignored
is the model's reading (assumption log 19). R107, R109, 11.4: the sector that an entry describes, and the entries that
describe none. -/
def Obligations.SetSectorsBuildsAPendingTable : Prop :=
  (∀ (s : State) (marks : Byte) (entries : List SectorEntry), s.receptive → entries.length ≤ 19 →
    let h := s.heard (.setSectors marks entries)
    let first := marks.getLsbD 0
    let last := marks.getLsbD 1
    let list (es : List Sector) := (if first then [] else s.sectors.build.getD []) ++ es
    let built (b p : Option (List Sector)) (a : Answer) := exec (.setSectors marks entries) s =
      .next (({ h with sectors := { s.sectors with build := b, pending := p } } : State).replying 0x20 a).transmit
    (first = false → s.sectors.build = none → built none s.sectors.pending (.fail .badValue)) ∧
    (first = true ∨ s.sectors.build ≠ none →
      ((∃ e ∈ entries, sectorOf e = none) → built none s.sectors.pending (.fail .badValue)) ∧
      (∀ es, entries.map sectorOf = es.map some →
        (24 < (list es).length → built none s.sectors.pending (.fail .badValue)) ∧
        ((list es).length ≤ 24 →
          (last = false → built (some (list es)) s.sectors.pending (.ok (.sectorCount (list es).length))) ∧
          (last = true → ¬ tableOrdered (list es) → built none s.sectors.pending (.fail .badValue)) ∧
          (last = true → tableOrdered (list es) →
            built none (some (list es)) (.ok (.sectorCount (list es).length))))))) ∧
  (∀ (a b : U16) (v : Nat), v < 16384 → a.toNat < 36000 → b.toNat < 36000 → a ≠ b →
    let word (hi : Nat) : U16 := BitVec.ofNat 16 (hi + v)
    (v ≤ 1000 → sectorOf ⟨a, b, word 0⟩ = some ⟨a.toNat, b.toNat, .cap v⟩) ∧
    (1000 < v → sectorOf ⟨a, b, word 0⟩ = none) ∧
    (v ≤ 3000 → sectorOf ⟨a, b, word 0x8000⟩ = some ⟨a.toNat, b.toNat, .barrier v .stop .armed .armed⟩ ∧
      sectorOf ⟨a, b, word 0xC000⟩ = some ⟨a.toNat, b.toNat, .barrier v .reverse .armed .armed⟩) ∧
    (3000 < v → sectorOf ⟨a, b, word 0x8000⟩ = none ∧ sectorOf ⟨a, b, word 0xC000⟩ = none) ∧
    (∀ w, sectorOf ⟨a, a, w⟩ = none ∧ ∀ c : U16, 36000 ≤ c.toNat → sectorOf ⟨a, c, w⟩ = none ∧ sectorOf ⟨c, a, w⟩ = none))

/-- R113, R114: the two barrier checks of a sample with a Δ. In RUNNING and STOPPING an angle inside a barrier raises
BARRIER_OVERRUN. In RUNNING the barriers are examined in ascending number by the pass direction held at the sample: the
first whose ARMED approach zone toward it holds the angle fires, its mark becomes FIRED, the run controller acts, and the
examination stops. -/
def Obligations.BarriersTripOrFire : Prop :=
  ∀ (s : State) (d : Direction) (q : Nat),
    let inside (c : Sector) := (∃ m a l t, c.body = .barrier m a l t) ∧
      ((q : Int) - c.start) % 36000 < ((c.finish : Int) - c.start) % 36000
    let fires (c : Sector) := ∃ m a l t, c.body = .barrier m a l t ∧
      match d with
      | .forward => 1 ≤ ((c.start : Int) - q) % 36000 ∧ ((c.start : Int) - q) % 36000 ≤ m ∧ l = .armed
      | .reverse => ((q : Int) - c.finish) % 36000 < m ∧ t = .armed
    let inBarrier := ∃ c ∈ s.sectors.installed, inside c
    (s.run.mstate = .running ∨ s.run.mstate = .stopping → inBarrier → s.overrunCheck q = s.raise .barrierOverrun none) ∧
    ((s.run.mstate ≠ .running ∧ s.run.mstate ≠ .stopping) ∨ ¬ inBarrier → s.overrunCheck q = s) ∧
    (s.run.mstate ≠ .running ∨ (∀ c ∈ s.sectors.installed, ¬ fires c) → s.approachCheck d q = s) ∧
    (∀ before c after m a l t, s.run.mstate = .running → s.sectors.installed = before ++ c :: after →
      (∀ b ∈ before, ¬ fires b) → fires c → c.body = .barrier m a l t →
      let fired : Sector := { c with body := match d with
        | .forward => .barrier m a .fired t
        | .reverse => .barrier m a l .fired }
      let marked : State := { s with sectors := { s.sectors with installed := before ++ fired :: after } }
      s.approachCheck d q = match a with
        | .stop => marked.enterStopping .stopped (some .barrier)
        | .reverse => marked.enterStopping .reversing none)

/-- R120: SET_WATCH replaces an entry's configured fields whole, clears its spent mark and its fire count; an entry number
or a field out of range is refused and changes nothing. That an enabled mark or repeat code above 1 names no value is the
model's reading (assumption log 19). -/
def Obligations.SetWatchReplacesAnEntry : Prop :=
  ∀ (s : State) (n en : Byte) (ref hw : U16) (d c st a : Byte) (arg : U16) (rp : Byte), s.receptive →
    let i : Instr := .setWatch n en ref hw d c st a arg rp
    let h := s.heard (.setWatch n en ref hw d c st a arg rp)
    let fits := 1 ≤ n.toNat ∧ n.toNat ≤ 8 ∧ en.toNat ≤ 1 ∧ ref.toNat < 36000 ∧ hw.toNat ≤ 18000 ∧ d.toNat ≤ 3 ∧
      c.toNat ≤ 3 ∧ st.toNat ≤ 3 ∧ a.toNat ≤ 5 ∧ rp.toNat ≤ 1 ∧
      (a = 1 ∨ a = 2 → 1 ≤ arg.toNat ∧ arg.toNat ≤ 4)
    (¬ fits → exec i s = .next (h.replying 0x28 (.fail .badValue)).transmit) ∧
    (∀ ds cs ss act, fits → dirSelectorOf d = some ds → crossSelectorOf c = some cs → stateSelectorOf st = some ss →
      watchActionOf a arg = some act →
      let w : Watch := ⟨⟨decide (en = 1), ref.toNat, hw.toNat, ds, cs, ss, act, decide (rp = 0)⟩, false, 0⟩
      let u : State := { h with watch := { s.watch with entries := setNth s.watch.entries n.toNat w } }
      exec i s = .next (u.replying 0x28 .ok).transmit)

/-- R130: SET_AUX sets an output's mode and keeps its watch level; an output or mode out of range is refused. What R157 has
every request do comes first (assumption log 14); the taking of the request's row and the transmit side's choice at its end
are logs 8 and 2. -/
def Obligations.SetAuxSetsTheMode : Prop :=
  ∀ (s : State) (output mode : Byte), s.receptive →
    let h := s.heard (.setAux output mode)
    (output.toNat < 1 ∨ 4 < output.toNat ∨ 2 < mode.toNat →
      exec (.setAux output mode) s = .next (h.replying 0x2A (.fail .badValue)).transmit) ∧
    (∀ (n : Fin 4) m, output.toNat = n.val + 1 → auxModeOf mode = some m →
      exec (.setAux output mode) s = .next (({ h with watch := { s.watch with
        aux := s.watch.aux.set n { s.watch.aux[n] with mode := m } } } : State).replying 0x2A .ok).transmit)

/-- R122: a pivot angle is inside a watch's window exactly where the angle difference from the reference angle to it is at
most the half-width in size. Below a half-width of 18000 the window is the arc of twice the half-width and one angles from
its lower edge to its upper edge, both included; a half-width of 0 makes both edges the reference angle; one of 17999 leaves
out the angle opposite alone; one of 18000 takes in the whole circle. -/
def Obligations.WatchWindowsAreArcs : Prop :=
  ∀ w : WatchConfig, w.ref < 36000 → w.halfWidth ≤ 18000 →
    let ahead (a b : Nat) : Nat := (b + 36000 - a) % 36000
    let d (a b : Nat) : Int := if ahead a b ≤ 18000 then ahead a b else (ahead a b : Int) - 36000
    let lower := (w.ref + 36000 - w.halfWidth) % 36000
    let upper := (w.ref + w.halfWidth) % 36000
    (w.halfWidth < 18000 → ahead lower upper = 2 * w.halfWidth) ∧
    (w.halfWidth = 0 → lower = w.ref ∧ upper = w.ref) ∧
    ∀ x, x < 36000 →
      (w.inside x = true ↔ (d w.ref x).natAbs ≤ w.halfWidth) ∧
      (w.halfWidth < 18000 → (w.inside x = true ↔ ahead lower x ≤ 2 * w.halfWidth)) ∧
      (w.halfWidth = 0 → (w.inside x = true ↔ x = w.ref)) ∧
      (w.halfWidth = 17999 → (w.inside x = false ↔ x = (w.ref + 18000) % 36000)) ∧
      (w.halfWidth = 18000 → w.inside x = true)

/-- R125: a crossing fires a live entry, one enabled and not spent, exactly where its crossing, direction and state
selectors match, the state selector by the machine state held at the test; any other crossing leaves no trace, so a selector
set to NONE lets an entry never fire. -/
def Obligations.LiveEntriesMatchTheirSelectors : Prop :=
  ∀ (s : State) (n : Nat) (c : Crossing) (d : Direction) (w : Watch), s.watchEntry n = w →
    let m := s.run.mstate
    let crossing := w.cfg.crossing = .both ∨ (w.cfg.crossing = .enter ∧ c = .enter) ∨ (w.cfg.crossing = .leave ∧ c = .leave)
    let direction := w.cfg.direction = .both ∨ (w.cfg.direction = .forward ∧ d = .forward) ∨
      (w.cfg.direction = .reverse ∧ d = .reverse)
    let mstate := w.cfg.mstate = .any ∨ (w.cfg.mstate = .running ∧ m = .running) ∨
      (w.cfg.mstate = .moving ∧ (m = .running ∨ m = .stopping))
    let fires := w.cfg.enabled = true ∧ w.spent = false ∧ crossing ∧ direction ∧ mstate
    (fires → s.testCrossing n d c = s.fire n c d) ∧ (¬ fires → s.testCrossing n d c = s) ∧
    (w.cfg.crossing = .none ∨ w.cfg.direction = .none ∨ w.cfg.mstate = .none → s.testCrossing n d c = s)

/-- R122, R123: the window of a watch and the crossings a sample makes of it. R124, R126: the watch unit's work at a sample.
A Δ of 0 is judged by no entry; any other has the direction of its sign, and the entries are worked through in ascending
number, each crossing in its order, each tested by `LiveEntriesMatchTheirSelectors`. R127, R128: a watch that fires counts
it, takes its action, is spent if it is a ONCE entry, and queues WATCH_FIRED with the outcome; a STOP, REVERSE or PACE
action is REFUSED, and changes nothing, in the states that do not take it. R97, R100, R103, R128: what a STOP or REVERSE
action does in each state that takes it. STOP: in RUNNING and PRESTART, STOPPING toward STOPPED with reason WATCH, left at
once where every tower is at rest already (`StoppingCompletesOrTimesOut`); in STOPPING, the destination STOPPED with reason
WATCH unless it was STOPPED; in HELD and RECOVERING, PASS_END with reason WATCH and STOPPED, in this order by the model's
choice (assumption log 14). REVERSE: in RUNNING, STOPPING toward REVERSING; in HELD, the pass direction flips. The premise
of an ACTIVE line leaves out QUIET, which Law 5 allows in STOPPED alone. -/
def Obligations.WatchesAreCrossedAndFire : Prop :=
  (∀ (w : WatchConfig) (p q : Nat), w.ref < 36000 → w.halfWidth ≤ 18000 → p < 36000 → q < 36000 →
    let delta := angleDiff p q
    let inside (x : Nat) : Prop := (x + 36000 - w.ref) % 36000 ≤ w.halfWidth ∨ (w.ref + 36000 - x) % 36000 ≤ w.halfWidth
    let onArc (x : Nat) : Prop :=
      (0 < delta ∧ 1 ≤ (x + 36000 - p) % 36000 ∧ ((x + 36000 - p) % 36000 : Int) ≤ delta) ∨
        (delta < 0 ∧ 1 ≤ (p + 36000 - x) % 36000 ∧ ((p + 36000 - x) % 36000 : Int) ≤ -delta)
    let edge := onArc ((w.ref + 36000 - w.halfWidth) % 36000) ∨ onArc ((w.ref + w.halfWidth) % 36000)
    (∀ x, x < 36000 → (w.inside x = true ↔ inside x)) ∧
    (¬ inside p → inside q → w.crossings p q delta = [.enter]) ∧
    (inside p → ¬ inside q → w.crossings p q delta = [.leave]) ∧
    (¬ inside p → ¬ inside q → edge → w.crossings p q delta = [.enter, .leave]) ∧
    (¬ inside p → ¬ inside q → ¬ edge → w.crossings p q delta = []) ∧
    (inside p → inside q → w.crossings p q delta = [])) ∧
  (∀ (s : State) (p q : Nat) (delta : Int),
    let d : Direction := if 0 < delta then .forward else .reverse
    let entry (s : State) (n : Nat) : State := ((s.watchEntry n).cfg.crossings p q delta).foldl (State.testCrossing n d) s
    (delta = 0 → s.watchSample p q delta = s) ∧
    (delta ≠ 0 → s.watchSample p q delta =
      entry (entry (entry (entry (entry (entry (entry (entry s 1) 2) 3) 4) 5) 6) 7) 8)) ∧
  (∀ (s : State) (n : Nat) (c : Crossing) (d : Direction) (w : Watch), 1 ≤ n → n ≤ 8 → s.watchEntry n = w →
    let u : State := { s with watch := { s.watch with
      entries := setNth s.watch.entries n { w with fires := min 255 (w.fires + 1), spent := w.cfg.once } } }
    let told (v : State) (o : WatchOutcome) : State := v.queueNotice (.watch n) (.watchFired c d o)
    (w.cfg.action = .notice → s.fire n c d = told u .taken) ∧
    (∀ (k : Fin 4) (on : Bool), w.cfg.action = (if on then .auxOn (k.val + 1) else .auxOff (k.val + 1)) →
      s.fire n c d = told { u with watch := { u.watch with
        aux := u.watch.aux.set k { u.watch.aux[k] with level := on } } } .taken) ∧
    (∀ v, w.cfg.action = .pace v →
      (s.run.mstate ∈ [.prestart, .running, .held] → s.fire n c d = told { u with run := { u.run with
        pass := u.run.pass.map fun p => { p with pace := min 1000 v } } } .taken) ∧
      (s.run.mstate ∉ [.prestart, .running, .held] → s.fire n c d = told u .refused)) ∧
    (w.cfg.action = .stop →
      (∀ v, u.takeStop .watch = some v → s.fire n c d = told v .taken) ∧
      (s.run.mstate ∈ [.stopped, .tripped, .powerWait, .unconfigured] → s.fire n c d = told u .refused)) ∧
    (w.cfg.action = .reverse →
      (∀ v, u.takeReverse = some v → s.fire n c d = told v .taken) ∧
      (s.run.mstate ∉ [.running, .held] → s.fire n c d = told u .refused))) ∧
  (∀ (s : State) (n : Nat) (c : Crossing) (d : Direction) (w : Watch), 1 ≤ n → n ≤ 8 → s.watchEntry n = w →
    s.span.mode = .active →
    let u : State := { s with watch := { s.watch with
      entries := setNth s.watch.entries n { w with fires := min 255 (w.fires + 1), spent := w.cfg.once } } }
    let taken (v : State) : Prop := s.fire n c d = v.queueNotice (.watch n) (.watchFired c d .taken)
    let stopping (dest : Destination) (reason : Option PassEnd) : State :=
      (({ u with
        run := { s.run with
          mstate := .stopping, dest := some dest, reason := reason, origin := none
          prestartTimer := none, startFailTimer := none, stopTimer := some ⟨s.mval .stopTimeout * 1000, s.clock⟩
          contactor := true, warning := false }
        angle := { s.angle with haltAngle := none }
        store := { s.store with
          record := ⟨true, if dest = .stopped then .other else .moving, s.run.pass, none, none⟩ } } : State).queueNotice
            .machine (.state .stopping (some dest))).stoppingTest
    let redirected : State := ({ u with
      run := { s.run with dest := some .stopped, reason := some .watch }
      store := { s.store with record := ⟨true, .other, s.run.pass, none, none⟩ } } : State).queueNotice
        .machine (.state .stopping (some .stopped))
    let stopped : State := (({ u with
      run := { s.run with
        mstate := .stopped, dest := none, reason := none, origin := none, pass := none, recoveryTimer := none
        contactor := false, warning := false }
      span := { s.span with quietTimer := some ⟨s.mval .quietDelay * 1000, s.clock⟩ }
      angle := { s.angle with
        windows := Vector.replicate 16 none, overLimit := Vector.replicate 16 0
        haltAngle := if s.angle.heldValid then some s.angle.held else none }
      store := { s.store with record := ⟨true, .other, none, none, none⟩ } } : State).queueNotice
        .machine (.passEnd .watch)).queueNotice .machine (.state .stopped none)
    let flipped := s.run.pass.map fun p =>
      { p with direction := match p.direction with | .forward => .reverse | .reverse => .forward }
    (w.cfg.action = .stop →
      (s.run.mstate = .running ∨ s.run.mstate = .prestart → taken (stopping .stopped (some .watch))) ∧
      (s.run.mstate = .stopping → s.run.dest = some .stopped → taken u) ∧
      (s.run.mstate = .stopping → s.run.dest ≠ some .stopped → taken redirected) ∧
      (s.run.mstate = .held ∨ s.run.mstate = .recovering → taken stopped)) ∧
    (w.cfg.action = .reverse →
      (s.run.mstate = .running → taken (stopping .reversing none)) ∧
      (s.run.mstate = .held → taken { u with
        run := { s.run with pass := flipped }
        store := { s.store with record := ⟨true, .held, flipped, none, none⟩ } })))

/-- R99: SET_PACE sets the host pace in PRESTART, RUNNING and HELD, clamped to 0..1000, and answers with the pace applied.
R41, R42, R44, R46: the effective pace is the least of host pace, cap in force and, while a deferred ACTIVE JOINT_WARN is
held, creep pace; the working pace is 0 while an inner tower lags by the straggler angle or more. R45, R47 to R49: the
unshaped target of a tower, which `TargetsAreShapedAsStated` shapes. For an inner tower it is F + C: F is the feedforward
rounded half up, a' the effective joint angle with the deadband removed, C the correction truncated toward zero. For the
last tower it is the working pace. R51: in a machine state other than RUNNING the target is 0. -/
def Obligations.PacesAndTargetsAreComposed : Prop :=
  (∀ (s : State) (pace : U16), s.receptive → s.run.mstate ∈ [.prestart, .running, .held] →
    let h := s.heard (.setPace pace)
    exec (.setPace pace) s = .next (({ h with run := { s.run with
      pass := s.run.pass.map fun p => { p with pace := min 1000 pace.toNat } } } : State).replying 0x11
        (.ok (.pace (min 1000 pace.toNat)))).transmit) ∧
  (∀ (s : State) (p : Pass), s.faultsDistinct → s.run.pass = some p →
    let creeping := ∃ r ∈ s.faults.records, r.kind = .jointWarn ∧ r.mode = .deferred ∧ r.condition = .active ∧
      ∃ k, 1 ≤ k ∧ k ≤ s.towerCount ∧ r.tower = some k
    let angle (k : Nat) : Int := match (s.tower k).dyn.report with | some r => r.joint.getD 0 | none => 0
    let leads (k : Nat) : Int := match p.direction with | .forward => angle k | .reverse => - angle k
    let lags := s.mval .stragglerAngle ≠ 0 ∧
      ∃ k, 1 ≤ k ∧ k < s.towerCount ∧ leads k ≤ -(s.mval .stragglerAngle : Int)
    (s.run.mstate ≠ .running → s.effectivePace = 0) ∧
    (s.run.mstate = .running →
      (creeping → s.effectivePace = min (min p.pace s.sectors.cap) (s.mval .creepPace)) ∧
      (¬ creeping → s.effectivePace = min p.pace s.sectors.cap)) ∧
    (lags → s.workingPace = 0) ∧ (¬ lags → s.workingPace = s.effectivePace)) ∧
  (∀ (s : State) (p : Pass) (k : Nat), s.run.pass = some p → 1 ≤ k → k ≤ s.towerCount →
    let n := s.towerCount
    (s.run.mstate ≠ .running → s.target k = 0) ∧
    (k = n → s.unshaped k = s.workingPace) ∧
    (k < n → ∀ (F : Nat) (a a' C : Int),
      0 < s.tval k .ratedSpeed → 0 < s.tval n .radius →
      -- round half up of P* S_N r_k / (S_k r_N)
      2 * (s.workingPace * s.tval n .ratedSpeed * s.tval k .radius) + s.tval k .ratedSpeed * s.tval n .radius <
          2 * (s.tval k .ratedSpeed * s.tval n .radius) * (F + 1) →
      2 * (s.tval k .ratedSpeed * s.tval n .radius) * F ≤
          2 * (s.workingPace * s.tval n .ratedSpeed * s.tval k .radius) + s.tval k .ratedSpeed * s.tval n .radius →
      a = (match (s.tower k).dyn.report with
        | some r => (match p.direction with | .forward => r.joint.getD 0 | .reverse => - r.joint.getD 0)
        | none => 0) →
      a' = (if a.natAbs ≤ s.tval k .deadband then 0
        else if 0 < a then a - s.tval k .deadband else a + s.tval k .deadband) →
      C = (-(s.tval k .gain : Int) * a').tdiv 100 →
      s.unshaped k = F + C))

/-- R50: the unshaped target U of a tower becomes its target: 0 if U is 0 or less; else U scaled for the slip factor σ,
rounded half up, lowered to the max order, and 0 if that is below the min-run order, so that a positive target lies within
the limits. Two cases replace it, the deferred STALL fallback by the max order, STOPPING by 0. That σ is at most 300 is Law
9, and that no two records are alike Law 7. -/
def Obligations.TargetsAreShapedAsStated : Prop :=
  ∀ (s : State) (k : Nat), s.faultsDistinct → 1 ≤ k → k ≤ s.towerCount → (s.tower k).dyn.slip ≤ 300 →
    let σ := (s.tower k).dyn.slip
    let U := s.unshaped k
    let t := s.target k
    let freed := ∃ r ∈ s.faults.records, r.kind = .stall ∧ r.tower = some k ∧ r.mode = .deferred ∧ r.condition = .active
    (s.run.mstate = .stopping → t = 0) ∧
    (s.run.mstate = .running → freed → t = s.tval k .maxOrder) ∧
    (s.run.mstate = .running → ¬ freed →
      (U ≤ 0 → t = 0) ∧
      (0 < U → ∀ v : Nat,
        -- round half up of U * 1000 / (1000 - σ)
        2 * U.toNat * 1000 + (1000 - σ) < 2 * (1000 - σ) * (v + 1) → 2 * (1000 - σ) * v ≤ 2 * U.toNat * 1000 + (1000 - σ) →
        t = if min v (s.tval k .maxOrder) < s.tval k .minRun then 0 else min v (s.tval k .maxOrder)) ∧
      (0 < t → s.tval k .minRun ≤ t ∧ t ≤ s.tval k .maxOrder))

/-- R52 to R56: the order of a tower from its target, its last order and its ramp, or the stop ramp in STOPPING, within the
limits in force. -/
def Obligations.OrdersRampTowardTheirTargets : Prop :=
  ∀ (s : State) (k : Nat), s.tval k .minRun ≤ s.tval k .maxOrder →
    let ramp := if s.run.mstate = .stopping then s.mval .stopRamp else s.tval k .ramp
    let least := s.tval k .minRun
    let most := s.tval k .maxOrder
    let prev := (s.tower k).dyn.lastOrder
    let t := s.target k
    (t = 0 → s.order k = if prev ≤ ramp ∨ prev - ramp < least then 0 else min most (prev - ramp)) ∧
    (0 < t → t ≤ most → prev = 0 → s.order k = max least (min t ramp)) ∧
    (0 < t → 0 < prev →
      (t + ramp < prev → s.order k = min most (max least (prev - ramp))) ∧
      (prev + ramp < t → s.order k = min most (max least (prev + ramp))) ∧
      (t ≤ prev + ramp → prev ≤ t + ramp → s.order k = min most (max least t)))

/-- Law 1 (R55): every order handed over at an expiry is 0 or within the limits in force after it. Law 3 (R57): the set
direction changes at an expiry only where every tower has last order and last line order 0. -/
def Obligations.OrdersAndDirectionObeyTheirLaws : Prop :=
  (∀ (s : State) (timer : Timer), s.powered = true → s.engine.timer = some timer →
    ∃ t, exec .driveIntervalExpiry s = .next t ∧
      ∀ k, 1 ≤ k → k ≤ t.towerCount → t.tval k .minRun ≤ t.tval k .maxOrder → t.orderWithin k) ∧
  (∀ (s t : State), exec .driveIntervalExpiry s = .next t → s.table.pending = [] →
    t.engine.direction ≠ s.engine.direction →
    ∀ k, 1 ≤ k → k ≤ s.towerCount → (s.tower k).dyn.lastOrder = 0 ∧
      (nth s.span.lastLine k none = none ∨ nth s.span.lastLine k none = some 0))

/-- R11: every pending tuning value is in its field after a drive interval expiry, every other field is as it was, and
nothing is pending. R7, R38, R39, R57, R58: with nothing pending, an expiry advances the interval number, keeps the set
direction or turns it, writes each tower's order and direction with what follows for its stall timer and halt wheel count,
holds the new effective pace, restarts the timer, and begins a DRIVE round where none is in progress; the test of STOPPING
comes after it. That no round begins without a tower or in UNCONFIGURED is assumption log 22. -/
def Obligations.DriveIntervalExpiryHandsOverTheSet : Prop :=
  (∀ (s : State) (timer : Timer), s.powered = true → s.engine.timer = some timer →
    ∃ t, exec .driveIntervalExpiry s = .next t ∧ t.table.pending = [] ∧
      (∀ f, t.held (.machine f) = s.setting (.machine f)) ∧
      (∀ k f, 1 ≤ k → k ≤ 16 → t.held (.tower k f) = s.setting (.tower k f))) ∧
  (∀ (s : State) (timer : Timer), s.powered = true → s.engine.timer = some timer → s.table.pending = [] →
    let now := max s.clock (timer.startedAt + timer.length)
    let clear := ∀ k, 1 ≤ k → k ≤ s.towerCount → (s.tower k).dyn.lastOrder = 0 ∧
      (nth s.span.lastLine k none = none ∨ nth s.span.lastLine k none = some 0)
    let turned : Direction := match s.run.pass with | some p => p.direction | none => s.engine.direction
    ∃ (u : State) (dir : Direction), exec .driveIntervalExpiry s = .next (u.stoppingTest).transmit ∧
      u = { s with clock := now, table := u.table, engine := u.engine, span := u.span } ∧
      (clear → dir = turned) ∧ (¬ clear → dir = s.engine.direction) ∧
      u.engine = ⟨some ⟨s.mval .driveInterval, now⟩, s.engine.interval + 1, dir, s.effectivePace⟩ ∧
      u.table.machine = s.table.machine ∧ u.table.pending = [] ∧
      (∀ k, s.towerCount < k → u.tower k = s.tower k) ∧
      (∀ k, 1 ≤ k → k ≤ s.towerCount → k ≤ 16 →
        let v := if s.run.mstate.moving = true ∧ dir = turned then s.order k else 0
        u.tower k = { s.tower k with dyn := { (s.tower k).dyn with
          lastOrder := v, lastDirection := dir
          stall := if v = 0 then .idle else (s.tower k).dyn.stall
          haltWheel := if v = 0 then (s.tower k).dyn.haltWheel else none } }) ∧
      (s.span.mode = .quiet ∨ s.span.slot ≠ none ∨ s.towerCount = 0 ∨ s.run.mstate = .unconfigured →
        u.span = { s.span with setInterval := some (s.engine.interval + 1) }) ∧
      (s.span.mode = .active → s.span.slot = none → 1 ≤ s.towerCount → s.run.mstate ≠ .unconfigured →
        u.span = { s.span with
          setInterval := some (s.engine.interval + 1)
          slot := some ⟨.drive, 1, .sending, s.engine.interval + 1, (u.tower 1).dyn.lastDirection,
            (u.tower 1).dyn.lastOrder,
            max 5 (min 255 (((s.mval .missLimit + 1) * s.mval .driveInterval + 99) / 100)), now, now, false⟩
          lastLine := setNth s.span.lastLine 1 (some (u.tower 1).dyn.lastOrder) }))

/-! ### The angle unit -/

/-- R22 to R24, R26, R31, R36, R111, R112, R115: the first valid sample after a reset, with no previous sample held, in any
machine state and whatever watches are enabled; and a valid sample with a Δ outside RUNNING and STOPPING with no watch
enabled. It becomes the held angle and ends a run of invalid ones; a pending sector table is installed, the cap established
and marks outside their zones ARMED; with a previous sample the pass and the slip windows gather its travel; in STOPPED and
HELD the halt angle is recorded, or, with a previous sample, compared. The first sample is handed to the sector table alone
(R22). -/
def Obligations.ValidSampleOfAMachineAtRest : Prop :=
  ∀ (s : State) (q : Nat) (order : SampleOrder), s.powered = true → s.angle.reading = true →
    s.clock ≤ s.angle.sampleTimer.startedAt + 1 → q < 36000 →
    s.angle.previous = none ∨
      (s.run.mstate.moving = false ∧ ∀ n, 1 ≤ n → n ≤ 8 → (s.watchEntry n).cfg.enabled = false) →
    let stands := s.run.mstate = .stopped ∨ s.run.mstate = .held
    let table := (match s.sectors.pending with
      | some t => t.map Sector.rearm
      | none => s.sectors.installed)
    let delta := s.angle.previous.map fun p => angleDiff p q
    let records := if s.angle.invalidRun then s.faults.records.map (fun r =>
        if r.kind = .angleInvalid ∧ r.tower = none then { r with condition := .latched } else r) else s.faults.records
    let settled (c : Sector) : Sector :=
      match c.body with
      | .barrier m a lead trail =>
        let lead := if 1 ≤ arc q c.start ∧ arc q c.start ≤ m then lead else .armed
        let trail := if arc c.finish q < m then trail else .armed
        { c with body := .barrier m a lead trail }
      | .cap _ => c
    let moved (x : Int) (p : Pass) : Pass :=
      { p with travel := max (-4000000) (min 4000000 (p.travel + match p.direction with | .forward => x | .reverse => -x)) }
    let u : State := { s with
      angle := { s.angle with
        reading := false, held := q, heldValid := true, previous := some q, invalidRun := false
        windows := match delta with
          | some x => s.angle.windows.map fun w => w.map fun w => { w with travel := min 36000 (w.travel + x.natAbs) }
          | none => s.angle.windows }
      sectors := { s.sectors with
        pending := none
        installed := table.map settled
        containing := (table.findIdx? fun c => c.contains q).map (· + 1)
        cap := match (table.find? fun c => c.contains q).map Sector.body with | some (.cap v) => v | _ => 1000 }
      faults := { s.faults with records := records }
      run := { s.run with pass := match delta with
        | some x => s.run.pass.map (moved x)
        | none => s.run.pass } }
    let halted : State := { u with angle := { u.angle with haltAngle := some q } }
    (¬ stands → exec (.encoderReadComplete q false order) s = .next u.transmit) ∧
    (stands → s.angle.haltAngle = none → exec (.encoderReadComplete q false order) s = .next halted.transmit) ∧
    (∀ h, stands → s.angle.haltAngle = some h →
      (delta = none ∨ (angleDiff h q).natAbs ≤ s.mval .driftAngle →
        exec (.encoderReadComplete q false order) s = .next u.transmit) ∧
      (delta ≠ none → s.mval .driftAngle < (angleDiff h q).natAbs →
        let v := u.raise .drift none
        exec (.encoderReadComplete q false order) s =
          .next ({ v with angle := { v.angle with haltAngle := some q } } : State).transmit))

/-- R20, R22, R24, R26, R36, R92 to R94, R111 to R115, R118: a valid sample with a Δ, in any machine state. The angle unit
holds the angle and the pass gathers its travel; then the run controller's pass-end check, the sector table's five steps and
the watch unit's work follow in the order the command gives, the barriers by the pass direction held at the sample; then the
slip windows gather the travel and the pivot drift check is made (assumption log 11). R24, R92, R93: a valid sample of a
machine RUNNING with no sectors and no watch enabled moves the pass on; it enters STOPPING toward STOPPED when the stop
angle is crossed in the pass direction, or else when the circle target is reached. -/
def Obligations.ValidSampleMovesThePass : Prop :=
  (∀ (s : State) (p q : Nat) (order : SampleOrder), s.powered = true → s.angle.reading = true →
    s.clock ≤ s.angle.sampleTimer.startedAt + 1 → q < 36000 → s.angle.previous = some p →
    let x := angleDiff p q
    let toward (d : Direction) : Int := match d with | .forward => x | .reverse => -x
    let dir : Direction := match s.run.pass with | some r => r.direction | none => .forward
    let seen : State := { s with
      angle := { s.angle with
        reading := false, held := q, heldValid := true, previous := some q, invalidRun := false }
      faults := { s.faults with records := if s.angle.invalidRun then s.faults.records.map (fun r =>
        if r.kind = .angleInvalid ∧ r.tower = none then { r with condition := .latched } else r) else s.faults.records }
      run := { s.run with pass := s.run.pass.map fun r =>
        { r with travel := max (-4000000) (min 4000000 (r.travel + toward r.direction)) } } }
    let crossed (r : Pass) : Bool := match r.stopAngle with
      | some a => decide (0 < toward r.direction ∧
          ((0 < x ∧ 1 ≤ ((a : Int) - p) % 36000 ∧ ((a : Int) - p) % 36000 ≤ x) ∨
            (x < 0 ∧ 1 ≤ ((p : Int) - a) % 36000 ∧ ((p : Int) - a) % 36000 ≤ -x)))
      | none => false
    let reached (r : Pass) : Bool := match r.circles with
      | some n => decide ((36000 * n : Int) ≤ r.travel)
      | none => false
    let run (u : State) : State :=
      match u.run.mstate, u.run.pass with
      | .running, some r =>
        if crossed r then u.enterStopping .stopped (some .stopAngle)
        else if reached r then u.enterStopping .stopped (some .circles)
        else u
      | _, _ => u
    let sector (u : State) : State :=
      let table := match u.sectors.pending with
        | some t => t.map fun c => match c.body with
          | .barrier m a _ _ => { c with body := .barrier m a .armed .armed }
          | .cap _ => c
        | none => u.sectors.installed
      let within (c : Sector) : Bool := decide (((q : Int) - c.start) % 36000 < ((c.finish : Int) - c.start) % 36000)
      let capped : State := { u with sectors := { u.sectors with
        pending := none, installed := table
        containing := (table.findIdx? within).map (· + 1)
        cap := match (table.find? within).map Sector.body with | some (.cap v) => v | _ => 1000 } }
      let checked := (capped.overrunCheck q).approachCheck dir q
      { checked with sectors := { checked.sectors with installed := checked.sectors.installed.map fun c =>
        match c.body with
        | .barrier m a lead trail =>
          let lead := if 1 ≤ ((c.start : Int) - q) % 36000 ∧ ((c.start : Int) - q) % 36000 ≤ m then lead else .armed
          let trail := if ((q : Int) - c.finish) % 36000 < m then trail else .armed
          { c with body := .barrier m a lead trail }
        | .cap _ => c } }
    let watch (u : State) : State := u.watchSample p q x
    let done := match order with
      | .rsw => watch (sector (run seen))
      | .rws => sector (watch (run seen))
      | .srw => watch (run (sector seen))
      | .swr => run (watch (sector seen))
      | .wrs => sector (run (watch seen))
      | .wsr => run (sector (watch seen))
    let gathered : State := { done with angle := { done.angle with
      windows := done.angle.windows.map fun w => w.map fun w => { w with travel := min 36000 (w.travel + x.natAbs) } } }
    let stands : Bool := done.run.mstate == .stopped || done.run.mstate == .held
    let halt (u : State) : State := { u with angle := { u.angle with haltAngle := some q } }
    exec (.encoderReadComplete q false order) s = .next (if stands then
      match done.angle.haltAngle with
      | none => halt gathered
      | some h => if done.mval .driftAngle < (angleDiff h q).natAbs then halt (gathered.raise .drift none) else gathered
    else gathered).transmit) ∧
  (∀ (s : State) (p q : Nat) (order : SampleOrder) (r : Pass), s.powered = true → s.angle.reading = true →
    s.clock ≤ s.angle.sampleTimer.startedAt + 1 → q < 36000 → s.run.mstate = .running →
    s.angle.previous = some p → p < 36000 → s.run.pass = some r → s.span.mode = .active →
    s.sectors.installed = [] → s.sectors.pending = none → s.atRest = false →
    (∀ n, 1 ≤ n → n ≤ 8 → (s.watchEntry n).cfg.enabled = false) →
    let x := angleDiff p q
    let forward := (match r.direction with | .forward => x | .reverse => -x)
    let travel := max (-4000000) (min 4000000 (r.travel + forward))
    let crossed := 0 < forward ∧ ∃ a, r.stopAngle = some a ∧
      ((0 < x ∧ 1 ≤ (((a : Int) - p) % 36000) ∧ (((a : Int) - p) % 36000) ≤ x) ∨
        (x < 0 ∧ 1 ≤ (((p : Int) - a) % 36000) ∧ (((p : Int) - a) % 36000) ≤ -x))
    let round := ∃ n : Nat, r.circles = some n ∧ (36000 * n : Int) ≤ travel
    ∃ t, exec (.encoderReadComplete q false order) s = .next t ∧
      t.angle.held = q ∧ t.angle.heldValid = true ∧ t.angle.previous = some q ∧
      t.run.pass = some { r with travel := travel } ∧ t.table = s.table ∧ t.engine = s.engine ∧
      (¬ crossed → ¬ round → t.run.mstate = .running ∧ t.run.dest = s.run.dest) ∧
      (crossed ∨ round → t.run.mstate = .stopping ∧ t.run.dest = some .stopped ∧
        t.run.stopTimer = some ⟨s.mval .stopTimeout * 1000, s.clock⟩ ∧
        t.run.reason = some (if crossed then .stopAngle else .circles) ∧
        t.gains s .machine (.state .stopping (some .stopped))))

/-- R20: the sample timer restarts at its expiry and a read begins. A word that comes with no read begun, or later than 1 ms
after the expiry, answers no read; a time-out with no read begun is none (assumption log 10). R20, R23: a read that fails,
that gives no angle or that does not end within 1 ms is an invalid sample: the held angle keeps its value, marked invalid,
and the first of a run raises ANGLE_INVALID. R33: a stall timer that runs out restarts with the same wheel count and raises
STALL for its tower; an idle one does nothing. That an idle one does nothing is the model's reading (assumption log 9). -/
def Obligations.InvalidSamplesAndTheTimersOfTheAngleUnit : Prop :=
  ((∀ s : State, s.powered = true →
    let now := max s.clock (s.angle.sampleTimer.startedAt + s.angle.sampleTimer.length)
    exec .sampleTimerExpiry s =
      .next ({ s with clock := now, angle := { s.angle with sampleTimer := ⟨100, now⟩, reading := true } } : State).transmit) ∧
  (∀ (s : State) (position : Nat) (error : Bool) (order : SampleOrder), s.powered = true →
    (s.angle.reading = false ∨ s.angle.sampleTimer.startedAt + 1 < s.clock →
      exec (.encoderReadComplete position error order) s = .next s.transmit) ∧
    (s.angle.reading = false → exec .encoderReadTimeout s = .next s.transmit))) ∧
  (∀ (s : State) (position : Nat) (error : Bool) (order : SampleOrder), s.powered = true → s.angle.reading = true →
    let u (s : State) : State := { s with angle := { s.angle with reading := false, heldValid := false, invalidRun := true } }
    let late : State := { s with clock := max s.clock (s.angle.sampleTimer.startedAt + 1) }
    (s.clock ≤ s.angle.sampleTimer.startedAt + 1 → 36000 ≤ position ∨ error = true →
      (s.angle.invalidRun = true → exec (.encoderReadComplete position error order) s = .next (u s).transmit) ∧
      (s.angle.invalidRun = false →
        exec (.encoderReadComplete position error order) s = .next ((u s).raise .angleInvalid none).transmit)) ∧
    (s.angle.invalidRun = true → exec .encoderReadTimeout s = .next (u late).transmit) ∧
    (s.angle.invalidRun = false →
      exec .encoderReadTimeout s = .next ((u late).raise .angleInvalid none).transmit)) ∧
  (∀ (s : State) (k : Nat), s.powered = true → 1 ≤ k → k ≤ 16 →
    ((s.tower k).dyn.stall = .idle → exec (.stallTimerExpiry k) s = .next s.transmit) ∧
    (∀ c since, (s.tower k).dyn.stall = .running c since →
      let now := max s.clock (since + s.tval k .stallTime * 1000)
      let u : State := { s with clock := now, table := { s.table with
        towers := setNth s.table.towers k { s.tower k with dyn := { (s.tower k).dyn with stall := .running c now } } } }
      exec (.stallTimerExpiry k) s = .next (u.raise .stall (some k)).transmit))

/-- R26, R27, R30, R32, R34, R35: what the angle unit does with a report taken. A closed window opens at a tower DRIVING
while the machine moves; an open one closes when it is due, or early below a wheel scale of 16. The stall timer starts,
restarts, runs on or becomes idle, and wheel movement clears the cause of STALL. The halt wheel count is set at a tower
halted, and in STOPPED and HELD an excess of the drift limit raises DRIFT and measures afresh. R27 to R29: what the close of
a slip window does. The raw slip and the slip factor that follows it, every quotient rounded half up; the over-limit run
count; the window opened again; and SLIP when the count reaches the persistence. That the window is open again before SLIP
is raised is the model's choice (assumption log 27). R140 to R143: what the fault list does with a report taken from tower
k. The warn-persistence counter rises above the joint warn and raises JOINT_WARN at the persistence unless an ACTIVE record
stands; at or below it the counter is 0 and the record LATCHED. JOINT_TRIP is raised once above the joint trip. An open
switch raises CHAIN_OPEN while the contactor is energised; a closed chain with no switch open latches CHAIN_OPEN. An unset
limit is a free value (assumption log 29). -/
def Obligations.ReportsAreExamined : Prop :=
  (∀ (s : State) (k : Nat) (prev : Option Report) (r : Report), 1 ≤ k → k ≤ 16 →
    let d := (s.tower k).dyn
    let moves := s.run.mstate = .running ∨ s.run.mstate = .stopping
    (nth s.angle.windows k none = none →
      (moves → d.status = .driving → s.slipExamine k r =
        { s with angle := { s.angle with windows := setNth s.angle.windows k (some ⟨0, r.wheel⟩) } }) ∧
      (¬ moves ∨ d.status ≠ .driving → s.slipExamine k r = s)) ∧
    (∀ w, nth s.angle.windows k none = some w →
      let closes := s.tval k .slipWindow ≤ w.travel ∨ (s.tval k .wheelScale < 16 ∧ 30000 ≤ (r.wheel - w.startCount).toNat)
      (closes → s.slipExamine k r = s.closeWindow k w r.wheel) ∧ (¬ closes → s.slipExamine k r = s)) ∧
    (∃ v : StallTimer,
      s.stallExamine k prev r =
        (let u := s.setDyn k fun d => { d with stall := v }
         if ∃ p, prev = some p ∧ p.wheel ≠ r.wheel then u.latchKind .stall (some k) else u) ∧
      (d.lastOrder = 0 ∨ r.executing = 0 → v = .idle) ∧
      (0 < d.lastOrder → 0 < r.executing → d.stall = .idle → v = .running r.wheel s.clock) ∧
      (0 < d.lastOrder → 0 < r.executing → ∀ c since, d.stall = .running c since →
        v = if c = r.wheel then .running c since else .running r.wheel s.clock)) ∧
    (∃ h : Option U16,
      (h = if d.haltWheel = none ∧ d.lastOrder = 0 ∧ r.executing = 0 ∧ r.driveState ≠ .running then some r.wheel
        else d.haltWheel) ∧
      let u := s.setDyn k fun d => { d with haltWheel := h }
      let drifts := (s.run.mstate = .stopped ∨ s.run.mstate = .held) ∧
        ∃ c, h = some c ∧ s.tval k .driftLimit < (r.wheel - c).toNat
      (drifts → s.haltExamine k r =
        ((u.raise .drift (some k)).setDyn k fun d => { d with haltWheel := some r.wheel }, true)) ∧
      (¬ drifts → s.haltExamine k r = (u, false)))) ∧
  (∀ (s : State) (k : Nat) (w : SlipWindow) (wheel : U16), 1 ≤ k → k ≤ 16 →
    let half (a b : Nat) := (2 * a + b) / (2 * b)
    let expected := half (w.travel * s.tval k .radius * 17453) 1000000
    let rolled := half ((wheel - w.startCount).toNat * s.tval k .wheelScale) 10
    let raw := if rolled ≤ expected then 0 else min 1000 (half ((rolled - expected) * 1000) rolled)
    let old := (s.tower k).dyn.slip
    let count := if s.tval k .slipLimit < raw then nth s.angle.overLimit k 0 + 1 else 0
    let raised := s.tval k .slipLimit < raw ∧ s.tval k .slipPersistence ≤ count
    ∃ u : State, u = { s with table := u.table, angle := u.angle } ∧
      s.closeWindow k w wheel = (if raised then u.raise .slip (some k) else u) ∧
      u.table.machine = s.table.machine ∧ (∀ j, j ≠ k → u.tower j = s.tower j) ∧
      u.tower k = { s.tower k with dyn := { (s.tower k).dyn with
        slip := if (s.tower k).dyn.slipFrozen then old else min 300 (half (3 * old + raw) 4) } } ∧
      u.angle = { s.angle with
        windows := setNth s.angle.windows k (some ⟨0, wheel⟩)
        overLimit := setNth s.angle.overLimit k (if raised then 0 else count) }) ∧
  ((∀ (s : State) (k a : Nat), 1 ≤ k → k ≤ 16 → s.faultsDistinct →
    let warn := (s.tower k).cfg.jointWarn.getD (Config.unsetLimit k .jointWarn)
    let trip := (s.tower k).cfg.jointTrip.getD (Config.unsetLimit k .jointTrip)
    let count := min 20 ((s.tower k).dyn.warnCount + 1)
    let counted (c : Nat) : State := s.setDyn k fun d => { d with warnCount := c }
    let stands := ∃ r ∈ s.faults.records, r.kind = .jointWarn ∧ r.tower = some k ∧ r.condition = .active
    let raises := s.tval k .warnPersistence ≤ count ∧ ¬ stands
    let settled (r : FaultRecord) : FaultRecord :=
      if r.kind = .jointWarn ∧ r.tower = some k then { r with condition := .latched } else r
    let marked (m : Bool) : State := { s with faults := { s.faults with tripMarks := setNth s.faults.tripMarks k m } }
    (warn < a → raises → s.warnCheck k a = (counted count).raise .jointWarn (some k)) ∧
    (warn < a → ¬ raises → s.warnCheck k a = counted count) ∧
    (a ≤ warn → s.warnCheck k a = { counted 0 with faults := { s.faults with records := s.faults.records.map settled } }) ∧
    (trip < a → nth s.faults.tripMarks k false = true → s.tripCheck k a = s) ∧
    (trip < a → nth s.faults.tripMarks k false = false → s.tripCheck k a = (marked true).raise .jointTrip (some k)) ∧
    (a ≤ trip → s.tripCheck k a = marked false)) ∧
  (∀ (s : State) (k : Nat) (r : Report),
    let open' := ∃ j r, 1 ≤ j ∧ j ≤ s.towerCount ∧ (s.tower j).dyn.report = some r ∧ r.switchClosed = false
    (r.switchClosed = false → s.run.contactor = true → s.switchCheck k r = s.raise .chainOpen (some k)) ∧
    (r.switchClosed = true ∨ s.run.contactor = false → s.switchCheck k r = s) ∧
    (s.inputs.chainClosed = true → ¬ open' → s.chainClears = { s with faults := { s.faults with
      records := s.faults.records.map fun r =>
        if r.kind = .chainOpen then { r with condition := .latched } else r } }) ∧
    (s.inputs.chainClosed = false ∨ open' → s.chainClears = s)))

/-! ### The span line -/

/-- R63, R76: at the end of the part's frame the reply window of a DRIVE or SURVEY slot opens; a REST has none. R66, R73,
R77, R79: a reply window that closes on no REPORT counts a miss by the table of R73 and raises what it gives; a line in
QUIET returns to ACTIVE; a tower that has left the machine counts none. That the miss is counted before the line leaves
QUIET is assumption log 14. R62, R63, R68, R76, R78, R79: what follows the end of a slot. In ACTIVE the next tower's DRIVE
slot, or the end of the round; after a REST in ACTIVE a DRIVE round; in QUIET the next survey slot, the survey timer after
the last, or the REST that is due. That SLOT_END ends a slot in any phase is assumption log 12, that an interval number not
yet handed over is sent as 0 is log 16, and that no round begins without a tower is log 22. -/
def Obligations.SlotsFollowOneAnother : Prop :=
  (∀ (s : State) (sl : Slot), s.powered = true → s.span.slot = some sl → sl.phase = .sending →
    (sl.kind ≠ .rest → exec .spanFrameSent s = .next ({ s with span := { s.span with
      slot := some { sl with phase := .window, windowAt := s.clock } } } : State).transmit) ∧
    (sl.kind = .rest → exec .spanFrameSent s = .next ({ s with span := { s.span with
      slot := some { sl with phase := .waiting } } } : State).transmit)) ∧
  (∀ (s : State) (sl : Slot), s.powered = true → s.span.slot = some sl → sl.phase = .window →
    1 ≤ sl.tower → sl.tower ≤ 16 →
    let k := sl.tower
    let limit := s.mval .missLimit
    let d := (s.tower k).dyn
    let base : State := { s with
      clock := max s.clock (sl.windowAt + 10)
      span := { s.span with slot := some { sl with phase := .waiting } } }
    let counted (c : Nat) (l : LinkState) : State := { base with table := { base.table with
      towers := setNth s.table.towers k { s.tower k with dyn := { d with
        misses := c, link := l, status := if l = .lost then .absent else d.status } } } }
    let ends (u : State) := exec .replyWindowExpiry s = .next u.leaveQuiet.transmit
    (sl.left = true → exec .replyWindowExpiry s = .next base.transmit) ∧
    (sl.left = false → d.link = .absent → ends base) ∧
    (sl.left = false → d.link = .online → 2 ≤ limit → ends ((counted 1 .missing).raise .linkMiss (some k))) ∧
    (sl.left = false → d.link = .online → limit = 1 →
      ends (((counted 1 .lost).raise .linkMiss (some k)).raise .linkLost (some k))) ∧
    (sl.left = false → d.link = .missing → d.misses + 1 < limit → ends (counted (d.misses + 1) .missing)) ∧
    (sl.left = false → d.link = .missing → d.misses + 1 = limit →
      ends ((counted limit .lost).raise .linkLost (some k))) ∧
    (sl.left = false → d.link = .lost → d.status = .absent → ends (counted limit .lost))) ∧
  (∀ (s : State) (sl : Slot), s.powered = true → s.span.slot = some sl →
    let now := max s.clock (sl.startedAt + 15)
    let hold := max 5 (min 255 (((s.mval .missLimit + 1) * s.mval .driveInterval + 99) / 100))
    let free : SpanMaster := { s.span with slot := none }
    let number := s.span.setInterval.getD 0
    let ends (m : SpanMaster) := exec .slotEnd s = .next ({ s with clock := now, span := m } : State).transmit
    let drive (k : Nat) := ends { free with
      slot := some ⟨.drive, k, .sending, number, (s.tower k).dyn.lastDirection, (s.tower k).dyn.lastOrder, hold, now, now,
        false⟩
      lastLine := setNth s.span.lastLine k (some (s.tower k).dyn.lastOrder) }
    (s.span.mode = .active → sl.kind ≠ .rest → sl.tower < s.towerCount → drive (sl.tower + 1)) ∧
    (s.span.mode = .active → sl.kind ≠ .rest → s.towerCount ≤ sl.tower → ends free) ∧
    (s.span.mode = .active → sl.kind = .rest → 1 ≤ s.towerCount → s.run.mstate ≠ .unconfigured → drive 1) ∧
    (s.span.mode = .active → sl.kind = .rest → s.towerCount = 0 ∨ s.run.mstate = .unconfigured → ends free) ∧
    (s.span.mode = .quiet → sl.kind = .survey → sl.tower < s.towerCount →
      ends { free with slot := some ⟨.survey, sl.tower + 1, .sending, number, .forward, 0, 0, now, now, false⟩ }) ∧
    (s.span.mode = .quiet → sl.kind = .survey → s.towerCount ≤ sl.tower →
      ends { free with surveyTimer := some ⟨s.mval .surveyInterval * 1000, now⟩ }) ∧
    (s.span.mode = .quiet → sl.kind = .drive → s.span.restDue = true →
      ends { free with slot := some ⟨.rest, 0, .sending, 0, .forward, 0, 0, now, now, false⟩, restDue := false }) ∧
    (s.span.mode = .quiet → (sl.kind = .drive ∧ s.span.restDue = false) ∨ sl.kind = .rest → ends free))

/-- R6, R60, R65, R67, R69, R70, R182: the bytes of a REPORT that arrive while the part is not sending are taken, into the
tower's record, when its drive state names one and its window, address and echo fit, and otherwise change nothing but the
receiver. R69 to R72, R75, R78, R79, R89, R96: all that the taking of a REPORT does, in its order: the record, the LINK_MISS
and LINK_LOST records it latches, DRIVE_FAULT while ordered, the slip window, stall timer, halt wheel count and drift
(`ReportsAreExamined`), the joint limits for k below N and the switch (R141 to R143), the change judged by the slot's kind,
and the tests of PRESTART and STOPPING. What the rules leave open of this order is assumption log 14. -/
def Obligations.ReportsAreTakenIntoTheRecord : Prop :=
  (∀ (s : State) (f : ReportFrame), s.powered = true → s.span.rx = [] →
    (∀ sl, s.span.slot = some sl → sl.phase ≠ .sending) →
    let fits (sl : Slot) := s.span.slot = some sl ∧ sl.phase = .window ∧ sl.left = false ∧
      f.address.toNat = sl.tower ∧ f.echo = sl.interval
    ((driveStateOf f.driveState = none ∨ ¬ ∃ sl, fits sl) → exec (.reportReceived f.bytes) s = .next s.transmit) ∧
    (∀ sl ds, fits sl → driveStateOf f.driveState = some ds → 1 ≤ sl.tower → sl.tower ≤ 16 →
      ∃ t, exec (.reportReceived f.bytes) s = .next t ∧
        t.span.slot = some { sl with phase := .waiting } ∧ t.clock = s.clock ∧
        t.inputs = s.inputs ∧ t.table.machine = s.table.machine ∧ t.table.pending = s.table.pending ∧
        t.engine = s.engine ∧ t.store.stored = s.store.stored ∧ t.watch.entries = s.watch.entries ∧
        t.angle.held = s.angle.held ∧ t.faults.modes = s.faults.modes ∧
        (t.tower sl.tower).cfg = (s.tower sl.tower).cfg ∧
        (t.tower sl.tower).dyn.report = some
          { driveState := ds, executing := min 1000 f.executing.toNat
            joint := if sl.tower = s.towerCount ∨ f.joint = 0x8000 then none
              else some (max (-3000) (min 3000 f.joint.toInt))
            wheel := f.wheel, switchClosed := f.status.getLsbD 0, supplyOk := f.status.getLsbD 1, takenAt := s.clock } ∧
        (t.tower sl.tower).dyn.misses = 0 ∧ (t.tower sl.tower).dyn.link = .online ∧
        (t.tower sl.tower).dyn.status = (match ds with
          | .stopped => .ready | .running => .driving | .waking => .waking | .resting => .resting | .fault => .driveFault) ∧
        ∀ j, j ≠ sl.tower → (t.tower j).cfg = (s.tower j).cfg ∧ (t.tower j).dyn.report = (s.tower j).dyn.report ∧
          (t.tower j).dyn.link = (s.tower j).dyn.link ∧ (t.tower j).dyn.misses = (s.tower j).dyn.misses)) ∧
  (∀ (s : State) (f : ReportFrame) (sl : Slot) (ds : DriveState), s.powered = true → s.span.rx = [] →
    s.span.slot = some sl → sl.phase = .window → sl.left = false → f.address.toNat = sl.tower → f.echo = sl.interval →
    driveStateOf f.driveState = some ds → 1 ≤ sl.tower → sl.tower ≤ 16 →
    let k := sl.tower
    let was := (s.tower k).dyn
    let status : TowerStatus := match ds with
      | .stopped => .ready | .running => .driving | .waking => .waking | .resting => .resting | .fault => .driveFault
    let r : Report :=
      { driveState := ds, executing := min 1000 f.executing.toNat
        joint := if k = s.towerCount ∨ f.joint = 0x8000 then none else some (max (-3000) (min 3000 f.joint.toInt))
        wheel := f.wheel, switchClosed := f.status.getLsbD 0, supplyOk := f.status.getLsbD 1, takenAt := s.clock }
    let taken : State := { s with
      span := { s.span with slot := some { sl with phase := .waiting } }
      table := { s.table with towers := setNth s.table.towers k { s.tower k with
        dyn := { was with report := some r, misses := 0, link := .online, status := status } } }
      faults := { s.faults with records := s.faults.records.map fun e =>
        if (was.link = .missing ∨ was.link = .lost) ∧ (e.kind = .linkMiss ∨ e.kind = .linkLost) ∧ e.tower = some k then
          { e with condition := .latched } else e } }
    let driven := if ds = .fault ∧ 0 < was.lastOrder then taken.raise .driveFault (some k) else taken
    let rolled := (driven.slipExamine k r).stallExamine k was.report r
    let halted := rolled.haltExamine k r
    let a := (r.joint.getD 0).natAbs
    let bent := if k < s.towerCount then (halted.1.warnCheck k a).tripCheck k a else halted.1
    let switched := (bent.switchCheck k r).chainClears
    let changes : Bool := match was.report with
      | none => true
      | some p => p.switchClosed != r.switchClosed || was.status != status || halted.2
    let judged := if sl.kind = .survey then
        (if ds = .resting ∧ r.switchClosed = true ∧ halted.2 = false then switched else switched.leaveQuiet)
      else if changes then (if switched.span.mode = .active then switched.restartQuiet else switched.leaveQuiet)
      else switched
    exec (.reportReceived f.bytes) s = .next judged.prestartTest.stoppingTest.transmit)

/-- R76: the quiet timer's expiry takes the line into QUIET when the machine is STOPPED and every tower ONLINE, READY and
ordered 0, with a REST sent at once or after the slot in progress; otherwise the timer restarts. R78: the survey timer's
expiry begins a SURVEY round with tower 1. With a slot in progress the timer restarts: the model's choice (assumption log
13). That an interval number not yet handed over is sent as 0, in this frame and in the first after QUIET, is the model's
reading (assumption log 16). R79, R75: the line's return from QUIET, and the restart of the quiet timer. The return stops
the survey timer, starts the quiet timer, sends no REST not yet begun, tells QUIET (left), lets a slot in progress go on,
and begins a DRIVE round at once where none is; a line in ACTIVE is left alone. That no round begins without a tower or in
UNCONFIGURED is log 22. -/
def Obligations.QuietAndSurveyTimers : Prop :=
  (∀ (s : State) (timer : Timer), s.powered = true → s.span.quietTimer = some timer → s.span.mode = .active →
    let now := max s.clock (timer.startedAt + timer.length)
    let ready := s.run.mstate = .stopped ∧ ∀ k, 1 ≤ k → k ≤ s.towerCount →
      (s.tower k).dyn.link = .online ∧ (s.tower k).dyn.status = .ready ∧ (s.tower k).dyn.lastOrder = 0
    let quiet : SpanMaster := { s.span with
      mode := .quiet, quietTimer := none, surveyTimer := some ⟨s.mval .surveyInterval * 1000, now⟩ }
    let enters (m : SpanMaster) := exec .quietTimerExpiry s =
      .next (({ s with clock := now, span := m } : State).queueNotice .machine (.quiet false)).transmit
    (ready → s.span.slot = none →
      enters { quiet with slot := some ⟨.rest, 0, .sending, 0, .forward, 0, 0, now, now, false⟩, restDue := false }) ∧
    (ready → s.span.slot ≠ none → enters { quiet with restDue := true }) ∧
    (¬ ready → s.run.mstate ≠ .unconfigured → exec .quietTimerExpiry s =
      .next ({ s with clock := now, span := { s.span with
        quietTimer := some ⟨s.mval .quietDelay * 1000, now⟩ } } : State).transmit)) ∧
  (∀ (s : State) (timer : Timer), s.powered = true → s.span.surveyTimer = some timer →
    let now := max s.clock (timer.startedAt + timer.length)
    (s.span.slot = none → 1 ≤ s.towerCount → exec .surveyTimerExpiry s =
      .next ({ s with clock := now, span := { s.span with
        surveyTimer := none
        slot := some ⟨.survey, 1, .sending, s.span.setInterval.getD 0, .forward, 0, 0, now, now, false⟩ } } : State).transmit) ∧
    (s.span.slot ≠ none → exec .surveyTimerExpiry s =
      .next ({ s with clock := now, span := { s.span with
        surveyTimer := some ⟨s.mval .surveyInterval * 1000, now⟩ } } : State).transmit)) ∧
  (∀ s : State,
    let quiet : Timer := ⟨s.mval .quietDelay * 1000, s.clock⟩
    let hold := max 5 (min 255 (((s.mval .missLimit + 1) * s.mval .driveInterval + 99) / 100))
    let woken : SpanMaster := { s.span with mode := .active, surveyTimer := none, restDue := false, quietTimer := some quiet }
    let first : SpanMaster := { woken with
      slot := some ⟨.drive, 1, .sending, s.span.setInterval.getD 0, (s.tower 1).dyn.lastDirection, (s.tower 1).dyn.lastOrder,
        hold, s.clock, s.clock, false⟩
      lastLine := setNth s.span.lastLine 1 (some (s.tower 1).dyn.lastOrder) }
    let told (m : SpanMaster) : State := ({ s with span := m } : State).queueNotice .machine (.quiet true)
    (s.span.mode = .active → s.leaveQuiet = s) ∧
    (s.span.mode = .quiet → s.span.slot ≠ none ∨ s.towerCount = 0 ∨ s.run.mstate = .unconfigured →
      s.leaveQuiet = told woken) ∧
    (s.span.mode = .quiet → s.span.slot = none → 1 ≤ s.towerCount → s.run.mstate ≠ .unconfigured →
      s.leaveQuiet = told first) ∧
    (s.span.mode = .active → s.run.mstate ≠ .unconfigured →
      s.restartQuiet = { s with span := { s.span with quietTimer := some quiet } }) ∧
    (s.span.mode = .quiet ∨ s.run.mstate = .unconfigured → s.restartQuiet = s))

/-! ### The store, power and recovery -/

/-- R170, R171, R172: STORE_CONFIG is refused outside UNCONFIGURED and STOPPED and for a setting out of range; accepted, the
settings carried take their places and the image as it stands begins to be written, the reply being not yet ready. That the
bits of the presence byte above the three named are ignored is the model's reading (assumption log 19). That the entries
queued for a panel which it wakes are sent before its reply is the model's choice (assumption log 33). R172, R181: when the
write and its verify complete, the reply of STORE_CONFIG is ready: OK with the settings stored and the check value, and the
image stored with its check value behind it, low byte first; or STORE_FAILED, with a stored copy whose check fails. -/
def Obligations.StoreConfigWritesTheImage : Prop :=
  (∀ (s : State) (presence policy : Byte) (delay tolerance : U16), s.receptive →
    let i : Instr := .storeConfig presence policy delay tolerance
    let h := s.heard (.storeConfig presence policy delay tolerance)
    let old := s.store.settings
    let fits := (presence.getLsbD 0 = true → policy.toNat ≤ 2) ∧
      (presence.getLsbD 1 = true → 5 ≤ delay.toNat ∧ delay.toNat ≤ 600) ∧
      (presence.getLsbD 2 = true → tolerance.toNat ≤ 500)
    let rests := s.run.mstate = .unconfigured ∨ s.run.mstate = .stopped
    (¬ rests → exec i s = .next (h.replying 0x38 (.fail .wrongState)).transmit) ∧
    (rests → ¬ fits → exec i s = .next (h.replying 0x38 (.fail .badValue)).transmit) ∧
    (rests → fits → ∃ (image : ConfigImage) (settings : RecoverySettings),
      exec i s = .next ({ h with
        store := { s.store with settings := settings, writing := some image }
        panel := { h.panel with service := some ⟨0x38, none⟩ } } : State).transmit ∧
      (∀ p, presence.getLsbD 0 = true → policyOf policy = some p → settings.policy = p) ∧
      (presence.getLsbD 0 = false → settings.policy = old.policy) ∧
      settings.delay = (if presence.getLsbD 1 then delay.toNat else old.delay) ∧
      settings.tolerance = (if presence.getLsbD 2 then tolerance.toNat else old.tolerance) ∧
      (∀ f, image.machine.get f = s.setting (.machine f)) ∧
      (∀ (k : Fin 16) f, image.towers[k].get f = s.setting (.tower (k.val + 1) f)) ∧
      image.sectors = (s.sectors.pending.getD s.sectors.installed).map Sector.rearm ∧
      (∀ n : Fin 8, image.watches[n] = s.watch.entries[n].cfg) ∧ image.modes = s.faults.modes ∧
      image.priorities = s.panel.priorities ∧ image.filters = s.panel.filters ∧ image.recovery = settings)) ∧
  (∀ (s : State) (i : ConfigImage), s.powered = true → s.store.writing = some i → s.panel.service = some ⟨0x38, none⟩ →
    let check := crc32 (Config.imageBytes i)
    let stored (c : StoredCopy) : State := { s with store := { s.store with writing := none, stored := c } }
    exec (.storeWriteComplete true) s = .next ((stored (.written i [check.extractLsb' 0 8, check.extractLsb' 8 8,
      check.extractLsb' 16 8, check.extractLsb' 24 8])).replying 0x38 (.ok (.stored i.recovery check))).transmit ∧
    exec (.storeWriteComplete false) s = .next ((stored .failing).replying 0x38 (.fail .storeFailed)).transmit)

/-- R5, R8, R37, R61, R82, R108, R129, R134, R153, R173, R174, R181: after a power-on reset every block has its reset values
and what the stored image holds for it, or the empty configuration where the bytes behind the image are not its check value.
A write in progress leaves a stored copy whose check fails. The queue and the clock, the model's own, go on; that the span
receiver hunts is the model's choice (assumption log 4). That a read in progress is dropped is the model's choice
(assumption log 32). R153, R174, R177: the machine state after a power-on reset: UNCONFIGURED for an incomplete
configuration, POWER_WAIT while the power-fail input is asserted, and otherwise as the retained record and the recovery
policy give; a TRIPPED return places its record in the empty fault list. The notices are RESTARTED, CONFIG_INVALID behind it
where the check fails, and the RECOVERY notice that the return gives; no STATE notice is queued. Whether the retained
record's own check passes is an operand (assumption log 25). -/
def Obligations.ResetLoadsTheImageAndDecidesTheState : Prop :=
  (∀ (s : State) (recordCheck : Bool),
    let kept := if s.store.writing = none then s.store.stored else .failing
    let image := kept.contents.getD ConfigImage.empty
    let silence := image.machine.panelSilence.getD 0
    ∃ t, exec (.powerOnReset recordCheck) s = .next t ∧ t.powered = true ∧ t.pending = s.pending ∧ t.clock = s.clock ∧
      t.inputs = s.inputs ∧
      t.table = ⟨image.machine, image.towers.map (fun c => ⟨c, .reset⟩), []⟩ ∧
      t.angle = ⟨⟨100, s.clock⟩, false, 0, false, none, false, Vector.replicate 16 none, Vector.replicate 16 0, none⟩ ∧
      t.engine = ⟨if t.complete then some ⟨t.mval .driveInterval, s.clock⟩ else none, 0, .forward, 0⟩ ∧
      t.span = ⟨.active, none, false, none, Vector.replicate 16 none,
        if t.complete then some ⟨t.mval .quietDelay * 1000, s.clock⟩ else none, none, []⟩ ∧
      t.sectors = ⟨image.sectors.map Sector.rearm, none, none, 1000, none⟩ ∧
      t.watch = ⟨image.watches.map (fun c => ⟨c, false, 0⟩), Vector.replicate 4 ⟨.auto, false⟩⟩ ∧
      t.faults.modes = image.modes ∧ t.faults.tripMarks = Vector.replicate 16 false ∧
      t.panel.rx = [] ∧ t.panel.intake = [] ∧ t.panel.service = none ∧ t.panel.overrun = false ∧ t.panel.lost = false ∧
      t.panel.priorities = image.priorities ∧ t.panel.mask = 0 ∧ t.panel.asleep = false ∧
      t.panel.filters = image.filters ∧ t.panel.wakeLine = false ∧
      t.panel.silenceTimer = (if silence = 0 then none else some ⟨silence * 1000, s.clock⟩) ∧
      t.store.settings = image.recovery ∧ t.store.stored = kept ∧ t.store.writing = none) ∧
  (∀ (s : State) (recordCheck : Bool),
    let kept := if s.store.writing = none then s.store.stored else .failing
    let r : RetainedRecord := { s.store.record with valid := s.store.record.valid && recordCheck }
    ∃ t, exec (.powerOnReset recordCheck) s = .next t ∧ t.run.contactor = false ∧ t.run.warning = false ∧
      t.run.dest = none ∧ t.run.reason = none ∧ t.run.origin = none ∧ t.run.prestartTimer = none ∧
      t.run.startFailTimer = none ∧ t.run.stopTimer = none ∧
      (let target := landing r t.store.settings.policy
        let recovery : List NoticeData :=
          if t.complete = false then (if r.valid = true ∧ r.cls ≠ .other then [.recovery (.refused .config)] else [])
          else if s.inputs.powerFail = true ∨ r.valid = false then []
          else if target.1 = .recovering then [.recovery .pending]
          else if target.1 = .stopped ∧ r.cls ≠ .other then [.recovery (.refused .policy)] else []
        t.panel.notices.map (fun n => (n.subject, n.data, n.count)) =
          ([NoticeData.restarted false] ++ (if kept.contents = none then [NoticeData.configInvalid] else []) ++ recovery).map
            fun d => (Subject.machine, d, 1)) ∧
      (t.complete = false →
        t.run.mstate = .unconfigured ∧ t.run.pass = none ∧ t.run.tripKind = none ∧ t.faults.records = [] ∧
        t.store.record.valid = false) ∧
      (t.complete = true → s.inputs.powerFail = true →
        t.run.mstate = .powerWait ∧ t.run.pass = none ∧ t.run.tripKind = none ∧ t.faults.records = [] ∧
        t.store.record = r) ∧
      (t.complete = true → s.inputs.powerFail = false →
        t.run.mstate = (landing r t.store.settings.policy).1 ∧ t.run.pass = (landing r t.store.settings.policy).2 ∧
        t.run.recoveryTimer =
          (if t.run.mstate = .recovering then some ⟨t.store.settings.delay * 1000, s.clock⟩ else none) ∧
        (t.run.mstate = .tripped → t.run.tripKind = r.tripKind ∧
          ∀ k, r.tripKind = some k → t.faults.records =
            (let a := match r.captured with | some c => c.1 | none => 0
              [⟨k, none, .hard, .latched, a, a, 1⟩])) ∧
        (t.run.mstate ≠ .tripped → t.run.tripKind = none ∧ t.faults.records = [])))

/-- R180, R153: a device reset is the reset of power-on with the retained record made invalid, so the machine comes up
UNCONFIGURED, POWER_WAIT or STOPPED with no pass and no RECOVERY notice. The panel port has its reset values: frames waiting
and notices queued are discarded, and RESTARTED tells device, with CONFIG_INVALID behind it where the check fails.
RESET_DEVICE is answered OK and the reset follows its reply (`EndsOfTransmittedFrames`). The model's reading (assumption log
21): DEVICE_RESET by itself is this reset at any moment, and a write in progress is lost. That a read in progress is dropped
is the model's choice (assumption log 32). -/
def Obligations.DeviceResetForgetsTheRun : Prop :=
  ∀ s : State,
    (s.receptive → exec .resetDevice s = .next ((s.heard .resetDevice).replying 0x39 .ok).transmit) ∧
    (s.powered = true → ∃ t u, exec .deviceReset s = .next t ∧ exec (.powerOnReset false) s = .next u ∧
      t = { u with panel := t.panel } ∧ t.run.pass = none ∧ t.faults.records = [] ∧
      t.panel = { u.panel with notices := t.panel.notices, tx := t.panel.tx } ∧
      t.panel.rx = [] ∧ t.panel.intake = [] ∧ t.panel.service = none ∧ t.panel.overrun = false ∧ t.panel.lost = false ∧
      t.panel.mask = 0 ∧ t.panel.asleep = false ∧ t.panel.wakeLine = false ∧
      (let kept : StoredCopy := if s.store.writing = none then s.store.stored else .failing;
        t.panel.notices.map (fun n => (n.subject, n.data, n.count)) =
          ([NoticeData.restarted true] ++ (if kept.contents = none then [NoticeData.configInvalid] else [])).map
            fun d => (Subject.machine, d, 1)) ∧
      t.sectors.build = none ∧ t.sectors.pending = none ∧
      t.run.mstate = (if t.complete = false then .unconfigured else if s.inputs.powerFail then .powerWait else .stopped))

/-- R176: a power-fail assertion captures the run state and takes the machine into POWER_WAIT with every order 0, the timers
stopped and the pass discarded; in UNCONFIGURED and POWER_WAIT it changes nothing but the input's level. R177, R178: the
return of power in POWER_WAIT enters the state that the held record and policy give, with its STATE notice; a TRIPPED return
places the record of the stored trip kind in the list where POWER_WAIT was entered at a reset, which the absence of a trip
kind shows (assumption log 17); in any other state it changes nothing but the input's level. -/
def Obligations.PowerFailAndReturn : Prop :=
  (∀ s : State, s.powered = true → s.inputs.powerFail = false →
    let input : Inputs := { s.inputs with powerFail := true }
    (s.run.mstate = .unconfigured ∨ s.run.mstate = .powerWait →
      exec .powerFailAssert s = .next ({ s with inputs := input } : State).transmit) ∧
    (s.run.mstate ≠ .unconfigured → s.run.mstate ≠ .powerWait →
      ∃ t, exec .powerFailAssert s = .next t ∧ t.inputs = input ∧
        t.run = { s.run with
          mstate := .powerWait, dest := none, reason := none, origin := none, pass := none
          prestartTimer := none, startFailTimer := none, stopTimer := none, recoveryTimer := none
          contactor := false, warning := false } ∧
        t.store = { s.store with record :=
          { valid := true
            cls := match s.run.mstate with
              | .prestart | .running => .moving
              | .stopping => if s.run.dest = some .stopped then .other else .moving
              | .held => .held
              | .tripped => .tripped
              | _ => .other
            pass := s.run.pass
            tripKind := if s.run.mstate = .tripped then s.run.tripKind else none
            captured := some (s.angle.held, s.angle.heldValid) } } ∧
        (∀ k, 1 ≤ k → k ≤ s.towerCount →
          t.tower k = { s.tower k with dyn := { (s.tower k).dyn with lastOrder := 0, stall := .idle } }) ∧
        t.span.mode = .active ∧ t.engine = s.engine ∧ t.faults = s.faults ∧ t.sectors = s.sectors ∧
        t.watch.entries = s.watch.entries ∧
        (∀ n : Fin 4, t.watch.aux[n].mode = s.watch.aux[n].mode ∧
          t.watch.aux[n].level = (s.watch.aux[n].level && !(s.run.mstate == .running || s.run.mstate == .stopping))) ∧
        t.gains s .machine (.state .powerWait none))) ∧
  (∀ s : State, s.powered = true → s.inputs.powerFail = true →
    let input : Inputs := { s.inputs with powerFail := false }
    let r := s.store.record
    let target := landing r s.store.settings.policy
    (s.run.mstate ≠ .powerWait → exec .powerFailDeassert s = .next ({ s with inputs := input } : State).transmit) ∧
    (s.run.mstate = .powerWait →
      ∃ t, exec .powerFailDeassert s = .next t ∧ t.inputs = input ∧ t.run.mstate = target.1 ∧
        (target.2 = none → s.run.pass = none → t.run.pass = none) ∧ (∀ p, target.2 = some p → t.run.pass = some p) ∧
        t.run.contactor = false ∧ t.run.warning = false ∧
        (target.1 = .recovering → t.run.recoveryTimer = some ⟨s.store.settings.delay * 1000, s.clock⟩ ∧
          t.gains s .machine (.recovery .pending) ∧ t.store.record.captured = r.captured) ∧
        (target.1 = .tripped → t.run.tripKind = r.tripKind) ∧
        (s.run.tripKind ≠ none ∨ target.1 ≠ .tripped → t.faults = s.faults) ∧
        (∀ k, target.1 = .tripped → s.run.tripKind = none → r.tripKind = some k → s.faults.records.length < 32 →
          (∀ e ∈ s.faults.records, e.key ≠ (k, none)) →
          t.faults = { s.faults with records := s.faults.records ++
            (let a := match r.captured with | some c => c.1 | none => 0
              [⟨k, none, .hard, .latched, a, a, 1⟩]) }) ∧
        t.gains s .machine (.state target.1 none) ∧
        (r.valid = true → target.1 = .stopped → r.cls ≠ .other → t.gains s .machine (.recovery (.refused .policy))) ∧
        (target.1 ≠ .recovering → t.store.record.captured = none) ∧ t.store.record.valid = true ∧
        t.table = s.table ∧ t.engine = s.engine ∧ t.watch = s.watch ∧ t.sectors = s.sectors))

/-- R179, R178: the recovery timer's expiry tests the angle, the towers, the chain and the faults, in this order; the first
that fails stops the machine with its reason, and none failing it enters PRESTART with origin RECOVERY. RECOVERY is queued
after the STATE notice, and after a completion of PRESTART at the entry, by the model's choice (assumption log 14). -/
def Obligations.RecoveryTimerResumesOrRefuses : Prop :=
  ∀ (s : State) (timer : Timer), s.powered = true → s.run.mstate = .recovering → s.run.recoveryTimer = some timer →
    s.span.mode = .active →
    let now := max s.clock (timer.startedAt + timer.length)
    let angle := ∃ a, s.store.record.captured = some (a, true) ∧ s.angle.heldValid = true ∧
      (angleDiff a s.angle.held).natAbs ≤ s.store.settings.tolerance
    let online := ∀ k, 1 ≤ k → k ≤ s.towerCount → (s.tower k).dyn.link = .online
    let chain := s.inputs.chainClosed = true
    let clean := ∀ r ∈ s.faults.records, r.mode = .deferred
    let windows : AngleUnit := { s.angle with
      windows := Vector.replicate 16 none, overLimit := Vector.replicate 16 0, haltAngle := none }
    let refused (why : RecoveryReason) :=
      let u : State := { s with
        clock := now
        run := { s.run with
          mstate := .stopped, dest := none, reason := none, origin := none, pass := none, recoveryTimer := none
          contactor := false, warning := false }
        span := { s.span with quietTimer := some ⟨s.mval .quietDelay * 1000, now⟩ }
        angle := { windows with haltAngle := if s.angle.heldValid then some s.angle.held else none }
        store := { s.store with record := ⟨true, .other, none, none, none⟩ } }
      exec .recoveryTimerExpiry s = .next ((u.queueNotice .machine (.state .stopped none)).queueNotice .machine
        (.recovery (.refused why))).transmit
    (¬ angle → refused .angle) ∧ (angle → ¬ online → refused .tower) ∧
    (angle → online → ¬ chain → refused .chain) ∧ (angle → online → chain → ¬ clean → refused .fault) ∧
    (angle → online → chain → clean →
      let warn := s.mval .prestartTime * 1000
      let u : State := { s with
        clock := now
        run := { s.run with
          mstate := .prestart, dest := none, reason := none, origin := some .recovery, recoveryTimer := none
          prestartTimer := if warn = 0 then none else some ⟨warn, now⟩
          startFailTimer := some ⟨warn + s.mval .stopTimeout * 1000, now⟩
          contactor := true, warning := true }
        angle := windows
        store := { s.store with record := ⟨true, .moving, s.run.pass, none, none⟩ } }
      exec .recoveryTimerExpiry s = .next (((u.queueNotice .machine (.state .prestart none)).prestartTest).queueNotice
        .machine (.recovery .resumed)).transmit)
end

