-- ==== Sys2Proof/Laws/State.lean ====
section
/-! SUPPORT. What the shared operations leave alone: for each operation, one simp lemma for each field of the state that it does
not touch, and one lemma `…_frame` that says all that it can touch; so that no later proof unfolds an operation to see past it.
-/

namespace Sys2Proof.Machine

variable (s : State)

@[simp] theorem State.runTo_pending (t : Nat) : (s.runTo t).pending = s.pending := rfl
@[simp] theorem State.runTo_powered (t : Nat) : (s.runTo t).powered = s.powered := rfl
@[simp] theorem State.runTo_inputs (t : Nat) : (s.runTo t).inputs = s.inputs := rfl
@[simp] theorem State.runTo_table (t : Nat) : (s.runTo t).table = s.table := rfl
@[simp] theorem State.runTo_angle (t : Nat) : (s.runTo t).angle = s.angle := rfl
@[simp] theorem State.runTo_engine (t : Nat) : (s.runTo t).engine = s.engine := rfl
@[simp] theorem State.runTo_span (t : Nat) : (s.runTo t).span = s.span := rfl
@[simp] theorem State.runTo_run (t : Nat) : (s.runTo t).run = s.run := rfl
@[simp] theorem State.runTo_sectors (t : Nat) : (s.runTo t).sectors = s.sectors := rfl
@[simp] theorem State.runTo_watch (t : Nat) : (s.runTo t).watch = s.watch := rfl
@[simp] theorem State.runTo_faults (t : Nat) : (s.runTo t).faults = s.faults := rfl
@[simp] theorem State.runTo_panel (t : Nat) : (s.runTo t).panel = s.panel := rfl
@[simp] theorem State.runTo_store (t : Nat) : (s.runTo t).store = s.store := rfl

/-- `runTo` touches nothing but clock. -/
theorem State.runTo_frame (t : Nat) :
    s.runTo t = { s with clock := (s.runTo t).clock } := rfl

@[simp] theorem State.runOut_pending (t : Timer) : (s.runOut t).pending = s.pending := rfl
@[simp] theorem State.runOut_powered (t : Timer) : (s.runOut t).powered = s.powered := rfl
@[simp] theorem State.runOut_inputs (t : Timer) : (s.runOut t).inputs = s.inputs := rfl
@[simp] theorem State.runOut_table (t : Timer) : (s.runOut t).table = s.table := rfl
@[simp] theorem State.runOut_angle (t : Timer) : (s.runOut t).angle = s.angle := rfl
@[simp] theorem State.runOut_engine (t : Timer) : (s.runOut t).engine = s.engine := rfl
@[simp] theorem State.runOut_span (t : Timer) : (s.runOut t).span = s.span := rfl
@[simp] theorem State.runOut_run (t : Timer) : (s.runOut t).run = s.run := rfl
@[simp] theorem State.runOut_sectors (t : Timer) : (s.runOut t).sectors = s.sectors := rfl
@[simp] theorem State.runOut_watch (t : Timer) : (s.runOut t).watch = s.watch := rfl
@[simp] theorem State.runOut_faults (t : Timer) : (s.runOut t).faults = s.faults := rfl
@[simp] theorem State.runOut_panel (t : Timer) : (s.runOut t).panel = s.panel := rfl
@[simp] theorem State.runOut_store (t : Timer) : (s.runOut t).store = s.store := rfl

/-- `runOut` touches nothing but clock. -/
theorem State.runOut_frame (t : Timer) :
    s.runOut t = { s with clock := (s.runOut t).clock } := rfl

@[simp] theorem State.setRun_pending (f : RunController → RunController) : (s.setRun f).pending = s.pending := rfl
@[simp] theorem State.setRun_clock (f : RunController → RunController) : (s.setRun f).clock = s.clock := rfl
@[simp] theorem State.setRun_powered (f : RunController → RunController) : (s.setRun f).powered = s.powered := rfl
@[simp] theorem State.setRun_inputs (f : RunController → RunController) : (s.setRun f).inputs = s.inputs := rfl
@[simp] theorem State.setRun_table (f : RunController → RunController) : (s.setRun f).table = s.table := rfl
@[simp] theorem State.setRun_angle (f : RunController → RunController) : (s.setRun f).angle = s.angle := rfl
@[simp] theorem State.setRun_engine (f : RunController → RunController) : (s.setRun f).engine = s.engine := rfl
@[simp] theorem State.setRun_span (f : RunController → RunController) : (s.setRun f).span = s.span := rfl
@[simp] theorem State.setRun_sectors (f : RunController → RunController) : (s.setRun f).sectors = s.sectors := rfl
@[simp] theorem State.setRun_watch (f : RunController → RunController) : (s.setRun f).watch = s.watch := rfl
@[simp] theorem State.setRun_faults (f : RunController → RunController) : (s.setRun f).faults = s.faults := rfl
@[simp] theorem State.setRun_panel (f : RunController → RunController) : (s.setRun f).panel = s.panel := rfl
@[simp] theorem State.setRun_store (f : RunController → RunController) : (s.setRun f).store = s.store := rfl

/-- `setRun` touches nothing but run. -/
theorem State.setRun_frame (f : RunController → RunController) :
    s.setRun f = { s with run := (s.setRun f).run } := rfl

@[simp] theorem State.setPass_pending (f : Pass → Pass) : (s.setPass f).pending = s.pending := rfl
@[simp] theorem State.setPass_clock (f : Pass → Pass) : (s.setPass f).clock = s.clock := rfl
@[simp] theorem State.setPass_powered (f : Pass → Pass) : (s.setPass f).powered = s.powered := rfl
@[simp] theorem State.setPass_inputs (f : Pass → Pass) : (s.setPass f).inputs = s.inputs := rfl
@[simp] theorem State.setPass_table (f : Pass → Pass) : (s.setPass f).table = s.table := rfl
@[simp] theorem State.setPass_angle (f : Pass → Pass) : (s.setPass f).angle = s.angle := rfl
@[simp] theorem State.setPass_engine (f : Pass → Pass) : (s.setPass f).engine = s.engine := rfl
@[simp] theorem State.setPass_span (f : Pass → Pass) : (s.setPass f).span = s.span := rfl
@[simp] theorem State.setPass_sectors (f : Pass → Pass) : (s.setPass f).sectors = s.sectors := rfl
@[simp] theorem State.setPass_watch (f : Pass → Pass) : (s.setPass f).watch = s.watch := rfl
@[simp] theorem State.setPass_faults (f : Pass → Pass) : (s.setPass f).faults = s.faults := rfl
@[simp] theorem State.setPass_panel (f : Pass → Pass) : (s.setPass f).panel = s.panel := rfl
@[simp] theorem State.setPass_store (f : Pass → Pass) : (s.setPass f).store = s.store := rfl

/-- `setPass` touches nothing but run. -/
theorem State.setPass_frame (f : Pass → Pass) :
    s.setPass f = { s with run := (s.setPass f).run } := rfl

@[simp] theorem State.setDyn_pending (k : Nat) (f : TowerDynamic → TowerDynamic) :
    (s.setDyn k f).pending = s.pending := rfl
@[simp] theorem State.setDyn_clock (k : Nat) (f : TowerDynamic → TowerDynamic) :
    (s.setDyn k f).clock = s.clock := rfl
@[simp] theorem State.setDyn_powered (k : Nat) (f : TowerDynamic → TowerDynamic) :
    (s.setDyn k f).powered = s.powered := rfl
@[simp] theorem State.setDyn_inputs (k : Nat) (f : TowerDynamic → TowerDynamic) :
    (s.setDyn k f).inputs = s.inputs := rfl
@[simp] theorem State.setDyn_angle (k : Nat) (f : TowerDynamic → TowerDynamic) :
    (s.setDyn k f).angle = s.angle := rfl
@[simp] theorem State.setDyn_engine (k : Nat) (f : TowerDynamic → TowerDynamic) :
    (s.setDyn k f).engine = s.engine := rfl
@[simp] theorem State.setDyn_span (k : Nat) (f : TowerDynamic → TowerDynamic) : (s.setDyn k f).span = s.span := rfl
@[simp] theorem State.setDyn_run (k : Nat) (f : TowerDynamic → TowerDynamic) : (s.setDyn k f).run = s.run := rfl
@[simp] theorem State.setDyn_sectors (k : Nat) (f : TowerDynamic → TowerDynamic) :
    (s.setDyn k f).sectors = s.sectors := rfl
@[simp] theorem State.setDyn_watch (k : Nat) (f : TowerDynamic → TowerDynamic) :
    (s.setDyn k f).watch = s.watch := rfl
@[simp] theorem State.setDyn_faults (k : Nat) (f : TowerDynamic → TowerDynamic) :
    (s.setDyn k f).faults = s.faults := rfl
@[simp] theorem State.setDyn_panel (k : Nat) (f : TowerDynamic → TowerDynamic) :
    (s.setDyn k f).panel = s.panel := rfl
@[simp] theorem State.setDyn_store (k : Nat) (f : TowerDynamic → TowerDynamic) :
    (s.setDyn k f).store = s.store := rfl

/-- `setDyn` touches nothing but table. -/
theorem State.setDyn_frame (k : Nat) (f : TowerDynamic → TowerDynamic) :
    s.setDyn k f = { s with table := (s.setDyn k f).table } := rfl

@[simp] theorem State.setDyns_pending (ks : List Nat) (f : TowerDynamic → TowerDynamic) :
    (s.setDyns ks f).pending = s.pending := by
  unfold State.setDyns
  induction ks generalizing s with
  | nil => rfl
  | cons k ks ih => rw [List.foldl_cons, ih]; rfl
@[simp] theorem State.setDyns_clock (ks : List Nat) (f : TowerDynamic → TowerDynamic) :
    (s.setDyns ks f).clock = s.clock := by
  unfold State.setDyns
  induction ks generalizing s with
  | nil => rfl
  | cons k ks ih => rw [List.foldl_cons, ih]; rfl
@[simp] theorem State.setDyns_powered (ks : List Nat) (f : TowerDynamic → TowerDynamic) :
    (s.setDyns ks f).powered = s.powered := by
  unfold State.setDyns
  induction ks generalizing s with
  | nil => rfl
  | cons k ks ih => rw [List.foldl_cons, ih]; rfl
@[simp] theorem State.setDyns_inputs (ks : List Nat) (f : TowerDynamic → TowerDynamic) :
    (s.setDyns ks f).inputs = s.inputs := by
  unfold State.setDyns
  induction ks generalizing s with
  | nil => rfl
  | cons k ks ih => rw [List.foldl_cons, ih]; rfl
@[simp] theorem State.setDyns_angle (ks : List Nat) (f : TowerDynamic → TowerDynamic) :
    (s.setDyns ks f).angle = s.angle := by
  unfold State.setDyns
  induction ks generalizing s with
  | nil => rfl
  | cons k ks ih => rw [List.foldl_cons, ih]; rfl
@[simp] theorem State.setDyns_engine (ks : List Nat) (f : TowerDynamic → TowerDynamic) :
    (s.setDyns ks f).engine = s.engine := by
  unfold State.setDyns
  induction ks generalizing s with
  | nil => rfl
  | cons k ks ih => rw [List.foldl_cons, ih]; rfl
@[simp] theorem State.setDyns_span (ks : List Nat) (f : TowerDynamic → TowerDynamic) :
    (s.setDyns ks f).span = s.span := by
  unfold State.setDyns
  induction ks generalizing s with
  | nil => rfl
  | cons k ks ih => rw [List.foldl_cons, ih]; rfl
@[simp] theorem State.setDyns_run (ks : List Nat) (f : TowerDynamic → TowerDynamic) :
    (s.setDyns ks f).run = s.run := by
  unfold State.setDyns
  induction ks generalizing s with
  | nil => rfl
  | cons k ks ih => rw [List.foldl_cons, ih]; rfl
@[simp] theorem State.setDyns_sectors (ks : List Nat) (f : TowerDynamic → TowerDynamic) :
    (s.setDyns ks f).sectors = s.sectors := by
  unfold State.setDyns
  induction ks generalizing s with
  | nil => rfl
  | cons k ks ih => rw [List.foldl_cons, ih]; rfl
@[simp] theorem State.setDyns_watch (ks : List Nat) (f : TowerDynamic → TowerDynamic) :
    (s.setDyns ks f).watch = s.watch := by
  unfold State.setDyns
  induction ks generalizing s with
  | nil => rfl
  | cons k ks ih => rw [List.foldl_cons, ih]; rfl
@[simp] theorem State.setDyns_faults (ks : List Nat) (f : TowerDynamic → TowerDynamic) :
    (s.setDyns ks f).faults = s.faults := by
  unfold State.setDyns
  induction ks generalizing s with
  | nil => rfl
  | cons k ks ih => rw [List.foldl_cons, ih]; rfl
@[simp] theorem State.setDyns_panel (ks : List Nat) (f : TowerDynamic → TowerDynamic) :
    (s.setDyns ks f).panel = s.panel := by
  unfold State.setDyns
  induction ks generalizing s with
  | nil => rfl
  | cons k ks ih => rw [List.foldl_cons, ih]; rfl
@[simp] theorem State.setDyns_store (ks : List Nat) (f : TowerDynamic → TowerDynamic) :
    (s.setDyns ks f).store = s.store := by
  unfold State.setDyns
  induction ks generalizing s with
  | nil => rfl
  | cons k ks ih => rw [List.foldl_cons, ih]; rfl

/-- `setDyns` touches nothing but table. -/
theorem State.setDyns_frame (ks : List Nat) (f : TowerDynamic → TowerDynamic) :
    s.setDyns ks f = { s with table := (s.setDyns ks f).table } := by
  apply State.ext <;> simp

@[simp] theorem State.queueNotice_pending (subject : Subject) (data : NoticeData) :
    (s.queueNotice subject data).pending = s.pending := by
  unfold State.queueNotice
  dsimp only
  repeat' split
  all_goals rfl
@[simp] theorem State.queueNotice_clock (subject : Subject) (data : NoticeData) :
    (s.queueNotice subject data).clock = s.clock := by
  unfold State.queueNotice
  dsimp only
  repeat' split
  all_goals rfl
@[simp] theorem State.queueNotice_powered (subject : Subject) (data : NoticeData) :
    (s.queueNotice subject data).powered = s.powered := by
  unfold State.queueNotice
  dsimp only
  repeat' split
  all_goals rfl
@[simp] theorem State.queueNotice_inputs (subject : Subject) (data : NoticeData) :
    (s.queueNotice subject data).inputs = s.inputs := by
  unfold State.queueNotice
  dsimp only
  repeat' split
  all_goals rfl
@[simp] theorem State.queueNotice_table (subject : Subject) (data : NoticeData) :
    (s.queueNotice subject data).table = s.table := by
  unfold State.queueNotice
  dsimp only
  repeat' split
  all_goals rfl
@[simp] theorem State.queueNotice_angle (subject : Subject) (data : NoticeData) :
    (s.queueNotice subject data).angle = s.angle := by
  unfold State.queueNotice
  dsimp only
  repeat' split
  all_goals rfl
@[simp] theorem State.queueNotice_engine (subject : Subject) (data : NoticeData) :
    (s.queueNotice subject data).engine = s.engine := by
  unfold State.queueNotice
  dsimp only
  repeat' split
  all_goals rfl
@[simp] theorem State.queueNotice_span (subject : Subject) (data : NoticeData) :
    (s.queueNotice subject data).span = s.span := by
  unfold State.queueNotice
  dsimp only
  repeat' split
  all_goals rfl
@[simp] theorem State.queueNotice_run (subject : Subject) (data : NoticeData) :
    (s.queueNotice subject data).run = s.run := by
  unfold State.queueNotice
  dsimp only
  repeat' split
  all_goals rfl
@[simp] theorem State.queueNotice_sectors (subject : Subject) (data : NoticeData) :
    (s.queueNotice subject data).sectors = s.sectors := by
  unfold State.queueNotice
  dsimp only
  repeat' split
  all_goals rfl
@[simp] theorem State.queueNotice_watch (subject : Subject) (data : NoticeData) :
    (s.queueNotice subject data).watch = s.watch := by
  unfold State.queueNotice
  dsimp only
  repeat' split
  all_goals rfl
@[simp] theorem State.queueNotice_faults (subject : Subject) (data : NoticeData) :
    (s.queueNotice subject data).faults = s.faults := by
  unfold State.queueNotice
  dsimp only
  repeat' split
  all_goals rfl
@[simp] theorem State.queueNotice_store (subject : Subject) (data : NoticeData) :
    (s.queueNotice subject data).store = s.store := by
  unfold State.queueNotice
  dsimp only
  repeat' split
  all_goals rfl

/-- `queueNotice` touches nothing but panel. -/
theorem State.queueNotice_frame (subject : Subject) (data : NoticeData) :
    s.queueNotice subject data = { s with panel := (s.queueNotice subject data).panel } := by
  apply State.ext <;> simp

@[simp] theorem State.transmit_pending : (s.transmit).pending = s.pending := by
  unfold State.transmit
  dsimp only
  repeat' split
  all_goals rfl
@[simp] theorem State.transmit_clock : (s.transmit).clock = s.clock := by
  unfold State.transmit
  dsimp only
  repeat' split
  all_goals rfl
@[simp] theorem State.transmit_powered : (s.transmit).powered = s.powered := by
  unfold State.transmit
  dsimp only
  repeat' split
  all_goals rfl
@[simp] theorem State.transmit_inputs : (s.transmit).inputs = s.inputs := by
  unfold State.transmit
  dsimp only
  repeat' split
  all_goals rfl
@[simp] theorem State.transmit_table : (s.transmit).table = s.table := by
  unfold State.transmit
  dsimp only
  repeat' split
  all_goals rfl
@[simp] theorem State.transmit_angle : (s.transmit).angle = s.angle := by
  unfold State.transmit
  dsimp only
  repeat' split
  all_goals rfl
@[simp] theorem State.transmit_engine : (s.transmit).engine = s.engine := by
  unfold State.transmit
  dsimp only
  repeat' split
  all_goals rfl
@[simp] theorem State.transmit_span : (s.transmit).span = s.span := by
  unfold State.transmit
  dsimp only
  repeat' split
  all_goals rfl
@[simp] theorem State.transmit_run : (s.transmit).run = s.run := by
  unfold State.transmit
  dsimp only
  repeat' split
  all_goals rfl
@[simp] theorem State.transmit_sectors : (s.transmit).sectors = s.sectors := by
  unfold State.transmit
  dsimp only
  repeat' split
  all_goals rfl
@[simp] theorem State.transmit_watch : (s.transmit).watch = s.watch := by
  unfold State.transmit
  dsimp only
  repeat' split
  all_goals rfl
@[simp] theorem State.transmit_faults : (s.transmit).faults = s.faults := by
  unfold State.transmit
  dsimp only
  repeat' split
  all_goals rfl
@[simp] theorem State.transmit_store : (s.transmit).store = s.store := by
  unfold State.transmit
  dsimp only
  repeat' split
  all_goals rfl

/-- `transmit` touches nothing but panel. -/
theorem State.transmit_frame :
    s.transmit = { s with panel := (s.transmit).panel } := by
  apply State.ext <;> simp

@[simp] theorem State.beginDriveSlot_pending (k : Nat) : (s.beginDriveSlot k).pending = s.pending := rfl
@[simp] theorem State.beginDriveSlot_clock (k : Nat) : (s.beginDriveSlot k).clock = s.clock := rfl
@[simp] theorem State.beginDriveSlot_powered (k : Nat) : (s.beginDriveSlot k).powered = s.powered := rfl
@[simp] theorem State.beginDriveSlot_inputs (k : Nat) : (s.beginDriveSlot k).inputs = s.inputs := rfl
@[simp] theorem State.beginDriveSlot_table (k : Nat) : (s.beginDriveSlot k).table = s.table := rfl
@[simp] theorem State.beginDriveSlot_angle (k : Nat) : (s.beginDriveSlot k).angle = s.angle := rfl
@[simp] theorem State.beginDriveSlot_engine (k : Nat) : (s.beginDriveSlot k).engine = s.engine := rfl
@[simp] theorem State.beginDriveSlot_run (k : Nat) : (s.beginDriveSlot k).run = s.run := rfl
@[simp] theorem State.beginDriveSlot_sectors (k : Nat) : (s.beginDriveSlot k).sectors = s.sectors := rfl
@[simp] theorem State.beginDriveSlot_watch (k : Nat) : (s.beginDriveSlot k).watch = s.watch := rfl
@[simp] theorem State.beginDriveSlot_faults (k : Nat) : (s.beginDriveSlot k).faults = s.faults := rfl
@[simp] theorem State.beginDriveSlot_panel (k : Nat) : (s.beginDriveSlot k).panel = s.panel := rfl
@[simp] theorem State.beginDriveSlot_store (k : Nat) : (s.beginDriveSlot k).store = s.store := rfl

/-- `beginDriveSlot` touches nothing but span. -/
theorem State.beginDriveSlot_frame (k : Nat) :
    s.beginDriveSlot k = { s with span := (s.beginDriveSlot k).span } := rfl

@[simp] theorem State.beginSurveySlot_pending (k : Nat) : (s.beginSurveySlot k).pending = s.pending := rfl
@[simp] theorem State.beginSurveySlot_clock (k : Nat) : (s.beginSurveySlot k).clock = s.clock := rfl
@[simp] theorem State.beginSurveySlot_powered (k : Nat) : (s.beginSurveySlot k).powered = s.powered := rfl
@[simp] theorem State.beginSurveySlot_inputs (k : Nat) : (s.beginSurveySlot k).inputs = s.inputs := rfl
@[simp] theorem State.beginSurveySlot_table (k : Nat) : (s.beginSurveySlot k).table = s.table := rfl
@[simp] theorem State.beginSurveySlot_angle (k : Nat) : (s.beginSurveySlot k).angle = s.angle := rfl
@[simp] theorem State.beginSurveySlot_engine (k : Nat) : (s.beginSurveySlot k).engine = s.engine := rfl
@[simp] theorem State.beginSurveySlot_run (k : Nat) : (s.beginSurveySlot k).run = s.run := rfl
@[simp] theorem State.beginSurveySlot_sectors (k : Nat) : (s.beginSurveySlot k).sectors = s.sectors := rfl
@[simp] theorem State.beginSurveySlot_watch (k : Nat) : (s.beginSurveySlot k).watch = s.watch := rfl
@[simp] theorem State.beginSurveySlot_faults (k : Nat) : (s.beginSurveySlot k).faults = s.faults := rfl
@[simp] theorem State.beginSurveySlot_panel (k : Nat) : (s.beginSurveySlot k).panel = s.panel := rfl
@[simp] theorem State.beginSurveySlot_store (k : Nat) : (s.beginSurveySlot k).store = s.store := rfl

/-- `beginSurveySlot` touches nothing but span. -/
theorem State.beginSurveySlot_frame (k : Nat) :
    s.beginSurveySlot k = { s with span := (s.beginSurveySlot k).span } := rfl

@[simp] theorem State.beginRest_pending : (s.beginRest).pending = s.pending := rfl
@[simp] theorem State.beginRest_clock : (s.beginRest).clock = s.clock := rfl
@[simp] theorem State.beginRest_powered : (s.beginRest).powered = s.powered := rfl
@[simp] theorem State.beginRest_inputs : (s.beginRest).inputs = s.inputs := rfl
@[simp] theorem State.beginRest_table : (s.beginRest).table = s.table := rfl
@[simp] theorem State.beginRest_angle : (s.beginRest).angle = s.angle := rfl
@[simp] theorem State.beginRest_engine : (s.beginRest).engine = s.engine := rfl
@[simp] theorem State.beginRest_run : (s.beginRest).run = s.run := rfl
@[simp] theorem State.beginRest_sectors : (s.beginRest).sectors = s.sectors := rfl
@[simp] theorem State.beginRest_watch : (s.beginRest).watch = s.watch := rfl
@[simp] theorem State.beginRest_faults : (s.beginRest).faults = s.faults := rfl
@[simp] theorem State.beginRest_panel : (s.beginRest).panel = s.panel := rfl
@[simp] theorem State.beginRest_store : (s.beginRest).store = s.store := rfl

/-- `beginRest` touches nothing but span. -/
theorem State.beginRest_frame :
    s.beginRest = { s with span := (s.beginRest).span } := rfl

@[simp] theorem State.beginDriveRound_pending : (s.beginDriveRound).pending = s.pending := by
  unfold State.beginDriveRound; split <;> rfl
@[simp] theorem State.beginDriveRound_clock : (s.beginDriveRound).clock = s.clock := by
  unfold State.beginDriveRound; split <;> rfl
@[simp] theorem State.beginDriveRound_powered : (s.beginDriveRound).powered = s.powered := by
  unfold State.beginDriveRound; split <;> rfl
@[simp] theorem State.beginDriveRound_inputs : (s.beginDriveRound).inputs = s.inputs := by
  unfold State.beginDriveRound; split <;> rfl
@[simp] theorem State.beginDriveRound_table : (s.beginDriveRound).table = s.table := by
  unfold State.beginDriveRound; split <;> rfl
@[simp] theorem State.beginDriveRound_angle : (s.beginDriveRound).angle = s.angle := by
  unfold State.beginDriveRound; split <;> rfl
@[simp] theorem State.beginDriveRound_engine : (s.beginDriveRound).engine = s.engine := by
  unfold State.beginDriveRound; split <;> rfl
@[simp] theorem State.beginDriveRound_run : (s.beginDriveRound).run = s.run := by
  unfold State.beginDriveRound; split <;> rfl
@[simp] theorem State.beginDriveRound_sectors : (s.beginDriveRound).sectors = s.sectors := by
  unfold State.beginDriveRound; split <;> rfl
@[simp] theorem State.beginDriveRound_watch : (s.beginDriveRound).watch = s.watch := by
  unfold State.beginDriveRound; split <;> rfl
@[simp] theorem State.beginDriveRound_faults : (s.beginDriveRound).faults = s.faults := by
  unfold State.beginDriveRound; split <;> rfl
@[simp] theorem State.beginDriveRound_panel : (s.beginDriveRound).panel = s.panel := by
  unfold State.beginDriveRound; split <;> rfl
@[simp] theorem State.beginDriveRound_store : (s.beginDriveRound).store = s.store := by
  unfold State.beginDriveRound; split <;> rfl

/-- `beginDriveRound` touches nothing but span. -/
theorem State.beginDriveRound_frame :
    s.beginDriveRound = { s with span := (s.beginDriveRound).span } := by
  apply State.ext <;> simp

@[simp] theorem State.cutFrame_pending : (s.cutFrame).pending = s.pending := by
  unfold State.cutFrame
  repeat' split
  all_goals rfl
@[simp] theorem State.cutFrame_clock : (s.cutFrame).clock = s.clock := by
  unfold State.cutFrame
  repeat' split
  all_goals rfl
@[simp] theorem State.cutFrame_powered : (s.cutFrame).powered = s.powered := by
  unfold State.cutFrame
  repeat' split
  all_goals rfl
@[simp] theorem State.cutFrame_inputs : (s.cutFrame).inputs = s.inputs := by
  unfold State.cutFrame
  repeat' split
  all_goals rfl
@[simp] theorem State.cutFrame_table : (s.cutFrame).table = s.table := by
  unfold State.cutFrame
  repeat' split
  all_goals rfl
@[simp] theorem State.cutFrame_angle : (s.cutFrame).angle = s.angle := by
  unfold State.cutFrame
  repeat' split
  all_goals rfl
@[simp] theorem State.cutFrame_engine : (s.cutFrame).engine = s.engine := by
  unfold State.cutFrame
  repeat' split
  all_goals rfl
@[simp] theorem State.cutFrame_run : (s.cutFrame).run = s.run := by
  unfold State.cutFrame
  repeat' split
  all_goals rfl
@[simp] theorem State.cutFrame_sectors : (s.cutFrame).sectors = s.sectors := by
  unfold State.cutFrame
  repeat' split
  all_goals rfl
@[simp] theorem State.cutFrame_watch : (s.cutFrame).watch = s.watch := by
  unfold State.cutFrame
  repeat' split
  all_goals rfl
@[simp] theorem State.cutFrame_faults : (s.cutFrame).faults = s.faults := by
  unfold State.cutFrame
  repeat' split
  all_goals rfl
@[simp] theorem State.cutFrame_panel : (s.cutFrame).panel = s.panel := by
  unfold State.cutFrame
  repeat' split
  all_goals rfl
@[simp] theorem State.cutFrame_store : (s.cutFrame).store = s.store := by
  unfold State.cutFrame
  repeat' split
  all_goals rfl

/-- `cutFrame` touches nothing but span. -/
theorem State.cutFrame_frame :
    s.cutFrame = { s with span := (s.cutFrame).span } := by
  apply State.ext <;> simp

@[simp] theorem State.restartQuiet_pending : (s.restartQuiet).pending = s.pending := by
  unfold State.restartQuiet; split <;> rfl
@[simp] theorem State.restartQuiet_clock : (s.restartQuiet).clock = s.clock := by
  unfold State.restartQuiet; split <;> rfl
@[simp] theorem State.restartQuiet_powered : (s.restartQuiet).powered = s.powered := by
  unfold State.restartQuiet; split <;> rfl
@[simp] theorem State.restartQuiet_inputs : (s.restartQuiet).inputs = s.inputs := by
  unfold State.restartQuiet; split <;> rfl
@[simp] theorem State.restartQuiet_table : (s.restartQuiet).table = s.table := by
  unfold State.restartQuiet; split <;> rfl
@[simp] theorem State.restartQuiet_angle : (s.restartQuiet).angle = s.angle := by
  unfold State.restartQuiet; split <;> rfl
@[simp] theorem State.restartQuiet_engine : (s.restartQuiet).engine = s.engine := by
  unfold State.restartQuiet; split <;> rfl
@[simp] theorem State.restartQuiet_run : (s.restartQuiet).run = s.run := by
  unfold State.restartQuiet; split <;> rfl
@[simp] theorem State.restartQuiet_sectors : (s.restartQuiet).sectors = s.sectors := by
  unfold State.restartQuiet; split <;> rfl
@[simp] theorem State.restartQuiet_watch : (s.restartQuiet).watch = s.watch := by
  unfold State.restartQuiet; split <;> rfl
@[simp] theorem State.restartQuiet_faults : (s.restartQuiet).faults = s.faults := by
  unfold State.restartQuiet; split <;> rfl
@[simp] theorem State.restartQuiet_panel : (s.restartQuiet).panel = s.panel := by
  unfold State.restartQuiet; split <;> rfl
@[simp] theorem State.restartQuiet_store : (s.restartQuiet).store = s.store := by
  unfold State.restartQuiet; split <;> rfl

/-- `restartQuiet` touches nothing but span. -/
theorem State.restartQuiet_frame :
    s.restartQuiet = { s with span := (s.restartQuiet).span } := by
  apply State.ext <;> simp

@[simp] theorem State.leaveQuiet_pending : (s.leaveQuiet).pending = s.pending := by
  unfold State.leaveQuiet
  split
  · dsimp only; split <;> simp
  · rfl
@[simp] theorem State.leaveQuiet_clock : (s.leaveQuiet).clock = s.clock := by
  unfold State.leaveQuiet
  split
  · dsimp only; split <;> simp
  · rfl
@[simp] theorem State.leaveQuiet_powered : (s.leaveQuiet).powered = s.powered := by
  unfold State.leaveQuiet
  split
  · dsimp only; split <;> simp
  · rfl
@[simp] theorem State.leaveQuiet_inputs : (s.leaveQuiet).inputs = s.inputs := by
  unfold State.leaveQuiet
  split
  · dsimp only; split <;> simp
  · rfl
@[simp] theorem State.leaveQuiet_table : (s.leaveQuiet).table = s.table := by
  unfold State.leaveQuiet
  split
  · dsimp only; split <;> simp
  · rfl
@[simp] theorem State.leaveQuiet_angle : (s.leaveQuiet).angle = s.angle := by
  unfold State.leaveQuiet
  split
  · dsimp only; split <;> simp
  · rfl
@[simp] theorem State.leaveQuiet_engine : (s.leaveQuiet).engine = s.engine := by
  unfold State.leaveQuiet
  split
  · dsimp only; split <;> simp
  · rfl
@[simp] theorem State.leaveQuiet_run : (s.leaveQuiet).run = s.run := by
  unfold State.leaveQuiet
  split
  · dsimp only; split <;> simp
  · rfl
@[simp] theorem State.leaveQuiet_sectors : (s.leaveQuiet).sectors = s.sectors := by
  unfold State.leaveQuiet
  split
  · dsimp only; split <;> simp
  · rfl
@[simp] theorem State.leaveQuiet_watch : (s.leaveQuiet).watch = s.watch := by
  unfold State.leaveQuiet
  split
  · dsimp only; split <;> simp
  · rfl
@[simp] theorem State.leaveQuiet_faults : (s.leaveQuiet).faults = s.faults := by
  unfold State.leaveQuiet
  split
  · dsimp only; split <;> simp
  · rfl
@[simp] theorem State.leaveQuiet_store : (s.leaveQuiet).store = s.store := by
  unfold State.leaveQuiet
  split
  · dsimp only; split <;> simp
  · rfl

/-- `leaveQuiet` touches nothing but span, panel. -/
theorem State.leaveQuiet_frame :
    s.leaveQuiet = { s with span := (s.leaveQuiet).span, panel := (s.leaveQuiet).panel } := by
  apply State.ext <;> simp

@[simp] theorem State.zeroOrders_pending : (s.zeroOrders).pending = s.pending := by simp [State.zeroOrders]
@[simp] theorem State.zeroOrders_clock : (s.zeroOrders).clock = s.clock := by simp [State.zeroOrders]
@[simp] theorem State.zeroOrders_powered : (s.zeroOrders).powered = s.powered := by simp [State.zeroOrders]
@[simp] theorem State.zeroOrders_inputs : (s.zeroOrders).inputs = s.inputs := by simp [State.zeroOrders]
@[simp] theorem State.zeroOrders_angle : (s.zeroOrders).angle = s.angle := by simp [State.zeroOrders]
@[simp] theorem State.zeroOrders_engine : (s.zeroOrders).engine = s.engine := by simp [State.zeroOrders]
@[simp] theorem State.zeroOrders_run : (s.zeroOrders).run = s.run := by simp [State.zeroOrders]
@[simp] theorem State.zeroOrders_sectors : (s.zeroOrders).sectors = s.sectors := by simp [State.zeroOrders]
@[simp] theorem State.zeroOrders_watch : (s.zeroOrders).watch = s.watch := by simp [State.zeroOrders]
@[simp] theorem State.zeroOrders_faults : (s.zeroOrders).faults = s.faults := by simp [State.zeroOrders]
@[simp] theorem State.zeroOrders_panel : (s.zeroOrders).panel = s.panel := by simp [State.zeroOrders]
@[simp] theorem State.zeroOrders_store : (s.zeroOrders).store = s.store := by simp [State.zeroOrders]

/-- `zeroOrders` touches nothing but table, span. -/
theorem State.zeroOrders_frame :
    s.zeroOrders = { s with table := (s.zeroOrders).table, span := (s.zeroOrders).span } := by
  apply State.ext <;> simp

@[simp] theorem State.rewriteRecord_pending (captured : Option (Nat × Bool)) :
    (s.rewriteRecord captured).pending = s.pending := rfl
@[simp] theorem State.rewriteRecord_clock (captured : Option (Nat × Bool)) :
    (s.rewriteRecord captured).clock = s.clock := rfl
@[simp] theorem State.rewriteRecord_powered (captured : Option (Nat × Bool)) :
    (s.rewriteRecord captured).powered = s.powered := rfl
@[simp] theorem State.rewriteRecord_inputs (captured : Option (Nat × Bool)) :
    (s.rewriteRecord captured).inputs = s.inputs := rfl
@[simp] theorem State.rewriteRecord_table (captured : Option (Nat × Bool)) :
    (s.rewriteRecord captured).table = s.table := rfl
@[simp] theorem State.rewriteRecord_angle (captured : Option (Nat × Bool)) :
    (s.rewriteRecord captured).angle = s.angle := rfl
@[simp] theorem State.rewriteRecord_engine (captured : Option (Nat × Bool)) :
    (s.rewriteRecord captured).engine = s.engine := rfl
@[simp] theorem State.rewriteRecord_span (captured : Option (Nat × Bool)) :
    (s.rewriteRecord captured).span = s.span := rfl
@[simp] theorem State.rewriteRecord_run (captured : Option (Nat × Bool)) :
    (s.rewriteRecord captured).run = s.run := rfl
@[simp] theorem State.rewriteRecord_sectors (captured : Option (Nat × Bool)) :
    (s.rewriteRecord captured).sectors = s.sectors := rfl
@[simp] theorem State.rewriteRecord_watch (captured : Option (Nat × Bool)) :
    (s.rewriteRecord captured).watch = s.watch := rfl
@[simp] theorem State.rewriteRecord_faults (captured : Option (Nat × Bool)) :
    (s.rewriteRecord captured).faults = s.faults := rfl
@[simp] theorem State.rewriteRecord_panel (captured : Option (Nat × Bool)) :
    (s.rewriteRecord captured).panel = s.panel := rfl

/-- `rewriteRecord` touches nothing but store. -/
theorem State.rewriteRecord_frame (captured : Option (Nat × Bool)) :
    s.rewriteRecord captured = { s with store := (s.rewriteRecord captured).store } := rfl

@[simp] theorem State.discardWindows_pending : (s.discardWindows).pending = s.pending := rfl
@[simp] theorem State.discardWindows_clock : (s.discardWindows).clock = s.clock := rfl
@[simp] theorem State.discardWindows_powered : (s.discardWindows).powered = s.powered := rfl
@[simp] theorem State.discardWindows_inputs : (s.discardWindows).inputs = s.inputs := rfl
@[simp] theorem State.discardWindows_table : (s.discardWindows).table = s.table := rfl
@[simp] theorem State.discardWindows_engine : (s.discardWindows).engine = s.engine := rfl
@[simp] theorem State.discardWindows_span : (s.discardWindows).span = s.span := rfl
@[simp] theorem State.discardWindows_run : (s.discardWindows).run = s.run := rfl
@[simp] theorem State.discardWindows_sectors : (s.discardWindows).sectors = s.sectors := rfl
@[simp] theorem State.discardWindows_watch : (s.discardWindows).watch = s.watch := rfl
@[simp] theorem State.discardWindows_faults : (s.discardWindows).faults = s.faults := rfl
@[simp] theorem State.discardWindows_panel : (s.discardWindows).panel = s.panel := rfl
@[simp] theorem State.discardWindows_store : (s.discardWindows).store = s.store := rfl

/-- `discardWindows` touches nothing but angle. -/
theorem State.discardWindows_frame :
    s.discardWindows = { s with angle := (s.discardWindows).angle } := rfl

@[simp] theorem State.setMachine_pending (m : MState) (dest : Option Destination) (reason : Option PassEnd) (origin : Option Origin) :
    (s.setMachine m dest reason origin).pending = s.pending := rfl
@[simp] theorem State.setMachine_clock (m : MState) (dest : Option Destination) (reason : Option PassEnd) (origin : Option Origin) :
    (s.setMachine m dest reason origin).clock = s.clock := rfl
@[simp] theorem State.setMachine_powered (m : MState) (dest : Option Destination) (reason : Option PassEnd) (origin : Option Origin) :
    (s.setMachine m dest reason origin).powered = s.powered := rfl
@[simp] theorem State.setMachine_inputs (m : MState) (dest : Option Destination) (reason : Option PassEnd) (origin : Option Origin) :
    (s.setMachine m dest reason origin).inputs = s.inputs := rfl
@[simp] theorem State.setMachine_table (m : MState) (dest : Option Destination) (reason : Option PassEnd) (origin : Option Origin) :
    (s.setMachine m dest reason origin).table = s.table := rfl
@[simp] theorem State.setMachine_angle (m : MState) (dest : Option Destination) (reason : Option PassEnd) (origin : Option Origin) :
    (s.setMachine m dest reason origin).angle = s.angle := rfl
@[simp] theorem State.setMachine_engine (m : MState) (dest : Option Destination) (reason : Option PassEnd) (origin : Option Origin) :
    (s.setMachine m dest reason origin).engine = s.engine := rfl
@[simp] theorem State.setMachine_span (m : MState) (dest : Option Destination) (reason : Option PassEnd) (origin : Option Origin) :
    (s.setMachine m dest reason origin).span = s.span := rfl
@[simp] theorem State.setMachine_sectors (m : MState) (dest : Option Destination) (reason : Option PassEnd) (origin : Option Origin) :
    (s.setMachine m dest reason origin).sectors = s.sectors := rfl
@[simp] theorem State.setMachine_watch (m : MState) (dest : Option Destination) (reason : Option PassEnd) (origin : Option Origin) :
    (s.setMachine m dest reason origin).watch = s.watch := rfl
@[simp] theorem State.setMachine_faults (m : MState) (dest : Option Destination) (reason : Option PassEnd) (origin : Option Origin) :
    (s.setMachine m dest reason origin).faults = s.faults := rfl
@[simp] theorem State.setMachine_panel (m : MState) (dest : Option Destination) (reason : Option PassEnd) (origin : Option Origin) :
    (s.setMachine m dest reason origin).panel = s.panel := rfl
@[simp] theorem State.setMachine_store (m : MState) (dest : Option Destination) (reason : Option PassEnd) (origin : Option Origin) :
    (s.setMachine m dest reason origin).store = s.store := rfl

/-- `setMachine` touches nothing but run. -/
theorem State.setMachine_frame (m : MState) (dest : Option Destination) (reason : Option PassEnd) (origin : Option Origin) :
    s.setMachine m dest reason origin = { s with run := (s.setMachine m dest reason origin).run } := rfl

@[simp] theorem State.recordFollows_pending : (s.recordFollows).pending = s.pending := by
  unfold State.recordFollows; split <;> rfl
@[simp] theorem State.recordFollows_clock : (s.recordFollows).clock = s.clock := by
  unfold State.recordFollows; split <;> rfl
@[simp] theorem State.recordFollows_powered : (s.recordFollows).powered = s.powered := by
  unfold State.recordFollows; split <;> rfl
@[simp] theorem State.recordFollows_inputs : (s.recordFollows).inputs = s.inputs := by
  unfold State.recordFollows; split <;> rfl
@[simp] theorem State.recordFollows_table : (s.recordFollows).table = s.table := by
  unfold State.recordFollows; split <;> rfl
@[simp] theorem State.recordFollows_angle : (s.recordFollows).angle = s.angle := by
  unfold State.recordFollows; split <;> rfl
@[simp] theorem State.recordFollows_engine : (s.recordFollows).engine = s.engine := by
  unfold State.recordFollows; split <;> rfl
@[simp] theorem State.recordFollows_span : (s.recordFollows).span = s.span := by
  unfold State.recordFollows; split <;> rfl
@[simp] theorem State.recordFollows_run : (s.recordFollows).run = s.run := by
  unfold State.recordFollows; split <;> rfl
@[simp] theorem State.recordFollows_sectors : (s.recordFollows).sectors = s.sectors := by
  unfold State.recordFollows; split <;> rfl
@[simp] theorem State.recordFollows_watch : (s.recordFollows).watch = s.watch := by
  unfold State.recordFollows; split <;> rfl
@[simp] theorem State.recordFollows_faults : (s.recordFollows).faults = s.faults := by
  unfold State.recordFollows; split <;> rfl
@[simp] theorem State.recordFollows_panel : (s.recordFollows).panel = s.panel := by
  unfold State.recordFollows; split <;> rfl

/-- `recordFollows` touches nothing but store. -/
theorem State.recordFollows_frame :
    s.recordFollows = { s with store := (s.recordFollows).store } := by
  apply State.ext <;> simp

@[simp] theorem State.lineFollows_pending : (s.lineFollows).pending = s.pending := by
  unfold State.lineFollows
  repeat' split
  all_goals simp
@[simp] theorem State.lineFollows_clock : (s.lineFollows).clock = s.clock := by
  unfold State.lineFollows
  repeat' split
  all_goals simp
@[simp] theorem State.lineFollows_powered : (s.lineFollows).powered = s.powered := by
  unfold State.lineFollows
  repeat' split
  all_goals simp
@[simp] theorem State.lineFollows_inputs : (s.lineFollows).inputs = s.inputs := by
  unfold State.lineFollows
  repeat' split
  all_goals simp
@[simp] theorem State.lineFollows_table : (s.lineFollows).table = s.table := by
  unfold State.lineFollows
  repeat' split
  all_goals simp
@[simp] theorem State.lineFollows_angle : (s.lineFollows).angle = s.angle := by
  unfold State.lineFollows
  repeat' split
  all_goals simp
@[simp] theorem State.lineFollows_engine : (s.lineFollows).engine = s.engine := by
  unfold State.lineFollows
  repeat' split
  all_goals simp
@[simp] theorem State.lineFollows_run : (s.lineFollows).run = s.run := by
  unfold State.lineFollows
  repeat' split
  all_goals simp
@[simp] theorem State.lineFollows_sectors : (s.lineFollows).sectors = s.sectors := by
  unfold State.lineFollows
  repeat' split
  all_goals simp
@[simp] theorem State.lineFollows_watch : (s.lineFollows).watch = s.watch := by
  unfold State.lineFollows
  repeat' split
  all_goals simp
@[simp] theorem State.lineFollows_faults : (s.lineFollows).faults = s.faults := by
  unfold State.lineFollows
  repeat' split
  all_goals simp
@[simp] theorem State.lineFollows_store : (s.lineFollows).store = s.store := by
  unfold State.lineFollows
  repeat' split
  all_goals simp

/-- `lineFollows` touches nothing but span, panel. -/
theorem State.lineFollows_frame :
    s.lineFollows = { s with span := (s.lineFollows).span, panel := (s.lineFollows).panel } := by
  apply State.ext <;> simp

@[simp] theorem State.angleFollows_pending : (s.angleFollows).pending = s.pending := by
  unfold State.angleFollows; dsimp only; split <;> rfl
@[simp] theorem State.angleFollows_clock : (s.angleFollows).clock = s.clock := by
  unfold State.angleFollows; dsimp only; split <;> rfl
@[simp] theorem State.angleFollows_powered : (s.angleFollows).powered = s.powered := by
  unfold State.angleFollows; dsimp only; split <;> rfl
@[simp] theorem State.angleFollows_inputs : (s.angleFollows).inputs = s.inputs := by
  unfold State.angleFollows; dsimp only; split <;> rfl
@[simp] theorem State.angleFollows_table : (s.angleFollows).table = s.table := by
  unfold State.angleFollows; dsimp only; split <;> rfl
@[simp] theorem State.angleFollows_engine : (s.angleFollows).engine = s.engine := by
  unfold State.angleFollows; dsimp only; split <;> rfl
@[simp] theorem State.angleFollows_span : (s.angleFollows).span = s.span := by
  unfold State.angleFollows; dsimp only; split <;> rfl
@[simp] theorem State.angleFollows_run : (s.angleFollows).run = s.run := by
  unfold State.angleFollows; dsimp only; split <;> rfl
@[simp] theorem State.angleFollows_sectors : (s.angleFollows).sectors = s.sectors := by
  unfold State.angleFollows; dsimp only; split <;> rfl
@[simp] theorem State.angleFollows_watch : (s.angleFollows).watch = s.watch := by
  unfold State.angleFollows; dsimp only; split <;> rfl
@[simp] theorem State.angleFollows_faults : (s.angleFollows).faults = s.faults := by
  unfold State.angleFollows; dsimp only; split <;> rfl
@[simp] theorem State.angleFollows_panel : (s.angleFollows).panel = s.panel := by
  unfold State.angleFollows; dsimp only; split <;> rfl
@[simp] theorem State.angleFollows_store : (s.angleFollows).store = s.store := by
  unfold State.angleFollows; dsimp only; split <;> rfl

/-- `angleFollows` touches nothing but angle. -/
theorem State.angleFollows_frame :
    s.angleFollows = { s with angle := (s.angleFollows).angle } := by
  apply State.ext <;> simp

@[simp] theorem State.levelsFollow_pending (was : MState) : (s.levelsFollow was).pending = s.pending := by
  unfold State.levelsFollow; split <;> rfl
@[simp] theorem State.levelsFollow_clock (was : MState) : (s.levelsFollow was).clock = s.clock := by
  unfold State.levelsFollow; split <;> rfl
@[simp] theorem State.levelsFollow_powered (was : MState) : (s.levelsFollow was).powered = s.powered := by
  unfold State.levelsFollow; split <;> rfl
@[simp] theorem State.levelsFollow_inputs (was : MState) : (s.levelsFollow was).inputs = s.inputs := by
  unfold State.levelsFollow; split <;> rfl
@[simp] theorem State.levelsFollow_table (was : MState) : (s.levelsFollow was).table = s.table := by
  unfold State.levelsFollow; split <;> rfl
@[simp] theorem State.levelsFollow_angle (was : MState) : (s.levelsFollow was).angle = s.angle := by
  unfold State.levelsFollow; split <;> rfl
@[simp] theorem State.levelsFollow_engine (was : MState) : (s.levelsFollow was).engine = s.engine := by
  unfold State.levelsFollow; split <;> rfl
@[simp] theorem State.levelsFollow_span (was : MState) : (s.levelsFollow was).span = s.span := by
  unfold State.levelsFollow; split <;> rfl
@[simp] theorem State.levelsFollow_run (was : MState) : (s.levelsFollow was).run = s.run := by
  unfold State.levelsFollow; split <;> rfl
@[simp] theorem State.levelsFollow_sectors (was : MState) : (s.levelsFollow was).sectors = s.sectors := by
  unfold State.levelsFollow; split <;> rfl
@[simp] theorem State.levelsFollow_faults (was : MState) : (s.levelsFollow was).faults = s.faults := by
  unfold State.levelsFollow; split <;> rfl
@[simp] theorem State.levelsFollow_panel (was : MState) : (s.levelsFollow was).panel = s.panel := by
  unfold State.levelsFollow; split <;> rfl
@[simp] theorem State.levelsFollow_store (was : MState) : (s.levelsFollow was).store = s.store := by
  unfold State.levelsFollow; split <;> rfl

/-- `levelsFollow` touches nothing but watch. -/
theorem State.levelsFollow_frame (was : MState) :
    s.levelsFollow was = { s with watch := (s.levelsFollow was).watch } := by
  apply State.ext <;> simp

@[simp] theorem State.marksFollow_pending : (s.marksFollow).pending = s.pending := by
  unfold State.marksFollow; split <;> rfl
@[simp] theorem State.marksFollow_clock : (s.marksFollow).clock = s.clock := by
  unfold State.marksFollow; split <;> rfl
@[simp] theorem State.marksFollow_powered : (s.marksFollow).powered = s.powered := by
  unfold State.marksFollow; split <;> rfl
@[simp] theorem State.marksFollow_inputs : (s.marksFollow).inputs = s.inputs := by
  unfold State.marksFollow; split <;> rfl
@[simp] theorem State.marksFollow_table : (s.marksFollow).table = s.table := by
  unfold State.marksFollow; split <;> rfl
@[simp] theorem State.marksFollow_angle : (s.marksFollow).angle = s.angle := by
  unfold State.marksFollow; split <;> rfl
@[simp] theorem State.marksFollow_engine : (s.marksFollow).engine = s.engine := by
  unfold State.marksFollow; split <;> rfl
@[simp] theorem State.marksFollow_span : (s.marksFollow).span = s.span := by
  unfold State.marksFollow; split <;> rfl
@[simp] theorem State.marksFollow_run : (s.marksFollow).run = s.run := by
  unfold State.marksFollow; split <;> rfl
@[simp] theorem State.marksFollow_watch : (s.marksFollow).watch = s.watch := by
  unfold State.marksFollow; split <;> rfl
@[simp] theorem State.marksFollow_faults : (s.marksFollow).faults = s.faults := by
  unfold State.marksFollow; split <;> rfl
@[simp] theorem State.marksFollow_panel : (s.marksFollow).panel = s.panel := by
  unfold State.marksFollow; split <;> rfl
@[simp] theorem State.marksFollow_store : (s.marksFollow).store = s.store := by
  unfold State.marksFollow; split <;> rfl

/-- `marksFollow` touches nothing but sectors. -/
theorem State.marksFollow_frame :
    s.marksFollow = { s with sectors := (s.marksFollow).sectors } := by
  apply State.ext <;> simp

@[simp] theorem State.enterWith_pending (announce : Bool) (m : MState) (dest : Option Destination) (reason : Option PassEnd)
    (origin : Option Origin) :
    (s.enterWith announce m dest reason origin).pending = s.pending := by
  unfold State.enterWith
  dsimp only
  repeat' split
  all_goals simp
@[simp] theorem State.enterWith_clock (announce : Bool) (m : MState) (dest : Option Destination) (reason : Option PassEnd)
    (origin : Option Origin) :
    (s.enterWith announce m dest reason origin).clock = s.clock := by
  unfold State.enterWith
  dsimp only
  repeat' split
  all_goals simp
@[simp] theorem State.enterWith_powered (announce : Bool) (m : MState) (dest : Option Destination) (reason : Option PassEnd)
    (origin : Option Origin) :
    (s.enterWith announce m dest reason origin).powered = s.powered := by
  unfold State.enterWith
  dsimp only
  repeat' split
  all_goals simp
@[simp] theorem State.enterWith_inputs (announce : Bool) (m : MState) (dest : Option Destination) (reason : Option PassEnd)
    (origin : Option Origin) :
    (s.enterWith announce m dest reason origin).inputs = s.inputs := by
  unfold State.enterWith
  dsimp only
  repeat' split
  all_goals simp
@[simp] theorem State.enterWith_table (announce : Bool) (m : MState) (dest : Option Destination) (reason : Option PassEnd)
    (origin : Option Origin) :
    (s.enterWith announce m dest reason origin).table = s.table := by
  unfold State.enterWith
  dsimp only
  repeat' split
  all_goals simp
@[simp] theorem State.enterWith_engine (announce : Bool) (m : MState) (dest : Option Destination) (reason : Option PassEnd)
    (origin : Option Origin) :
    (s.enterWith announce m dest reason origin).engine = s.engine := by
  unfold State.enterWith
  dsimp only
  repeat' split
  all_goals simp
@[simp] theorem State.enterWith_faults (announce : Bool) (m : MState) (dest : Option Destination) (reason : Option PassEnd)
    (origin : Option Origin) :
    (s.enterWith announce m dest reason origin).faults = s.faults := by
  unfold State.enterWith
  dsimp only
  repeat' split
  all_goals simp

/-- `enterWith` touches nothing but angle, span, run, sectors, watch, panel, store. -/
theorem State.enterWith_frame (announce : Bool) (m : MState) (dest : Option Destination) (reason : Option PassEnd)
    (origin : Option Origin) :
    s.enterWith announce m dest reason origin = { s with angle := (s.enterWith announce m dest reason origin).angle, span := (s.enterWith announce m dest reason origin).span, run := (s.enterWith announce m dest reason origin).run, sectors := (s.enterWith announce m dest reason origin).sectors, watch := (s.enterWith announce m dest reason origin).watch, panel := (s.enterWith announce m dest reason origin).panel, store := (s.enterWith announce m dest reason origin).store } := by
  apply State.ext <;> simp

@[simp] theorem State.enter_pending (m : MState) (dest : Option Destination) (reason : Option PassEnd) (origin : Option Origin) :
    (s.enter m dest reason origin).pending = s.pending := by simp [State.enter]
@[simp] theorem State.enter_clock (m : MState) (dest : Option Destination) (reason : Option PassEnd) (origin : Option Origin) :
    (s.enter m dest reason origin).clock = s.clock := by simp [State.enter]
@[simp] theorem State.enter_powered (m : MState) (dest : Option Destination) (reason : Option PassEnd) (origin : Option Origin) :
    (s.enter m dest reason origin).powered = s.powered := by simp [State.enter]
@[simp] theorem State.enter_inputs (m : MState) (dest : Option Destination) (reason : Option PassEnd) (origin : Option Origin) :
    (s.enter m dest reason origin).inputs = s.inputs := by simp [State.enter]
@[simp] theorem State.enter_table (m : MState) (dest : Option Destination) (reason : Option PassEnd) (origin : Option Origin) :
    (s.enter m dest reason origin).table = s.table := by simp [State.enter]
@[simp] theorem State.enter_engine (m : MState) (dest : Option Destination) (reason : Option PassEnd) (origin : Option Origin) :
    (s.enter m dest reason origin).engine = s.engine := by simp [State.enter]
@[simp] theorem State.enter_faults (m : MState) (dest : Option Destination) (reason : Option PassEnd) (origin : Option Origin) :
    (s.enter m dest reason origin).faults = s.faults := by simp [State.enter]

/-- `enter` touches nothing but angle, span, run, sectors, watch, panel, store. -/
theorem State.enter_frame (m : MState) (dest : Option Destination) (reason : Option PassEnd) (origin : Option Origin) :
    s.enter m dest reason origin = { s with angle := (s.enter m dest reason origin).angle, span := (s.enter m dest reason origin).span, run := (s.enter m dest reason origin).run, sectors := (s.enter m dest reason origin).sectors, watch := (s.enter m dest reason origin).watch, panel := (s.enter m dest reason origin).panel, store := (s.enter m dest reason origin).store } := by
  apply State.ext <;> simp

@[simp] theorem State.redirect_pending (dest : Destination) (reason : Option PassEnd) :
    (s.redirect dest reason).pending = s.pending := by simp [State.redirect]
@[simp] theorem State.redirect_clock (dest : Destination) (reason : Option PassEnd) :
    (s.redirect dest reason).clock = s.clock := by simp [State.redirect]
@[simp] theorem State.redirect_powered (dest : Destination) (reason : Option PassEnd) :
    (s.redirect dest reason).powered = s.powered := by simp [State.redirect]
@[simp] theorem State.redirect_inputs (dest : Destination) (reason : Option PassEnd) :
    (s.redirect dest reason).inputs = s.inputs := by simp [State.redirect]
@[simp] theorem State.redirect_table (dest : Destination) (reason : Option PassEnd) :
    (s.redirect dest reason).table = s.table := by simp [State.redirect]
@[simp] theorem State.redirect_angle (dest : Destination) (reason : Option PassEnd) :
    (s.redirect dest reason).angle = s.angle := by simp [State.redirect]
@[simp] theorem State.redirect_engine (dest : Destination) (reason : Option PassEnd) :
    (s.redirect dest reason).engine = s.engine := by simp [State.redirect]
@[simp] theorem State.redirect_span (dest : Destination) (reason : Option PassEnd) :
    (s.redirect dest reason).span = s.span := by simp [State.redirect]
@[simp] theorem State.redirect_sectors (dest : Destination) (reason : Option PassEnd) :
    (s.redirect dest reason).sectors = s.sectors := by simp [State.redirect]
@[simp] theorem State.redirect_watch (dest : Destination) (reason : Option PassEnd) :
    (s.redirect dest reason).watch = s.watch := by simp [State.redirect]
@[simp] theorem State.redirect_faults (dest : Destination) (reason : Option PassEnd) :
    (s.redirect dest reason).faults = s.faults := by simp [State.redirect]

/-- `redirect` touches nothing but run, panel, store. -/
theorem State.redirect_frame (dest : Destination) (reason : Option PassEnd) :
    s.redirect dest reason = { s with run := (s.redirect dest reason).run, panel := (s.redirect dest reason).panel, store := (s.redirect dest reason).store } := by
  apply State.ext <;> simp

@[simp] theorem State.endPass_pending (r : PassEnd) : (s.endPass r).pending = s.pending := by simp [State.endPass]
@[simp] theorem State.endPass_clock (r : PassEnd) : (s.endPass r).clock = s.clock := by simp [State.endPass]
@[simp] theorem State.endPass_powered (r : PassEnd) : (s.endPass r).powered = s.powered := by simp [State.endPass]
@[simp] theorem State.endPass_inputs (r : PassEnd) : (s.endPass r).inputs = s.inputs := by simp [State.endPass]
@[simp] theorem State.endPass_table (r : PassEnd) : (s.endPass r).table = s.table := by simp [State.endPass]
@[simp] theorem State.endPass_angle (r : PassEnd) : (s.endPass r).angle = s.angle := by simp [State.endPass]
@[simp] theorem State.endPass_engine (r : PassEnd) : (s.endPass r).engine = s.engine := by simp [State.endPass]
@[simp] theorem State.endPass_span (r : PassEnd) : (s.endPass r).span = s.span := by simp [State.endPass]
@[simp] theorem State.endPass_sectors (r : PassEnd) : (s.endPass r).sectors = s.sectors := by simp [State.endPass]
@[simp] theorem State.endPass_watch (r : PassEnd) : (s.endPass r).watch = s.watch := by simp [State.endPass]
@[simp] theorem State.endPass_faults (r : PassEnd) : (s.endPass r).faults = s.faults := by simp [State.endPass]
@[simp] theorem State.endPass_store (r : PassEnd) : (s.endPass r).store = s.store := by simp [State.endPass]

/-- `endPass` touches nothing but run, panel. -/
theorem State.endPass_frame (r : PassEnd) :
    s.endPass r = { s with run := (s.endPass r).run, panel := (s.endPass r).panel } := by
  apply State.ext <;> simp

@[simp] theorem State.prestartTest_pending : (s.prestartTest).pending = s.pending := by
  unfold State.prestartTest
  repeat' split
  all_goals simp
@[simp] theorem State.prestartTest_clock : (s.prestartTest).clock = s.clock := by
  unfold State.prestartTest
  repeat' split
  all_goals simp
@[simp] theorem State.prestartTest_powered : (s.prestartTest).powered = s.powered := by
  unfold State.prestartTest
  repeat' split
  all_goals simp
@[simp] theorem State.prestartTest_inputs : (s.prestartTest).inputs = s.inputs := by
  unfold State.prestartTest
  repeat' split
  all_goals simp
@[simp] theorem State.prestartTest_table : (s.prestartTest).table = s.table := by
  unfold State.prestartTest
  repeat' split
  all_goals simp
@[simp] theorem State.prestartTest_engine : (s.prestartTest).engine = s.engine := by
  unfold State.prestartTest
  repeat' split
  all_goals simp
@[simp] theorem State.prestartTest_faults : (s.prestartTest).faults = s.faults := by
  unfold State.prestartTest
  repeat' split
  all_goals simp

/-- `prestartTest` touches nothing but angle, span, run, sectors, watch, panel, store. -/
theorem State.prestartTest_frame :
    s.prestartTest = { s with angle := (s.prestartTest).angle, span := (s.prestartTest).span, run := (s.prestartTest).run, sectors := (s.prestartTest).sectors, watch := (s.prestartTest).watch, panel := (s.prestartTest).panel, store := (s.prestartTest).store } := by
  apply State.ext <;> simp

@[simp] theorem State.enterPrestart_pending (origin : Origin) : (s.enterPrestart origin).pending = s.pending := by simp [State.enterPrestart]
@[simp] theorem State.enterPrestart_clock (origin : Origin) : (s.enterPrestart origin).clock = s.clock := by simp [State.enterPrestart]
@[simp] theorem State.enterPrestart_powered (origin : Origin) : (s.enterPrestart origin).powered = s.powered := by simp [State.enterPrestart]
@[simp] theorem State.enterPrestart_inputs (origin : Origin) : (s.enterPrestart origin).inputs = s.inputs := by simp [State.enterPrestart]
@[simp] theorem State.enterPrestart_table (origin : Origin) : (s.enterPrestart origin).table = s.table := by simp [State.enterPrestart]
@[simp] theorem State.enterPrestart_engine (origin : Origin) : (s.enterPrestart origin).engine = s.engine := by simp [State.enterPrestart]
@[simp] theorem State.enterPrestart_faults (origin : Origin) : (s.enterPrestart origin).faults = s.faults := by simp [State.enterPrestart]

/-- `enterPrestart` touches nothing but angle, span, run, sectors, watch, panel, store. -/
theorem State.enterPrestart_frame (origin : Origin) :
    s.enterPrestart origin = { s with angle := (s.enterPrestart origin).angle, span := (s.enterPrestart origin).span, run := (s.enterPrestart origin).run, sectors := (s.enterPrestart origin).sectors, watch := (s.enterPrestart origin).watch, panel := (s.enterPrestart origin).panel, store := (s.enterPrestart origin).store } := by
  apply State.ext <;> simp

@[simp] theorem State.stoppingTest_pending : (s.stoppingTest).pending = s.pending := by
  unfold State.stoppingTest
  dsimp only
  repeat' split
  all_goals simp
@[simp] theorem State.stoppingTest_clock : (s.stoppingTest).clock = s.clock := by
  unfold State.stoppingTest
  dsimp only
  repeat' split
  all_goals simp
@[simp] theorem State.stoppingTest_powered : (s.stoppingTest).powered = s.powered := by
  unfold State.stoppingTest
  dsimp only
  repeat' split
  all_goals simp
@[simp] theorem State.stoppingTest_inputs : (s.stoppingTest).inputs = s.inputs := by
  unfold State.stoppingTest
  dsimp only
  repeat' split
  all_goals simp
@[simp] theorem State.stoppingTest_table : (s.stoppingTest).table = s.table := by
  unfold State.stoppingTest
  dsimp only
  repeat' split
  all_goals simp
@[simp] theorem State.stoppingTest_engine : (s.stoppingTest).engine = s.engine := by
  unfold State.stoppingTest
  dsimp only
  repeat' split
  all_goals simp
@[simp] theorem State.stoppingTest_faults : (s.stoppingTest).faults = s.faults := by
  unfold State.stoppingTest
  dsimp only
  repeat' split
  all_goals simp

/-- `stoppingTest` touches nothing but angle, span, run, sectors, watch, panel, store. -/
theorem State.stoppingTest_frame :
    s.stoppingTest = { s with angle := (s.stoppingTest).angle, span := (s.stoppingTest).span, run := (s.stoppingTest).run, sectors := (s.stoppingTest).sectors, watch := (s.stoppingTest).watch, panel := (s.stoppingTest).panel, store := (s.stoppingTest).store } := by
  apply State.ext <;> simp

@[simp] theorem State.enterStopping_pending (dest : Destination) (reason : Option PassEnd) :
    (s.enterStopping dest reason).pending = s.pending := by simp [State.enterStopping]
@[simp] theorem State.enterStopping_clock (dest : Destination) (reason : Option PassEnd) :
    (s.enterStopping dest reason).clock = s.clock := by simp [State.enterStopping]
@[simp] theorem State.enterStopping_powered (dest : Destination) (reason : Option PassEnd) :
    (s.enterStopping dest reason).powered = s.powered := by simp [State.enterStopping]
@[simp] theorem State.enterStopping_inputs (dest : Destination) (reason : Option PassEnd) :
    (s.enterStopping dest reason).inputs = s.inputs := by simp [State.enterStopping]
@[simp] theorem State.enterStopping_table (dest : Destination) (reason : Option PassEnd) :
    (s.enterStopping dest reason).table = s.table := by simp [State.enterStopping]
@[simp] theorem State.enterStopping_engine (dest : Destination) (reason : Option PassEnd) :
    (s.enterStopping dest reason).engine = s.engine := by simp [State.enterStopping]
@[simp] theorem State.enterStopping_faults (dest : Destination) (reason : Option PassEnd) :
    (s.enterStopping dest reason).faults = s.faults := by simp [State.enterStopping]

/-- `enterStopping` touches nothing but angle, span, run, sectors, watch, panel, store. -/
theorem State.enterStopping_frame (dest : Destination) (reason : Option PassEnd) :
    s.enterStopping dest reason = { s with angle := (s.enterStopping dest reason).angle, span := (s.enterStopping dest reason).span, run := (s.enterStopping dest reason).run, sectors := (s.enterStopping dest reason).sectors, watch := (s.enterStopping dest reason).watch, panel := (s.enterStopping dest reason).panel, store := (s.enterStopping dest reason).store } := by
  apply State.ext <;> simp

@[simp] theorem State.holdRequest_pending : (s.holdRequest).pending = s.pending := by
  unfold State.holdRequest
  repeat' split
  all_goals simp
@[simp] theorem State.holdRequest_clock : (s.holdRequest).clock = s.clock := by
  unfold State.holdRequest
  repeat' split
  all_goals simp
@[simp] theorem State.holdRequest_powered : (s.holdRequest).powered = s.powered := by
  unfold State.holdRequest
  repeat' split
  all_goals simp
@[simp] theorem State.holdRequest_inputs : (s.holdRequest).inputs = s.inputs := by
  unfold State.holdRequest
  repeat' split
  all_goals simp
@[simp] theorem State.holdRequest_table : (s.holdRequest).table = s.table := by
  unfold State.holdRequest
  repeat' split
  all_goals simp
@[simp] theorem State.holdRequest_engine : (s.holdRequest).engine = s.engine := by
  unfold State.holdRequest
  repeat' split
  all_goals simp
@[simp] theorem State.holdRequest_faults : (s.holdRequest).faults = s.faults := by
  unfold State.holdRequest
  repeat' split
  all_goals simp

/-- `holdRequest` touches nothing but angle, span, run, sectors, watch, panel, store. -/
theorem State.holdRequest_frame :
    s.holdRequest = { s with angle := (s.holdRequest).angle, span := (s.holdRequest).span, run := (s.holdRequest).run, sectors := (s.holdRequest).sectors, watch := (s.holdRequest).watch, panel := (s.holdRequest).panel, store := (s.holdRequest).store } := by
  apply State.ext <;> simp

@[simp] theorem State.tripRequest_pending (k : FaultKind) : (s.tripRequest k).pending = s.pending := by
  unfold State.tripRequest
  repeat' split
  all_goals simp
@[simp] theorem State.tripRequest_clock (k : FaultKind) : (s.tripRequest k).clock = s.clock := by
  unfold State.tripRequest
  repeat' split
  all_goals simp
@[simp] theorem State.tripRequest_powered (k : FaultKind) : (s.tripRequest k).powered = s.powered := by
  unfold State.tripRequest
  repeat' split
  all_goals simp
@[simp] theorem State.tripRequest_inputs (k : FaultKind) : (s.tripRequest k).inputs = s.inputs := by
  unfold State.tripRequest
  repeat' split
  all_goals simp
@[simp] theorem State.tripRequest_engine (k : FaultKind) : (s.tripRequest k).engine = s.engine := by
  unfold State.tripRequest
  repeat' split
  all_goals simp
@[simp] theorem State.tripRequest_faults (k : FaultKind) : (s.tripRequest k).faults = s.faults := by
  unfold State.tripRequest
  repeat' split
  all_goals simp

/-- `tripRequest` touches nothing but table, angle, span, run, sectors, watch, panel, store. -/
theorem State.tripRequest_frame (k : FaultKind) :
    s.tripRequest k = { s with table := (s.tripRequest k).table, angle := (s.tripRequest k).angle, span := (s.tripRequest k).span, run := (s.tripRequest k).run, sectors := (s.tripRequest k).sectors, watch := (s.tripRequest k).watch, panel := (s.tripRequest k).panel, store := (s.tripRequest k).store } := by
  apply State.ext <;> simp

@[simp] theorem State.unfreeze_pending (r : FaultRecord) : (s.unfreeze r).pending = s.pending := by
  unfold State.unfreeze
  repeat' split
  all_goals rfl
@[simp] theorem State.unfreeze_clock (r : FaultRecord) : (s.unfreeze r).clock = s.clock := by
  unfold State.unfreeze
  repeat' split
  all_goals rfl
@[simp] theorem State.unfreeze_powered (r : FaultRecord) : (s.unfreeze r).powered = s.powered := by
  unfold State.unfreeze
  repeat' split
  all_goals rfl
@[simp] theorem State.unfreeze_inputs (r : FaultRecord) : (s.unfreeze r).inputs = s.inputs := by
  unfold State.unfreeze
  repeat' split
  all_goals rfl
@[simp] theorem State.unfreeze_angle (r : FaultRecord) : (s.unfreeze r).angle = s.angle := by
  unfold State.unfreeze
  repeat' split
  all_goals rfl
@[simp] theorem State.unfreeze_engine (r : FaultRecord) : (s.unfreeze r).engine = s.engine := by
  unfold State.unfreeze
  repeat' split
  all_goals rfl
@[simp] theorem State.unfreeze_span (r : FaultRecord) : (s.unfreeze r).span = s.span := by
  unfold State.unfreeze
  repeat' split
  all_goals rfl
@[simp] theorem State.unfreeze_run (r : FaultRecord) : (s.unfreeze r).run = s.run := by
  unfold State.unfreeze
  repeat' split
  all_goals rfl
@[simp] theorem State.unfreeze_sectors (r : FaultRecord) : (s.unfreeze r).sectors = s.sectors := by
  unfold State.unfreeze
  repeat' split
  all_goals rfl
@[simp] theorem State.unfreeze_watch (r : FaultRecord) : (s.unfreeze r).watch = s.watch := by
  unfold State.unfreeze
  repeat' split
  all_goals rfl
@[simp] theorem State.unfreeze_faults (r : FaultRecord) : (s.unfreeze r).faults = s.faults := by
  unfold State.unfreeze
  repeat' split
  all_goals rfl
@[simp] theorem State.unfreeze_panel (r : FaultRecord) : (s.unfreeze r).panel = s.panel := by
  unfold State.unfreeze
  repeat' split
  all_goals rfl
@[simp] theorem State.unfreeze_store (r : FaultRecord) : (s.unfreeze r).store = s.store := by
  unfold State.unfreeze
  repeat' split
  all_goals rfl

/-- `unfreeze` touches nothing but table. -/
theorem State.unfreeze_frame (r : FaultRecord) :
    s.unfreeze r = { s with table := (s.unfreeze r).table } := by
  apply State.ext <;> simp

@[simp] theorem State.removeRecords_pending (sel : FaultRecord → Bool) :
    (s.removeRecords sel).pending = s.pending := by
  unfold State.removeRecords
  have h : ∀ (l : List FaultRecord) (s : State), (l.foldl State.unfreeze s).pending = s.pending := by
    intro l
    induction l with
    | nil => intro s; rfl
    | cons r l ih => intro s; rw [List.foldl_cons, ih]; simp
  rw [h]
@[simp] theorem State.removeRecords_clock (sel : FaultRecord → Bool) : (s.removeRecords sel).clock = s.clock := by
  unfold State.removeRecords
  have h : ∀ (l : List FaultRecord) (s : State), (l.foldl State.unfreeze s).clock = s.clock := by
    intro l
    induction l with
    | nil => intro s; rfl
    | cons r l ih => intro s; rw [List.foldl_cons, ih]; simp
  rw [h]
@[simp] theorem State.removeRecords_powered (sel : FaultRecord → Bool) :
    (s.removeRecords sel).powered = s.powered := by
  unfold State.removeRecords
  have h : ∀ (l : List FaultRecord) (s : State), (l.foldl State.unfreeze s).powered = s.powered := by
    intro l
    induction l with
    | nil => intro s; rfl
    | cons r l ih => intro s; rw [List.foldl_cons, ih]; simp
  rw [h]
@[simp] theorem State.removeRecords_inputs (sel : FaultRecord → Bool) :
    (s.removeRecords sel).inputs = s.inputs := by
  unfold State.removeRecords
  have h : ∀ (l : List FaultRecord) (s : State), (l.foldl State.unfreeze s).inputs = s.inputs := by
    intro l
    induction l with
    | nil => intro s; rfl
    | cons r l ih => intro s; rw [List.foldl_cons, ih]; simp
  rw [h]
@[simp] theorem State.removeRecords_angle (sel : FaultRecord → Bool) : (s.removeRecords sel).angle = s.angle := by
  unfold State.removeRecords
  have h : ∀ (l : List FaultRecord) (s : State), (l.foldl State.unfreeze s).angle = s.angle := by
    intro l
    induction l with
    | nil => intro s; rfl
    | cons r l ih => intro s; rw [List.foldl_cons, ih]; simp
  rw [h]
@[simp] theorem State.removeRecords_engine (sel : FaultRecord → Bool) :
    (s.removeRecords sel).engine = s.engine := by
  unfold State.removeRecords
  have h : ∀ (l : List FaultRecord) (s : State), (l.foldl State.unfreeze s).engine = s.engine := by
    intro l
    induction l with
    | nil => intro s; rfl
    | cons r l ih => intro s; rw [List.foldl_cons, ih]; simp
  rw [h]
@[simp] theorem State.removeRecords_span (sel : FaultRecord → Bool) : (s.removeRecords sel).span = s.span := by
  unfold State.removeRecords
  have h : ∀ (l : List FaultRecord) (s : State), (l.foldl State.unfreeze s).span = s.span := by
    intro l
    induction l with
    | nil => intro s; rfl
    | cons r l ih => intro s; rw [List.foldl_cons, ih]; simp
  rw [h]
@[simp] theorem State.removeRecords_run (sel : FaultRecord → Bool) : (s.removeRecords sel).run = s.run := by
  unfold State.removeRecords
  have h : ∀ (l : List FaultRecord) (s : State), (l.foldl State.unfreeze s).run = s.run := by
    intro l
    induction l with
    | nil => intro s; rfl
    | cons r l ih => intro s; rw [List.foldl_cons, ih]; simp
  rw [h]
@[simp] theorem State.removeRecords_sectors (sel : FaultRecord → Bool) :
    (s.removeRecords sel).sectors = s.sectors := by
  unfold State.removeRecords
  have h : ∀ (l : List FaultRecord) (s : State), (l.foldl State.unfreeze s).sectors = s.sectors := by
    intro l
    induction l with
    | nil => intro s; rfl
    | cons r l ih => intro s; rw [List.foldl_cons, ih]; simp
  rw [h]
@[simp] theorem State.removeRecords_watch (sel : FaultRecord → Bool) : (s.removeRecords sel).watch = s.watch := by
  unfold State.removeRecords
  have h : ∀ (l : List FaultRecord) (s : State), (l.foldl State.unfreeze s).watch = s.watch := by
    intro l
    induction l with
    | nil => intro s; rfl
    | cons r l ih => intro s; rw [List.foldl_cons, ih]; simp
  rw [h]
@[simp] theorem State.removeRecords_panel (sel : FaultRecord → Bool) : (s.removeRecords sel).panel = s.panel := by
  unfold State.removeRecords
  have h : ∀ (l : List FaultRecord) (s : State), (l.foldl State.unfreeze s).panel = s.panel := by
    intro l
    induction l with
    | nil => intro s; rfl
    | cons r l ih => intro s; rw [List.foldl_cons, ih]; simp
  rw [h]
@[simp] theorem State.removeRecords_store (sel : FaultRecord → Bool) : (s.removeRecords sel).store = s.store := by
  unfold State.removeRecords
  have h : ∀ (l : List FaultRecord) (s : State), (l.foldl State.unfreeze s).store = s.store := by
    intro l
    induction l with
    | nil => intro s; rfl
    | cons r l ih => intro s; rw [List.foldl_cons, ih]; simp
  rw [h]

/-- `removeRecords` touches nothing but table, faults. -/
theorem State.removeRecords_frame (sel : FaultRecord → Bool) :
    s.removeRecords sel = { s with table := (s.removeRecords sel).table, faults := (s.removeRecords sel).faults } := by
  apply State.ext <;> simp

@[simp] theorem State.latch_pending (sel : FaultRecord → Bool) : (s.latch sel).pending = s.pending := rfl
@[simp] theorem State.latch_clock (sel : FaultRecord → Bool) : (s.latch sel).clock = s.clock := rfl
@[simp] theorem State.latch_powered (sel : FaultRecord → Bool) : (s.latch sel).powered = s.powered := rfl
@[simp] theorem State.latch_inputs (sel : FaultRecord → Bool) : (s.latch sel).inputs = s.inputs := rfl
@[simp] theorem State.latch_table (sel : FaultRecord → Bool) : (s.latch sel).table = s.table := rfl
@[simp] theorem State.latch_angle (sel : FaultRecord → Bool) : (s.latch sel).angle = s.angle := rfl
@[simp] theorem State.latch_engine (sel : FaultRecord → Bool) : (s.latch sel).engine = s.engine := rfl
@[simp] theorem State.latch_span (sel : FaultRecord → Bool) : (s.latch sel).span = s.span := rfl
@[simp] theorem State.latch_run (sel : FaultRecord → Bool) : (s.latch sel).run = s.run := rfl
@[simp] theorem State.latch_sectors (sel : FaultRecord → Bool) : (s.latch sel).sectors = s.sectors := rfl
@[simp] theorem State.latch_watch (sel : FaultRecord → Bool) : (s.latch sel).watch = s.watch := rfl
@[simp] theorem State.latch_panel (sel : FaultRecord → Bool) : (s.latch sel).panel = s.panel := rfl
@[simp] theorem State.latch_store (sel : FaultRecord → Bool) : (s.latch sel).store = s.store := rfl

/-- `latch` touches nothing but faults. -/
theorem State.latch_frame (sel : FaultRecord → Bool) :
    s.latch sel = { s with faults := (s.latch sel).faults } := rfl

@[simp] theorem State.latchKind_pending (k : FaultKind) (t : Option Nat) :
    (s.latchKind k t).pending = s.pending := rfl
@[simp] theorem State.latchKind_clock (k : FaultKind) (t : Option Nat) : (s.latchKind k t).clock = s.clock := rfl
@[simp] theorem State.latchKind_powered (k : FaultKind) (t : Option Nat) :
    (s.latchKind k t).powered = s.powered := rfl
@[simp] theorem State.latchKind_inputs (k : FaultKind) (t : Option Nat) : (s.latchKind k t).inputs = s.inputs := rfl
@[simp] theorem State.latchKind_table (k : FaultKind) (t : Option Nat) : (s.latchKind k t).table = s.table := rfl
@[simp] theorem State.latchKind_angle (k : FaultKind) (t : Option Nat) : (s.latchKind k t).angle = s.angle := rfl
@[simp] theorem State.latchKind_engine (k : FaultKind) (t : Option Nat) : (s.latchKind k t).engine = s.engine := rfl
@[simp] theorem State.latchKind_span (k : FaultKind) (t : Option Nat) : (s.latchKind k t).span = s.span := rfl
@[simp] theorem State.latchKind_run (k : FaultKind) (t : Option Nat) : (s.latchKind k t).run = s.run := rfl
@[simp] theorem State.latchKind_sectors (k : FaultKind) (t : Option Nat) :
    (s.latchKind k t).sectors = s.sectors := rfl
@[simp] theorem State.latchKind_watch (k : FaultKind) (t : Option Nat) : (s.latchKind k t).watch = s.watch := rfl
@[simp] theorem State.latchKind_panel (k : FaultKind) (t : Option Nat) : (s.latchKind k t).panel = s.panel := rfl
@[simp] theorem State.latchKind_store (k : FaultKind) (t : Option Nat) : (s.latchKind k t).store = s.store := rfl

/-- `latchKind` touches nothing but faults. -/
theorem State.latchKind_frame (k : FaultKind) (t : Option Nat) :
    s.latchKind k t = { s with faults := (s.latchKind k t).faults } := rfl

@[simp] theorem State.freezeSlip_pending (k : FaultKind) (t : Option Nat) (r : Raising) :
    (s.freezeSlip k t r).pending = s.pending := by
  unfold State.freezeSlip
  repeat' split
  all_goals rfl
@[simp] theorem State.freezeSlip_clock (k : FaultKind) (t : Option Nat) (r : Raising) :
    (s.freezeSlip k t r).clock = s.clock := by
  unfold State.freezeSlip
  repeat' split
  all_goals rfl
@[simp] theorem State.freezeSlip_powered (k : FaultKind) (t : Option Nat) (r : Raising) :
    (s.freezeSlip k t r).powered = s.powered := by
  unfold State.freezeSlip
  repeat' split
  all_goals rfl
@[simp] theorem State.freezeSlip_inputs (k : FaultKind) (t : Option Nat) (r : Raising) :
    (s.freezeSlip k t r).inputs = s.inputs := by
  unfold State.freezeSlip
  repeat' split
  all_goals rfl
@[simp] theorem State.freezeSlip_angle (k : FaultKind) (t : Option Nat) (r : Raising) :
    (s.freezeSlip k t r).angle = s.angle := by
  unfold State.freezeSlip
  repeat' split
  all_goals rfl
@[simp] theorem State.freezeSlip_engine (k : FaultKind) (t : Option Nat) (r : Raising) :
    (s.freezeSlip k t r).engine = s.engine := by
  unfold State.freezeSlip
  repeat' split
  all_goals rfl
@[simp] theorem State.freezeSlip_span (k : FaultKind) (t : Option Nat) (r : Raising) :
    (s.freezeSlip k t r).span = s.span := by
  unfold State.freezeSlip
  repeat' split
  all_goals rfl
@[simp] theorem State.freezeSlip_run (k : FaultKind) (t : Option Nat) (r : Raising) :
    (s.freezeSlip k t r).run = s.run := by
  unfold State.freezeSlip
  repeat' split
  all_goals rfl
@[simp] theorem State.freezeSlip_sectors (k : FaultKind) (t : Option Nat) (r : Raising) :
    (s.freezeSlip k t r).sectors = s.sectors := by
  unfold State.freezeSlip
  repeat' split
  all_goals rfl
@[simp] theorem State.freezeSlip_watch (k : FaultKind) (t : Option Nat) (r : Raising) :
    (s.freezeSlip k t r).watch = s.watch := by
  unfold State.freezeSlip
  repeat' split
  all_goals rfl
@[simp] theorem State.freezeSlip_faults (k : FaultKind) (t : Option Nat) (r : Raising) :
    (s.freezeSlip k t r).faults = s.faults := by
  unfold State.freezeSlip
  repeat' split
  all_goals rfl
@[simp] theorem State.freezeSlip_panel (k : FaultKind) (t : Option Nat) (r : Raising) :
    (s.freezeSlip k t r).panel = s.panel := by
  unfold State.freezeSlip
  repeat' split
  all_goals rfl
@[simp] theorem State.freezeSlip_store (k : FaultKind) (t : Option Nat) (r : Raising) :
    (s.freezeSlip k t r).store = s.store := by
  unfold State.freezeSlip
  repeat' split
  all_goals rfl

/-- `freezeSlip` touches nothing but table. -/
theorem State.freezeSlip_frame (k : FaultKind) (t : Option Nat) (r : Raising) :
    s.freezeSlip k t r = { s with table := (s.freezeSlip k t r).table } := by
  apply State.ext <;> simp

@[simp] theorem State.actOnRaising_pending (k : FaultKind) (r : Raising) :
    (s.actOnRaising k r).pending = s.pending := by
  unfold State.actOnRaising
  repeat' split
  all_goals simp
@[simp] theorem State.actOnRaising_clock (k : FaultKind) (r : Raising) : (s.actOnRaising k r).clock = s.clock := by
  unfold State.actOnRaising
  repeat' split
  all_goals simp
@[simp] theorem State.actOnRaising_powered (k : FaultKind) (r : Raising) :
    (s.actOnRaising k r).powered = s.powered := by
  unfold State.actOnRaising
  repeat' split
  all_goals simp
@[simp] theorem State.actOnRaising_inputs (k : FaultKind) (r : Raising) :
    (s.actOnRaising k r).inputs = s.inputs := by
  unfold State.actOnRaising
  repeat' split
  all_goals simp
@[simp] theorem State.actOnRaising_engine (k : FaultKind) (r : Raising) :
    (s.actOnRaising k r).engine = s.engine := by
  unfold State.actOnRaising
  repeat' split
  all_goals simp
@[simp] theorem State.actOnRaising_faults (k : FaultKind) (r : Raising) :
    (s.actOnRaising k r).faults = s.faults := by
  unfold State.actOnRaising
  repeat' split
  all_goals simp

/-- `actOnRaising` touches nothing but table, angle, span, run, sectors, watch, panel, store. -/
theorem State.actOnRaising_frame (k : FaultKind) (r : Raising) :
    s.actOnRaising k r = { s with table := (s.actOnRaising k r).table, angle := (s.actOnRaising k r).angle, span := (s.actOnRaising k r).span, run := (s.actOnRaising k r).run, sectors := (s.actOnRaising k r).sectors, watch := (s.actOnRaising k r).watch, panel := (s.actOnRaising k r).panel, store := (s.actOnRaising k r).store } := by
  apply State.ext <;> simp

@[simp] theorem State.recordRaising_pending (k : FaultKind) (t : Option Nat) :
    ((s.recordRaising k t).1).pending = s.pending := by
  unfold State.recordRaising
  dsimp only
  repeat' split
  all_goals simp
@[simp] theorem State.recordRaising_clock (k : FaultKind) (t : Option Nat) :
    ((s.recordRaising k t).1).clock = s.clock := by
  unfold State.recordRaising
  dsimp only
  repeat' split
  all_goals simp
@[simp] theorem State.recordRaising_powered (k : FaultKind) (t : Option Nat) :
    ((s.recordRaising k t).1).powered = s.powered := by
  unfold State.recordRaising
  dsimp only
  repeat' split
  all_goals simp
@[simp] theorem State.recordRaising_inputs (k : FaultKind) (t : Option Nat) :
    ((s.recordRaising k t).1).inputs = s.inputs := by
  unfold State.recordRaising
  dsimp only
  repeat' split
  all_goals simp
@[simp] theorem State.recordRaising_angle (k : FaultKind) (t : Option Nat) :
    ((s.recordRaising k t).1).angle = s.angle := by
  unfold State.recordRaising
  dsimp only
  repeat' split
  all_goals simp
@[simp] theorem State.recordRaising_engine (k : FaultKind) (t : Option Nat) :
    ((s.recordRaising k t).1).engine = s.engine := by
  unfold State.recordRaising
  dsimp only
  repeat' split
  all_goals simp
@[simp] theorem State.recordRaising_span (k : FaultKind) (t : Option Nat) :
    ((s.recordRaising k t).1).span = s.span := by
  unfold State.recordRaising
  dsimp only
  repeat' split
  all_goals simp
@[simp] theorem State.recordRaising_run (k : FaultKind) (t : Option Nat) :
    ((s.recordRaising k t).1).run = s.run := by
  unfold State.recordRaising
  dsimp only
  repeat' split
  all_goals simp
@[simp] theorem State.recordRaising_sectors (k : FaultKind) (t : Option Nat) :
    ((s.recordRaising k t).1).sectors = s.sectors := by
  unfold State.recordRaising
  dsimp only
  repeat' split
  all_goals simp
@[simp] theorem State.recordRaising_watch (k : FaultKind) (t : Option Nat) :
    ((s.recordRaising k t).1).watch = s.watch := by
  unfold State.recordRaising
  dsimp only
  repeat' split
  all_goals simp
@[simp] theorem State.recordRaising_panel (k : FaultKind) (t : Option Nat) :
    ((s.recordRaising k t).1).panel = s.panel := by
  unfold State.recordRaising
  dsimp only
  repeat' split
  all_goals simp
@[simp] theorem State.recordRaising_store (k : FaultKind) (t : Option Nat) :
    ((s.recordRaising k t).1).store = s.store := by
  unfold State.recordRaising
  dsimp only
  repeat' split
  all_goals simp

/-- `recordRaising` touches nothing but table, faults. -/
theorem State.recordRaising_frame (k : FaultKind) (t : Option Nat) :
    (s.recordRaising k t).1 = { s with table := ((s.recordRaising k t).1).table, faults := ((s.recordRaising k t).1).faults } := by
  apply State.ext <;> simp

@[simp] theorem State.raise_pending (k : FaultKind) (t : Option Nat) : (s.raise k t).pending = s.pending := by simp [State.raise]
@[simp] theorem State.raise_clock (k : FaultKind) (t : Option Nat) : (s.raise k t).clock = s.clock := by simp [State.raise]
@[simp] theorem State.raise_powered (k : FaultKind) (t : Option Nat) : (s.raise k t).powered = s.powered := by simp [State.raise]
@[simp] theorem State.raise_inputs (k : FaultKind) (t : Option Nat) : (s.raise k t).inputs = s.inputs := by simp [State.raise]
@[simp] theorem State.raise_engine (k : FaultKind) (t : Option Nat) : (s.raise k t).engine = s.engine := by simp [State.raise]

/-- `raise` touches nothing but table, angle, span, run, sectors, watch, faults, panel, store. -/
theorem State.raise_frame (k : FaultKind) (t : Option Nat) :
    s.raise k t = { s with table := (s.raise k t).table, angle := (s.raise k t).angle, span := (s.raise k t).span, run := (s.raise k t).run, sectors := (s.raise k t).sectors, watch := (s.raise k t).watch, faults := (s.raise k t).faults, panel := (s.raise k t).panel, store := (s.raise k t).store } := by
  apply State.ext <;> simp

@[simp] theorem State.chainClears_pending : (s.chainClears).pending = s.pending := by
  unfold State.chainClears
  repeat' split
  all_goals simp
@[simp] theorem State.chainClears_clock : (s.chainClears).clock = s.clock := by
  unfold State.chainClears
  repeat' split
  all_goals simp
@[simp] theorem State.chainClears_powered : (s.chainClears).powered = s.powered := by
  unfold State.chainClears
  repeat' split
  all_goals simp
@[simp] theorem State.chainClears_inputs : (s.chainClears).inputs = s.inputs := by
  unfold State.chainClears
  repeat' split
  all_goals simp
@[simp] theorem State.chainClears_table : (s.chainClears).table = s.table := by
  unfold State.chainClears
  repeat' split
  all_goals simp
@[simp] theorem State.chainClears_angle : (s.chainClears).angle = s.angle := by
  unfold State.chainClears
  repeat' split
  all_goals simp
@[simp] theorem State.chainClears_engine : (s.chainClears).engine = s.engine := by
  unfold State.chainClears
  repeat' split
  all_goals simp
@[simp] theorem State.chainClears_span : (s.chainClears).span = s.span := by
  unfold State.chainClears
  repeat' split
  all_goals simp
@[simp] theorem State.chainClears_run : (s.chainClears).run = s.run := by
  unfold State.chainClears
  repeat' split
  all_goals simp
@[simp] theorem State.chainClears_sectors : (s.chainClears).sectors = s.sectors := by
  unfold State.chainClears
  repeat' split
  all_goals simp
@[simp] theorem State.chainClears_watch : (s.chainClears).watch = s.watch := by
  unfold State.chainClears
  repeat' split
  all_goals simp
@[simp] theorem State.chainClears_panel : (s.chainClears).panel = s.panel := by
  unfold State.chainClears
  repeat' split
  all_goals simp
@[simp] theorem State.chainClears_store : (s.chainClears).store = s.store := by
  unfold State.chainClears
  repeat' split
  all_goals simp

/-- `chainClears` touches nothing but faults. -/
theorem State.chainClears_frame :
    s.chainClears = { s with faults := (s.chainClears).faults } := by
  apply State.ext <;> simp

end Sys2Proof.Machine
end

