-- ==== Sys2Proof/Laws/Blocks.lean ====
section
/-! SUPPORT. What the operations of the single blocks leave alone, in the form of Laws/State.lean: for each operation, one simp
lemma for each field of the state that it does not touch, and one lemma `…_frame`. -/

namespace Sys2Proof.Machine

variable (s : State)

@[simp] theorem State.wakePanel_pending : (s.wakePanel).pending = s.pending := rfl
@[simp] theorem State.wakePanel_clock : (s.wakePanel).clock = s.clock := rfl
@[simp] theorem State.wakePanel_powered : (s.wakePanel).powered = s.powered := rfl
@[simp] theorem State.wakePanel_inputs : (s.wakePanel).inputs = s.inputs := rfl
@[simp] theorem State.wakePanel_table : (s.wakePanel).table = s.table := rfl
@[simp] theorem State.wakePanel_angle : (s.wakePanel).angle = s.angle := rfl
@[simp] theorem State.wakePanel_engine : (s.wakePanel).engine = s.engine := rfl
@[simp] theorem State.wakePanel_span : (s.wakePanel).span = s.span := rfl
@[simp] theorem State.wakePanel_run : (s.wakePanel).run = s.run := rfl
@[simp] theorem State.wakePanel_sectors : (s.wakePanel).sectors = s.sectors := rfl
@[simp] theorem State.wakePanel_watch : (s.wakePanel).watch = s.watch := rfl
@[simp] theorem State.wakePanel_faults : (s.wakePanel).faults = s.faults := rfl
@[simp] theorem State.wakePanel_store : (s.wakePanel).store = s.store := rfl

/-- `wakePanel` touches nothing but panel. -/
theorem State.wakePanel_frame :
    s.wakePanel = { s with panel := (s.wakePanel).panel } := rfl

@[simp] theorem State.noteTaken_pending (r : Request) : (s.noteTaken r).pending = s.pending := by
  unfold State.noteTaken
  dsimp only
  repeat' split
  all_goals simp
@[simp] theorem State.noteTaken_clock (r : Request) : (s.noteTaken r).clock = s.clock := by
  unfold State.noteTaken
  dsimp only
  repeat' split
  all_goals simp
@[simp] theorem State.noteTaken_powered (r : Request) : (s.noteTaken r).powered = s.powered := by
  unfold State.noteTaken
  dsimp only
  repeat' split
  all_goals simp
@[simp] theorem State.noteTaken_inputs (r : Request) : (s.noteTaken r).inputs = s.inputs := by
  unfold State.noteTaken
  dsimp only
  repeat' split
  all_goals simp
@[simp] theorem State.noteTaken_table (r : Request) : (s.noteTaken r).table = s.table := by
  unfold State.noteTaken
  dsimp only
  repeat' split
  all_goals simp
@[simp] theorem State.noteTaken_angle (r : Request) : (s.noteTaken r).angle = s.angle := by
  unfold State.noteTaken
  dsimp only
  repeat' split
  all_goals simp
@[simp] theorem State.noteTaken_engine (r : Request) : (s.noteTaken r).engine = s.engine := by
  unfold State.noteTaken
  dsimp only
  repeat' split
  all_goals simp
@[simp] theorem State.noteTaken_run (r : Request) : (s.noteTaken r).run = s.run := by
  unfold State.noteTaken
  dsimp only
  repeat' split
  all_goals simp
@[simp] theorem State.noteTaken_sectors (r : Request) : (s.noteTaken r).sectors = s.sectors := by
  unfold State.noteTaken
  dsimp only
  repeat' split
  all_goals simp
@[simp] theorem State.noteTaken_watch (r : Request) : (s.noteTaken r).watch = s.watch := by
  unfold State.noteTaken
  dsimp only
  repeat' split
  all_goals simp
@[simp] theorem State.noteTaken_store (r : Request) : (s.noteTaken r).store = s.store := by
  unfold State.noteTaken
  dsimp only
  repeat' split
  all_goals simp

/-- `noteTaken` touches nothing but span, faults, panel. -/
theorem State.noteTaken_frame (r : Request) :
    s.noteTaken r = { s with span := (s.noteTaken r).span, faults := (s.noteTaken r).faults, panel := (s.noteTaken r).panel } := by
  apply State.ext <;> simp

@[simp] theorem State.heard_pending (r : Request) : (s.heard r).pending = s.pending := by simp [State.heard]
@[simp] theorem State.heard_clock (r : Request) : (s.heard r).clock = s.clock := by simp [State.heard]
@[simp] theorem State.heard_powered (r : Request) : (s.heard r).powered = s.powered := by simp [State.heard]
@[simp] theorem State.heard_inputs (r : Request) : (s.heard r).inputs = s.inputs := by simp [State.heard]
@[simp] theorem State.heard_table (r : Request) : (s.heard r).table = s.table := by simp [State.heard]
@[simp] theorem State.heard_angle (r : Request) : (s.heard r).angle = s.angle := by simp [State.heard]
@[simp] theorem State.heard_engine (r : Request) : (s.heard r).engine = s.engine := by simp [State.heard]
@[simp] theorem State.heard_run (r : Request) : (s.heard r).run = s.run := by simp [State.heard]
@[simp] theorem State.heard_sectors (r : Request) : (s.heard r).sectors = s.sectors := by simp [State.heard]
@[simp] theorem State.heard_watch (r : Request) : (s.heard r).watch = s.watch := by simp [State.heard]
@[simp] theorem State.heard_store (r : Request) : (s.heard r).store = s.store := by simp [State.heard]

/-- `heard` touches nothing but span, faults, panel. -/
theorem State.heard_frame (r : Request) :
    s.heard r = { s with span := (s.heard r).span, faults := (s.heard r).faults, panel := (s.heard r).panel } := by
  apply State.ext <;> simp

@[simp] theorem State.replying_pending (type : Byte) (a : Answer) : (s.replying type a).pending = s.pending := rfl
@[simp] theorem State.replying_clock (type : Byte) (a : Answer) : (s.replying type a).clock = s.clock := rfl
@[simp] theorem State.replying_powered (type : Byte) (a : Answer) : (s.replying type a).powered = s.powered := rfl
@[simp] theorem State.replying_inputs (type : Byte) (a : Answer) : (s.replying type a).inputs = s.inputs := rfl
@[simp] theorem State.replying_table (type : Byte) (a : Answer) : (s.replying type a).table = s.table := rfl
@[simp] theorem State.replying_angle (type : Byte) (a : Answer) : (s.replying type a).angle = s.angle := rfl
@[simp] theorem State.replying_engine (type : Byte) (a : Answer) : (s.replying type a).engine = s.engine := rfl
@[simp] theorem State.replying_span (type : Byte) (a : Answer) : (s.replying type a).span = s.span := rfl
@[simp] theorem State.replying_run (type : Byte) (a : Answer) : (s.replying type a).run = s.run := rfl
@[simp] theorem State.replying_sectors (type : Byte) (a : Answer) : (s.replying type a).sectors = s.sectors := rfl
@[simp] theorem State.replying_watch (type : Byte) (a : Answer) : (s.replying type a).watch = s.watch := rfl
@[simp] theorem State.replying_faults (type : Byte) (a : Answer) : (s.replying type a).faults = s.faults := rfl
@[simp] theorem State.replying_store (type : Byte) (a : Answer) : (s.replying type a).store = s.store := rfl

/-- `replying` touches nothing but panel. -/
theorem State.replying_frame (type : Byte) (a : Answer) :
    s.replying type a = { s with panel := (s.replying type a).panel } := rfl

@[simp] theorem State.makeReady_pending (a : Answer) : (s.makeReady a).pending = s.pending := by
  unfold State.makeReady; split <;> rfl
@[simp] theorem State.makeReady_clock (a : Answer) : (s.makeReady a).clock = s.clock := by
  unfold State.makeReady; split <;> rfl
@[simp] theorem State.makeReady_powered (a : Answer) : (s.makeReady a).powered = s.powered := by
  unfold State.makeReady; split <;> rfl
@[simp] theorem State.makeReady_inputs (a : Answer) : (s.makeReady a).inputs = s.inputs := by
  unfold State.makeReady; split <;> rfl
@[simp] theorem State.makeReady_table (a : Answer) : (s.makeReady a).table = s.table := by
  unfold State.makeReady; split <;> rfl
@[simp] theorem State.makeReady_angle (a : Answer) : (s.makeReady a).angle = s.angle := by
  unfold State.makeReady; split <;> rfl
@[simp] theorem State.makeReady_engine (a : Answer) : (s.makeReady a).engine = s.engine := by
  unfold State.makeReady; split <;> rfl
@[simp] theorem State.makeReady_span (a : Answer) : (s.makeReady a).span = s.span := by
  unfold State.makeReady; split <;> rfl
@[simp] theorem State.makeReady_run (a : Answer) : (s.makeReady a).run = s.run := by
  unfold State.makeReady; split <;> rfl
@[simp] theorem State.makeReady_sectors (a : Answer) : (s.makeReady a).sectors = s.sectors := by
  unfold State.makeReady; split <;> rfl
@[simp] theorem State.makeReady_watch (a : Answer) : (s.makeReady a).watch = s.watch := by
  unfold State.makeReady; split <;> rfl
@[simp] theorem State.makeReady_faults (a : Answer) : (s.makeReady a).faults = s.faults := by
  unfold State.makeReady; split <;> rfl
@[simp] theorem State.makeReady_store (a : Answer) : (s.makeReady a).store = s.store := by
  unfold State.makeReady; split <;> rfl

/-- `makeReady` touches nothing but panel. -/
theorem State.makeReady_frame (a : Answer) :
    s.makeReady a = { s with panel := (s.makeReady a).panel } := by
  apply State.ext <;> simp

@[simp] theorem State.setAuxLevel_pending (n : Nat) (level : Bool) :
    (s.setAuxLevel n level).pending = s.pending := rfl
@[simp] theorem State.setAuxLevel_clock (n : Nat) (level : Bool) : (s.setAuxLevel n level).clock = s.clock := rfl
@[simp] theorem State.setAuxLevel_powered (n : Nat) (level : Bool) :
    (s.setAuxLevel n level).powered = s.powered := rfl
@[simp] theorem State.setAuxLevel_inputs (n : Nat) (level : Bool) : (s.setAuxLevel n level).inputs = s.inputs := rfl
@[simp] theorem State.setAuxLevel_table (n : Nat) (level : Bool) : (s.setAuxLevel n level).table = s.table := rfl
@[simp] theorem State.setAuxLevel_angle (n : Nat) (level : Bool) : (s.setAuxLevel n level).angle = s.angle := rfl
@[simp] theorem State.setAuxLevel_engine (n : Nat) (level : Bool) : (s.setAuxLevel n level).engine = s.engine := rfl
@[simp] theorem State.setAuxLevel_span (n : Nat) (level : Bool) : (s.setAuxLevel n level).span = s.span := rfl
@[simp] theorem State.setAuxLevel_run (n : Nat) (level : Bool) : (s.setAuxLevel n level).run = s.run := rfl
@[simp] theorem State.setAuxLevel_sectors (n : Nat) (level : Bool) :
    (s.setAuxLevel n level).sectors = s.sectors := rfl
@[simp] theorem State.setAuxLevel_faults (n : Nat) (level : Bool) : (s.setAuxLevel n level).faults = s.faults := rfl
@[simp] theorem State.setAuxLevel_panel (n : Nat) (level : Bool) : (s.setAuxLevel n level).panel = s.panel := rfl
@[simp] theorem State.setAuxLevel_store (n : Nat) (level : Bool) : (s.setAuxLevel n level).store = s.store := rfl

/-- `setAuxLevel` touches nothing but watch. -/
theorem State.setAuxLevel_frame (n : Nat) (level : Bool) :
    s.setAuxLevel n level = { s with watch := (s.setAuxLevel n level).watch } := rfl

@[simp] theorem State.writeField_pending (w : FieldWrite) : (s.writeField w).pending = s.pending := by
  unfold State.writeField; split <;> rfl
@[simp] theorem State.writeField_clock (w : FieldWrite) : (s.writeField w).clock = s.clock := by
  unfold State.writeField; split <;> rfl
@[simp] theorem State.writeField_powered (w : FieldWrite) : (s.writeField w).powered = s.powered := by
  unfold State.writeField; split <;> rfl
@[simp] theorem State.writeField_inputs (w : FieldWrite) : (s.writeField w).inputs = s.inputs := by
  unfold State.writeField; split <;> rfl
@[simp] theorem State.writeField_angle (w : FieldWrite) : (s.writeField w).angle = s.angle := by
  unfold State.writeField; split <;> rfl
@[simp] theorem State.writeField_engine (w : FieldWrite) : (s.writeField w).engine = s.engine := by
  unfold State.writeField; split <;> rfl
@[simp] theorem State.writeField_span (w : FieldWrite) : (s.writeField w).span = s.span := by
  unfold State.writeField; split <;> rfl
@[simp] theorem State.writeField_run (w : FieldWrite) : (s.writeField w).run = s.run := by
  unfold State.writeField; split <;> rfl
@[simp] theorem State.writeField_sectors (w : FieldWrite) : (s.writeField w).sectors = s.sectors := by
  unfold State.writeField; split <;> rfl
@[simp] theorem State.writeField_watch (w : FieldWrite) : (s.writeField w).watch = s.watch := by
  unfold State.writeField; split <;> rfl
@[simp] theorem State.writeField_faults (w : FieldWrite) : (s.writeField w).faults = s.faults := by
  unfold State.writeField; split <;> rfl
@[simp] theorem State.writeField_panel (w : FieldWrite) : (s.writeField w).panel = s.panel := by
  unfold State.writeField; split <;> rfl
@[simp] theorem State.writeField_store (w : FieldWrite) : (s.writeField w).store = s.store := by
  unfold State.writeField; split <;> rfl

/-- `writeField` touches nothing but table. -/
theorem State.writeField_frame (w : FieldWrite) :
    s.writeField w = { s with table := (s.writeField w).table } := by
  apply State.ext <;> simp

@[simp] theorem State.writeFields_pending (ws : List FieldWrite) : (s.writeFields ws).pending = s.pending := by
  unfold State.writeFields
  induction ws generalizing s with
  | nil => rfl
  | cons w ws ih => rw [List.foldl_cons, ih]; simp
@[simp] theorem State.writeFields_clock (ws : List FieldWrite) : (s.writeFields ws).clock = s.clock := by
  unfold State.writeFields
  induction ws generalizing s with
  | nil => rfl
  | cons w ws ih => rw [List.foldl_cons, ih]; simp
@[simp] theorem State.writeFields_powered (ws : List FieldWrite) : (s.writeFields ws).powered = s.powered := by
  unfold State.writeFields
  induction ws generalizing s with
  | nil => rfl
  | cons w ws ih => rw [List.foldl_cons, ih]; simp
@[simp] theorem State.writeFields_inputs (ws : List FieldWrite) : (s.writeFields ws).inputs = s.inputs := by
  unfold State.writeFields
  induction ws generalizing s with
  | nil => rfl
  | cons w ws ih => rw [List.foldl_cons, ih]; simp
@[simp] theorem State.writeFields_angle (ws : List FieldWrite) : (s.writeFields ws).angle = s.angle := by
  unfold State.writeFields
  induction ws generalizing s with
  | nil => rfl
  | cons w ws ih => rw [List.foldl_cons, ih]; simp
@[simp] theorem State.writeFields_engine (ws : List FieldWrite) : (s.writeFields ws).engine = s.engine := by
  unfold State.writeFields
  induction ws generalizing s with
  | nil => rfl
  | cons w ws ih => rw [List.foldl_cons, ih]; simp
@[simp] theorem State.writeFields_span (ws : List FieldWrite) : (s.writeFields ws).span = s.span := by
  unfold State.writeFields
  induction ws generalizing s with
  | nil => rfl
  | cons w ws ih => rw [List.foldl_cons, ih]; simp
@[simp] theorem State.writeFields_run (ws : List FieldWrite) : (s.writeFields ws).run = s.run := by
  unfold State.writeFields
  induction ws generalizing s with
  | nil => rfl
  | cons w ws ih => rw [List.foldl_cons, ih]; simp
@[simp] theorem State.writeFields_sectors (ws : List FieldWrite) : (s.writeFields ws).sectors = s.sectors := by
  unfold State.writeFields
  induction ws generalizing s with
  | nil => rfl
  | cons w ws ih => rw [List.foldl_cons, ih]; simp
@[simp] theorem State.writeFields_watch (ws : List FieldWrite) : (s.writeFields ws).watch = s.watch := by
  unfold State.writeFields
  induction ws generalizing s with
  | nil => rfl
  | cons w ws ih => rw [List.foldl_cons, ih]; simp
@[simp] theorem State.writeFields_faults (ws : List FieldWrite) : (s.writeFields ws).faults = s.faults := by
  unfold State.writeFields
  induction ws generalizing s with
  | nil => rfl
  | cons w ws ih => rw [List.foldl_cons, ih]; simp
@[simp] theorem State.writeFields_panel (ws : List FieldWrite) : (s.writeFields ws).panel = s.panel := by
  unfold State.writeFields
  induction ws generalizing s with
  | nil => rfl
  | cons w ws ih => rw [List.foldl_cons, ih]; simp
@[simp] theorem State.writeFields_store (ws : List FieldWrite) : (s.writeFields ws).store = s.store := by
  unfold State.writeFields
  induction ws generalizing s with
  | nil => rfl
  | cons w ws ih => rw [List.foldl_cons, ih]; simp

/-- `writeFields` touches nothing but table. -/
theorem State.writeFields_frame (ws : List FieldWrite) :
    s.writeFields ws = { s with table := (s.writeFields ws).table } := by
  apply State.ext <;> simp

@[simp] theorem State.discardWindow_pending (k : Nat) : (s.discardWindow k).pending = s.pending := rfl
@[simp] theorem State.discardWindow_clock (k : Nat) : (s.discardWindow k).clock = s.clock := rfl
@[simp] theorem State.discardWindow_powered (k : Nat) : (s.discardWindow k).powered = s.powered := rfl
@[simp] theorem State.discardWindow_inputs (k : Nat) : (s.discardWindow k).inputs = s.inputs := rfl
@[simp] theorem State.discardWindow_table (k : Nat) : (s.discardWindow k).table = s.table := rfl
@[simp] theorem State.discardWindow_engine (k : Nat) : (s.discardWindow k).engine = s.engine := rfl
@[simp] theorem State.discardWindow_span (k : Nat) : (s.discardWindow k).span = s.span := rfl
@[simp] theorem State.discardWindow_run (k : Nat) : (s.discardWindow k).run = s.run := rfl
@[simp] theorem State.discardWindow_sectors (k : Nat) : (s.discardWindow k).sectors = s.sectors := rfl
@[simp] theorem State.discardWindow_watch (k : Nat) : (s.discardWindow k).watch = s.watch := rfl
@[simp] theorem State.discardWindow_faults (k : Nat) : (s.discardWindow k).faults = s.faults := rfl
@[simp] theorem State.discardWindow_panel (k : Nat) : (s.discardWindow k).panel = s.panel := rfl
@[simp] theorem State.discardWindow_store (k : Nat) : (s.discardWindow k).store = s.store := rfl

/-- `discardWindow` touches nothing but angle. -/
theorem State.discardWindow_frame (k : Nat) :
    s.discardWindow k = { s with angle := (s.discardWindow k).angle } := rfl

@[simp] theorem State.stallExpires_pending (k : Nat) : (s.stallExpires k).pending = s.pending := by
  unfold State.stallExpires
  repeat' split
  all_goals simp
@[simp] theorem State.stallExpires_clock (k : Nat) : (s.stallExpires k).clock = s.clock := by
  unfold State.stallExpires
  repeat' split
  all_goals simp
@[simp] theorem State.stallExpires_powered (k : Nat) : (s.stallExpires k).powered = s.powered := by
  unfold State.stallExpires
  repeat' split
  all_goals simp
@[simp] theorem State.stallExpires_inputs (k : Nat) : (s.stallExpires k).inputs = s.inputs := by
  unfold State.stallExpires
  repeat' split
  all_goals simp
@[simp] theorem State.stallExpires_engine (k : Nat) : (s.stallExpires k).engine = s.engine := by
  unfold State.stallExpires
  repeat' split
  all_goals simp

/-- `stallExpires` touches nothing but table, angle, span, run, sectors, watch, faults, panel, store. -/
theorem State.stallExpires_frame (k : Nat) :
    s.stallExpires k = { s with table := (s.stallExpires k).table, angle := (s.stallExpires k).angle, span := (s.stallExpires k).span, run := (s.stallExpires k).run, sectors := (s.stallExpires k).sectors, watch := (s.stallExpires k).watch, faults := (s.stallExpires k).faults, panel := (s.stallExpires k).panel, store := (s.stallExpires k).store } := by
  apply State.ext <;> simp

@[simp] theorem State.resetMember_pending (k : Nat) : (s.resetMember k).pending = s.pending := rfl
@[simp] theorem State.resetMember_clock (k : Nat) : (s.resetMember k).clock = s.clock := rfl
@[simp] theorem State.resetMember_powered (k : Nat) : (s.resetMember k).powered = s.powered := rfl
@[simp] theorem State.resetMember_inputs (k : Nat) : (s.resetMember k).inputs = s.inputs := rfl
@[simp] theorem State.resetMember_engine (k : Nat) : (s.resetMember k).engine = s.engine := rfl
@[simp] theorem State.resetMember_span (k : Nat) : (s.resetMember k).span = s.span := rfl
@[simp] theorem State.resetMember_run (k : Nat) : (s.resetMember k).run = s.run := rfl
@[simp] theorem State.resetMember_sectors (k : Nat) : (s.resetMember k).sectors = s.sectors := rfl
@[simp] theorem State.resetMember_watch (k : Nat) : (s.resetMember k).watch = s.watch := rfl
@[simp] theorem State.resetMember_panel (k : Nat) : (s.resetMember k).panel = s.panel := rfl
@[simp] theorem State.resetMember_store (k : Nat) : (s.resetMember k).store = s.store := rfl

/-- `resetMember` touches nothing but table, angle, faults. -/
theorem State.resetMember_frame (k : Nat) :
    s.resetMember k = { s with table := (s.resetMember k).table, angle := (s.resetMember k).angle, faults := (s.resetMember k).faults } := rfl

@[simp] theorem State.agreeMisses_pending (k : Nat) : (s.agreeMisses k).pending = s.pending := by
  unfold State.agreeMisses
  dsimp only
  repeat' split
  all_goals simp
@[simp] theorem State.agreeMisses_clock (k : Nat) : (s.agreeMisses k).clock = s.clock := by
  unfold State.agreeMisses
  dsimp only
  repeat' split
  all_goals simp
@[simp] theorem State.agreeMisses_powered (k : Nat) : (s.agreeMisses k).powered = s.powered := by
  unfold State.agreeMisses
  dsimp only
  repeat' split
  all_goals simp
@[simp] theorem State.agreeMisses_inputs (k : Nat) : (s.agreeMisses k).inputs = s.inputs := by
  unfold State.agreeMisses
  dsimp only
  repeat' split
  all_goals simp
@[simp] theorem State.agreeMisses_engine (k : Nat) : (s.agreeMisses k).engine = s.engine := by
  unfold State.agreeMisses
  dsimp only
  repeat' split
  all_goals simp

/-- `agreeMisses` touches nothing but table, angle, span, run, sectors, watch, faults, panel, store. -/
theorem State.agreeMisses_frame (k : Nat) :
    s.agreeMisses k = { s with table := (s.agreeMisses k).table, angle := (s.agreeMisses k).angle, span := (s.agreeMisses k).span, run := (s.agreeMisses k).run, sectors := (s.agreeMisses k).sectors, watch := (s.agreeMisses k).watch, faults := (s.agreeMisses k).faults, panel := (s.agreeMisses k).panel, store := (s.agreeMisses k).store } := by
  apply State.ext <;> simp

@[simp] theorem State.restartInterval_pending : (s.restartInterval).pending = s.pending := by
  unfold State.restartInterval; split <;> rfl
@[simp] theorem State.restartInterval_clock : (s.restartInterval).clock = s.clock := by
  unfold State.restartInterval; split <;> rfl
@[simp] theorem State.restartInterval_powered : (s.restartInterval).powered = s.powered := by
  unfold State.restartInterval; split <;> rfl
@[simp] theorem State.restartInterval_inputs : (s.restartInterval).inputs = s.inputs := by
  unfold State.restartInterval; split <;> rfl
@[simp] theorem State.restartInterval_table : (s.restartInterval).table = s.table := by
  unfold State.restartInterval; split <;> rfl
@[simp] theorem State.restartInterval_angle : (s.restartInterval).angle = s.angle := by
  unfold State.restartInterval; split <;> rfl
@[simp] theorem State.restartInterval_span : (s.restartInterval).span = s.span := by
  unfold State.restartInterval; split <;> rfl
@[simp] theorem State.restartInterval_run : (s.restartInterval).run = s.run := by
  unfold State.restartInterval; split <;> rfl
@[simp] theorem State.restartInterval_sectors : (s.restartInterval).sectors = s.sectors := by
  unfold State.restartInterval; split <;> rfl
@[simp] theorem State.restartInterval_watch : (s.restartInterval).watch = s.watch := by
  unfold State.restartInterval; split <;> rfl
@[simp] theorem State.restartInterval_faults : (s.restartInterval).faults = s.faults := by
  unfold State.restartInterval; split <;> rfl
@[simp] theorem State.restartInterval_panel : (s.restartInterval).panel = s.panel := by
  unfold State.restartInterval; split <;> rfl
@[simp] theorem State.restartInterval_store : (s.restartInterval).store = s.store := by
  unfold State.restartInterval; split <;> rfl

/-- `restartInterval` touches nothing but engine. -/
theorem State.restartInterval_frame :
    s.restartInterval = { s with engine := (s.restartInterval).engine } := by
  apply State.ext <;> simp

@[simp] theorem State.silenceApplied_pending : (s.silenceApplied).pending = s.pending := by
  unfold State.silenceApplied
  dsimp only
  repeat' split
  all_goals rfl
@[simp] theorem State.silenceApplied_clock : (s.silenceApplied).clock = s.clock := by
  unfold State.silenceApplied
  dsimp only
  repeat' split
  all_goals rfl
@[simp] theorem State.silenceApplied_powered : (s.silenceApplied).powered = s.powered := by
  unfold State.silenceApplied
  dsimp only
  repeat' split
  all_goals rfl
@[simp] theorem State.silenceApplied_inputs : (s.silenceApplied).inputs = s.inputs := by
  unfold State.silenceApplied
  dsimp only
  repeat' split
  all_goals rfl
@[simp] theorem State.silenceApplied_table : (s.silenceApplied).table = s.table := by
  unfold State.silenceApplied
  dsimp only
  repeat' split
  all_goals rfl
@[simp] theorem State.silenceApplied_angle : (s.silenceApplied).angle = s.angle := by
  unfold State.silenceApplied
  dsimp only
  repeat' split
  all_goals rfl
@[simp] theorem State.silenceApplied_engine : (s.silenceApplied).engine = s.engine := by
  unfold State.silenceApplied
  dsimp only
  repeat' split
  all_goals rfl
@[simp] theorem State.silenceApplied_span : (s.silenceApplied).span = s.span := by
  unfold State.silenceApplied
  dsimp only
  repeat' split
  all_goals rfl
@[simp] theorem State.silenceApplied_run : (s.silenceApplied).run = s.run := by
  unfold State.silenceApplied
  dsimp only
  repeat' split
  all_goals rfl
@[simp] theorem State.silenceApplied_sectors : (s.silenceApplied).sectors = s.sectors := by
  unfold State.silenceApplied
  dsimp only
  repeat' split
  all_goals rfl
@[simp] theorem State.silenceApplied_watch : (s.silenceApplied).watch = s.watch := by
  unfold State.silenceApplied
  dsimp only
  repeat' split
  all_goals rfl
@[simp] theorem State.silenceApplied_faults : (s.silenceApplied).faults = s.faults := by
  unfold State.silenceApplied
  dsimp only
  repeat' split
  all_goals rfl
@[simp] theorem State.silenceApplied_store : (s.silenceApplied).store = s.store := by
  unfold State.silenceApplied
  dsimp only
  repeat' split
  all_goals rfl

/-- `silenceApplied` touches nothing but panel. -/
theorem State.silenceApplied_frame :
    s.silenceApplied = { s with panel := (s.silenceApplied).panel } := by
  apply State.ext <;> simp

@[simp] theorem State.fieldApplied_pending (w : FieldWrite) : (s.fieldApplied w).pending = s.pending := by
  unfold State.fieldApplied
  repeat' split
  all_goals simp
@[simp] theorem State.fieldApplied_clock (w : FieldWrite) : (s.fieldApplied w).clock = s.clock := by
  unfold State.fieldApplied
  repeat' split
  all_goals simp
@[simp] theorem State.fieldApplied_powered (w : FieldWrite) : (s.fieldApplied w).powered = s.powered := by
  unfold State.fieldApplied
  repeat' split
  all_goals simp
@[simp] theorem State.fieldApplied_inputs (w : FieldWrite) : (s.fieldApplied w).inputs = s.inputs := by
  unfold State.fieldApplied
  repeat' split
  all_goals simp
@[simp] theorem State.fieldApplied_engine (w : FieldWrite) : (s.fieldApplied w).engine = s.engine := by
  unfold State.fieldApplied
  repeat' split
  all_goals simp

/-- `fieldApplied` touches nothing but table, angle, span, run, sectors, watch, faults, panel, store. -/
theorem State.fieldApplied_frame (w : FieldWrite) :
    s.fieldApplied w = { s with table := (s.fieldApplied w).table, angle := (s.fieldApplied w).angle, span := (s.fieldApplied w).span, run := (s.fieldApplied w).run, sectors := (s.fieldApplied w).sectors, watch := (s.fieldApplied w).watch, faults := (s.fieldApplied w).faults, panel := (s.fieldApplied w).panel, store := (s.fieldApplied w).store } := by
  apply State.ext <;> simp

@[simp] theorem State.chainChanged_pending : (s.chainChanged).pending = s.pending := by
  unfold State.chainChanged
  repeat' split
  all_goals simp
@[simp] theorem State.chainChanged_clock : (s.chainChanged).clock = s.clock := by
  unfold State.chainChanged
  repeat' split
  all_goals simp
@[simp] theorem State.chainChanged_powered : (s.chainChanged).powered = s.powered := by
  unfold State.chainChanged
  repeat' split
  all_goals simp
@[simp] theorem State.chainChanged_inputs : (s.chainChanged).inputs = s.inputs := by
  unfold State.chainChanged
  repeat' split
  all_goals simp
@[simp] theorem State.chainChanged_engine : (s.chainChanged).engine = s.engine := by
  unfold State.chainChanged
  repeat' split
  all_goals simp

/-- `chainChanged` touches nothing but table, angle, span, run, sectors, watch, faults, panel, store. -/
theorem State.chainChanged_frame :
    s.chainChanged = { s with table := (s.chainChanged).table, angle := (s.chainChanged).angle, span := (s.chainChanged).span, run := (s.chainChanged).run, sectors := (s.chainChanged).sectors, watch := (s.chainChanged).watch, faults := (s.chainChanged).faults, panel := (s.chainChanged).panel, store := (s.chainChanged).store } := by
  apply State.ext <;> simp

@[simp] theorem State.installPending_pending : (s.installPending).pending = s.pending := by
  unfold State.installPending; split <;> rfl
@[simp] theorem State.installPending_clock : (s.installPending).clock = s.clock := by
  unfold State.installPending; split <;> rfl
@[simp] theorem State.installPending_powered : (s.installPending).powered = s.powered := by
  unfold State.installPending; split <;> rfl
@[simp] theorem State.installPending_inputs : (s.installPending).inputs = s.inputs := by
  unfold State.installPending; split <;> rfl
@[simp] theorem State.installPending_table : (s.installPending).table = s.table := by
  unfold State.installPending; split <;> rfl
@[simp] theorem State.installPending_angle : (s.installPending).angle = s.angle := by
  unfold State.installPending; split <;> rfl
@[simp] theorem State.installPending_engine : (s.installPending).engine = s.engine := by
  unfold State.installPending; split <;> rfl
@[simp] theorem State.installPending_span : (s.installPending).span = s.span := by
  unfold State.installPending; split <;> rfl
@[simp] theorem State.installPending_run : (s.installPending).run = s.run := by
  unfold State.installPending; split <;> rfl
@[simp] theorem State.installPending_watch : (s.installPending).watch = s.watch := by
  unfold State.installPending; split <;> rfl
@[simp] theorem State.installPending_faults : (s.installPending).faults = s.faults := by
  unfold State.installPending; split <;> rfl
@[simp] theorem State.installPending_panel : (s.installPending).panel = s.panel := by
  unfold State.installPending; split <;> rfl
@[simp] theorem State.installPending_store : (s.installPending).store = s.store := by
  unfold State.installPending; split <;> rfl

/-- `installPending` touches nothing but sectors. -/
theorem State.installPending_frame :
    s.installPending = { s with sectors := (s.installPending).sectors } := by
  apply State.ext <;> simp

@[simp] theorem State.establishCap_pending (q : Nat) : (s.establishCap q).pending = s.pending := rfl
@[simp] theorem State.establishCap_clock (q : Nat) : (s.establishCap q).clock = s.clock := rfl
@[simp] theorem State.establishCap_powered (q : Nat) : (s.establishCap q).powered = s.powered := rfl
@[simp] theorem State.establishCap_inputs (q : Nat) : (s.establishCap q).inputs = s.inputs := rfl
@[simp] theorem State.establishCap_table (q : Nat) : (s.establishCap q).table = s.table := rfl
@[simp] theorem State.establishCap_angle (q : Nat) : (s.establishCap q).angle = s.angle := rfl
@[simp] theorem State.establishCap_engine (q : Nat) : (s.establishCap q).engine = s.engine := rfl
@[simp] theorem State.establishCap_span (q : Nat) : (s.establishCap q).span = s.span := rfl
@[simp] theorem State.establishCap_run (q : Nat) : (s.establishCap q).run = s.run := rfl
@[simp] theorem State.establishCap_watch (q : Nat) : (s.establishCap q).watch = s.watch := rfl
@[simp] theorem State.establishCap_faults (q : Nat) : (s.establishCap q).faults = s.faults := rfl
@[simp] theorem State.establishCap_panel (q : Nat) : (s.establishCap q).panel = s.panel := rfl
@[simp] theorem State.establishCap_store (q : Nat) : (s.establishCap q).store = s.store := rfl

/-- `establishCap` touches nothing but sectors. -/
theorem State.establishCap_frame (q : Nat) :
    s.establishCap q = { s with sectors := (s.establishCap q).sectors } := rfl

@[simp] theorem State.rearmOutside_pending (q : Nat) : (s.rearmOutside q).pending = s.pending := rfl
@[simp] theorem State.rearmOutside_clock (q : Nat) : (s.rearmOutside q).clock = s.clock := rfl
@[simp] theorem State.rearmOutside_powered (q : Nat) : (s.rearmOutside q).powered = s.powered := rfl
@[simp] theorem State.rearmOutside_inputs (q : Nat) : (s.rearmOutside q).inputs = s.inputs := rfl
@[simp] theorem State.rearmOutside_table (q : Nat) : (s.rearmOutside q).table = s.table := rfl
@[simp] theorem State.rearmOutside_angle (q : Nat) : (s.rearmOutside q).angle = s.angle := rfl
@[simp] theorem State.rearmOutside_engine (q : Nat) : (s.rearmOutside q).engine = s.engine := rfl
@[simp] theorem State.rearmOutside_span (q : Nat) : (s.rearmOutside q).span = s.span := rfl
@[simp] theorem State.rearmOutside_run (q : Nat) : (s.rearmOutside q).run = s.run := rfl
@[simp] theorem State.rearmOutside_watch (q : Nat) : (s.rearmOutside q).watch = s.watch := rfl
@[simp] theorem State.rearmOutside_faults (q : Nat) : (s.rearmOutside q).faults = s.faults := rfl
@[simp] theorem State.rearmOutside_panel (q : Nat) : (s.rearmOutside q).panel = s.panel := rfl
@[simp] theorem State.rearmOutside_store (q : Nat) : (s.rearmOutside q).store = s.store := rfl

/-- `rearmOutside` touches nothing but sectors. -/
theorem State.rearmOutside_frame (q : Nat) :
    s.rearmOutside q = { s with sectors := (s.rearmOutside q).sectors } := rfl

@[simp] theorem State.gatherTravel_pending (delta : Int) : (s.gatherTravel delta).pending = s.pending := rfl
@[simp] theorem State.gatherTravel_clock (delta : Int) : (s.gatherTravel delta).clock = s.clock := rfl
@[simp] theorem State.gatherTravel_powered (delta : Int) : (s.gatherTravel delta).powered = s.powered := rfl
@[simp] theorem State.gatherTravel_inputs (delta : Int) : (s.gatherTravel delta).inputs = s.inputs := rfl
@[simp] theorem State.gatherTravel_table (delta : Int) : (s.gatherTravel delta).table = s.table := rfl
@[simp] theorem State.gatherTravel_engine (delta : Int) : (s.gatherTravel delta).engine = s.engine := rfl
@[simp] theorem State.gatherTravel_span (delta : Int) : (s.gatherTravel delta).span = s.span := rfl
@[simp] theorem State.gatherTravel_run (delta : Int) : (s.gatherTravel delta).run = s.run := rfl
@[simp] theorem State.gatherTravel_sectors (delta : Int) : (s.gatherTravel delta).sectors = s.sectors := rfl
@[simp] theorem State.gatherTravel_watch (delta : Int) : (s.gatherTravel delta).watch = s.watch := rfl
@[simp] theorem State.gatherTravel_faults (delta : Int) : (s.gatherTravel delta).faults = s.faults := rfl
@[simp] theorem State.gatherTravel_panel (delta : Int) : (s.gatherTravel delta).panel = s.panel := rfl
@[simp] theorem State.gatherTravel_store (delta : Int) : (s.gatherTravel delta).store = s.store := rfl

/-- `gatherTravel` touches nothing but angle. -/
theorem State.gatherTravel_frame (delta : Int) :
    s.gatherTravel delta = { s with angle := (s.gatherTravel delta).angle } := rfl

@[simp] theorem State.passTravel_pending (delta : Int) : (s.passTravel delta).pending = s.pending := rfl
@[simp] theorem State.passTravel_clock (delta : Int) : (s.passTravel delta).clock = s.clock := rfl
@[simp] theorem State.passTravel_powered (delta : Int) : (s.passTravel delta).powered = s.powered := rfl
@[simp] theorem State.passTravel_inputs (delta : Int) : (s.passTravel delta).inputs = s.inputs := rfl
@[simp] theorem State.passTravel_table (delta : Int) : (s.passTravel delta).table = s.table := rfl
@[simp] theorem State.passTravel_angle (delta : Int) : (s.passTravel delta).angle = s.angle := rfl
@[simp] theorem State.passTravel_engine (delta : Int) : (s.passTravel delta).engine = s.engine := rfl
@[simp] theorem State.passTravel_span (delta : Int) : (s.passTravel delta).span = s.span := rfl
@[simp] theorem State.passTravel_sectors (delta : Int) : (s.passTravel delta).sectors = s.sectors := rfl
@[simp] theorem State.passTravel_watch (delta : Int) : (s.passTravel delta).watch = s.watch := rfl
@[simp] theorem State.passTravel_faults (delta : Int) : (s.passTravel delta).faults = s.faults := rfl
@[simp] theorem State.passTravel_panel (delta : Int) : (s.passTravel delta).panel = s.panel := rfl
@[simp] theorem State.passTravel_store (delta : Int) : (s.passTravel delta).store = s.store := rfl

/-- `passTravel` touches nothing but run. -/
theorem State.passTravel_frame (delta : Int) :
    s.passTravel delta = { s with run := (s.passTravel delta).run } := rfl

@[simp] theorem State.holdAngle_pending (q : Nat) : (s.holdAngle q).pending = s.pending := by
  unfold State.holdAngle; dsimp only; split <;> rfl
@[simp] theorem State.holdAngle_clock (q : Nat) : (s.holdAngle q).clock = s.clock := by
  unfold State.holdAngle; dsimp only; split <;> rfl
@[simp] theorem State.holdAngle_powered (q : Nat) : (s.holdAngle q).powered = s.powered := by
  unfold State.holdAngle; dsimp only; split <;> rfl
@[simp] theorem State.holdAngle_inputs (q : Nat) : (s.holdAngle q).inputs = s.inputs := by
  unfold State.holdAngle; dsimp only; split <;> rfl
@[simp] theorem State.holdAngle_table (q : Nat) : (s.holdAngle q).table = s.table := by
  unfold State.holdAngle; dsimp only; split <;> rfl
@[simp] theorem State.holdAngle_engine (q : Nat) : (s.holdAngle q).engine = s.engine := by
  unfold State.holdAngle; dsimp only; split <;> rfl
@[simp] theorem State.holdAngle_span (q : Nat) : (s.holdAngle q).span = s.span := by
  unfold State.holdAngle; dsimp only; split <;> rfl
@[simp] theorem State.holdAngle_run (q : Nat) : (s.holdAngle q).run = s.run := by
  unfold State.holdAngle; dsimp only; split <;> rfl
@[simp] theorem State.holdAngle_sectors (q : Nat) : (s.holdAngle q).sectors = s.sectors := by
  unfold State.holdAngle; dsimp only; split <;> rfl
@[simp] theorem State.holdAngle_watch (q : Nat) : (s.holdAngle q).watch = s.watch := by
  unfold State.holdAngle; dsimp only; split <;> rfl
@[simp] theorem State.holdAngle_panel (q : Nat) : (s.holdAngle q).panel = s.panel := by
  unfold State.holdAngle; dsimp only; split <;> rfl
@[simp] theorem State.holdAngle_store (q : Nat) : (s.holdAngle q).store = s.store := by
  unfold State.holdAngle; dsimp only; split <;> rfl

/-- `holdAngle` touches nothing but angle, faults. -/
theorem State.holdAngle_frame (q : Nat) :
    s.holdAngle q = { s with angle := (s.holdAngle q).angle, faults := (s.holdAngle q).faults } := by
  apply State.ext <;> simp

@[simp] theorem State.openWindow_pending (k : Nat) (wheel : U16) : (s.openWindow k wheel).pending = s.pending := rfl
@[simp] theorem State.openWindow_clock (k : Nat) (wheel : U16) : (s.openWindow k wheel).clock = s.clock := rfl
@[simp] theorem State.openWindow_powered (k : Nat) (wheel : U16) : (s.openWindow k wheel).powered = s.powered := rfl
@[simp] theorem State.openWindow_inputs (k : Nat) (wheel : U16) : (s.openWindow k wheel).inputs = s.inputs := rfl
@[simp] theorem State.openWindow_table (k : Nat) (wheel : U16) : (s.openWindow k wheel).table = s.table := rfl
@[simp] theorem State.openWindow_engine (k : Nat) (wheel : U16) : (s.openWindow k wheel).engine = s.engine := rfl
@[simp] theorem State.openWindow_span (k : Nat) (wheel : U16) : (s.openWindow k wheel).span = s.span := rfl
@[simp] theorem State.openWindow_run (k : Nat) (wheel : U16) : (s.openWindow k wheel).run = s.run := rfl
@[simp] theorem State.openWindow_sectors (k : Nat) (wheel : U16) : (s.openWindow k wheel).sectors = s.sectors := rfl
@[simp] theorem State.openWindow_watch (k : Nat) (wheel : U16) : (s.openWindow k wheel).watch = s.watch := rfl
@[simp] theorem State.openWindow_faults (k : Nat) (wheel : U16) : (s.openWindow k wheel).faults = s.faults := rfl
@[simp] theorem State.openWindow_panel (k : Nat) (wheel : U16) : (s.openWindow k wheel).panel = s.panel := rfl
@[simp] theorem State.openWindow_store (k : Nat) (wheel : U16) : (s.openWindow k wheel).store = s.store := rfl

/-- `openWindow` touches nothing but angle. -/
theorem State.openWindow_frame (k : Nat) (wheel : U16) :
    s.openWindow k wheel = { s with angle := (s.openWindow k wheel).angle } := rfl

@[simp] theorem State.setPhase_pending (sl : Slot) (ph : SlotPhase) : (s.setPhase sl ph).pending = s.pending := rfl
@[simp] theorem State.setPhase_clock (sl : Slot) (ph : SlotPhase) : (s.setPhase sl ph).clock = s.clock := rfl
@[simp] theorem State.setPhase_powered (sl : Slot) (ph : SlotPhase) : (s.setPhase sl ph).powered = s.powered := rfl
@[simp] theorem State.setPhase_inputs (sl : Slot) (ph : SlotPhase) : (s.setPhase sl ph).inputs = s.inputs := rfl
@[simp] theorem State.setPhase_table (sl : Slot) (ph : SlotPhase) : (s.setPhase sl ph).table = s.table := rfl
@[simp] theorem State.setPhase_angle (sl : Slot) (ph : SlotPhase) : (s.setPhase sl ph).angle = s.angle := rfl
@[simp] theorem State.setPhase_engine (sl : Slot) (ph : SlotPhase) : (s.setPhase sl ph).engine = s.engine := rfl
@[simp] theorem State.setPhase_run (sl : Slot) (ph : SlotPhase) : (s.setPhase sl ph).run = s.run := rfl
@[simp] theorem State.setPhase_sectors (sl : Slot) (ph : SlotPhase) : (s.setPhase sl ph).sectors = s.sectors := rfl
@[simp] theorem State.setPhase_watch (sl : Slot) (ph : SlotPhase) : (s.setPhase sl ph).watch = s.watch := rfl
@[simp] theorem State.setPhase_faults (sl : Slot) (ph : SlotPhase) : (s.setPhase sl ph).faults = s.faults := rfl
@[simp] theorem State.setPhase_panel (sl : Slot) (ph : SlotPhase) : (s.setPhase sl ph).panel = s.panel := rfl
@[simp] theorem State.setPhase_store (sl : Slot) (ph : SlotPhase) : (s.setPhase sl ph).store = s.store := rfl

/-- `setPhase` touches nothing but span. -/
theorem State.setPhase_frame (sl : Slot) (ph : SlotPhase) :
    s.setPhase sl ph = { s with span := (s.setPhase sl ph).span } := rfl

@[simp] theorem State.countMiss_pending (k : Nat) : (s.countMiss k).pending = s.pending := by
  unfold State.countMiss
  dsimp only
  repeat' split
  all_goals simp
@[simp] theorem State.countMiss_clock (k : Nat) : (s.countMiss k).clock = s.clock := by
  unfold State.countMiss
  dsimp only
  repeat' split
  all_goals simp
@[simp] theorem State.countMiss_powered (k : Nat) : (s.countMiss k).powered = s.powered := by
  unfold State.countMiss
  dsimp only
  repeat' split
  all_goals simp
@[simp] theorem State.countMiss_inputs (k : Nat) : (s.countMiss k).inputs = s.inputs := by
  unfold State.countMiss
  dsimp only
  repeat' split
  all_goals simp
@[simp] theorem State.countMiss_engine (k : Nat) : (s.countMiss k).engine = s.engine := by
  unfold State.countMiss
  dsimp only
  repeat' split
  all_goals simp

/-- `countMiss` touches nothing but table, angle, span, run, sectors, watch, faults, panel, store. -/
theorem State.countMiss_frame (k : Nat) :
    s.countMiss k = { s with table := (s.countMiss k).table, angle := (s.countMiss k).angle, span := (s.countMiss k).span, run := (s.countMiss k).run, sectors := (s.countMiss k).sectors, watch := (s.countMiss k).watch, faults := (s.countMiss k).faults, panel := (s.countMiss k).panel, store := (s.countMiss k).store } := by
  apply State.ext <;> simp

@[simp] theorem State.startSurveyTimer_pending : (s.startSurveyTimer).pending = s.pending := rfl
@[simp] theorem State.startSurveyTimer_clock : (s.startSurveyTimer).clock = s.clock := rfl
@[simp] theorem State.startSurveyTimer_powered : (s.startSurveyTimer).powered = s.powered := rfl
@[simp] theorem State.startSurveyTimer_inputs : (s.startSurveyTimer).inputs = s.inputs := rfl
@[simp] theorem State.startSurveyTimer_table : (s.startSurveyTimer).table = s.table := rfl
@[simp] theorem State.startSurveyTimer_angle : (s.startSurveyTimer).angle = s.angle := rfl
@[simp] theorem State.startSurveyTimer_engine : (s.startSurveyTimer).engine = s.engine := rfl
@[simp] theorem State.startSurveyTimer_run : (s.startSurveyTimer).run = s.run := rfl
@[simp] theorem State.startSurveyTimer_sectors : (s.startSurveyTimer).sectors = s.sectors := rfl
@[simp] theorem State.startSurveyTimer_watch : (s.startSurveyTimer).watch = s.watch := rfl
@[simp] theorem State.startSurveyTimer_faults : (s.startSurveyTimer).faults = s.faults := rfl
@[simp] theorem State.startSurveyTimer_panel : (s.startSurveyTimer).panel = s.panel := rfl
@[simp] theorem State.startSurveyTimer_store : (s.startSurveyTimer).store = s.store := rfl

/-- `startSurveyTimer` touches nothing but span. -/
theorem State.startSurveyTimer_frame :
    s.startSurveyTimer = { s with span := (s.startSurveyTimer).span } := rfl

@[simp] theorem State.enterQuiet_pending : (s.enterQuiet).pending = s.pending := by
  unfold State.enterQuiet
  dsimp only
  repeat' split
  all_goals simp
@[simp] theorem State.enterQuiet_clock : (s.enterQuiet).clock = s.clock := by
  unfold State.enterQuiet
  dsimp only
  repeat' split
  all_goals simp
@[simp] theorem State.enterQuiet_powered : (s.enterQuiet).powered = s.powered := by
  unfold State.enterQuiet
  dsimp only
  repeat' split
  all_goals simp
@[simp] theorem State.enterQuiet_inputs : (s.enterQuiet).inputs = s.inputs := by
  unfold State.enterQuiet
  dsimp only
  repeat' split
  all_goals simp
@[simp] theorem State.enterQuiet_table : (s.enterQuiet).table = s.table := by
  unfold State.enterQuiet
  dsimp only
  repeat' split
  all_goals simp
@[simp] theorem State.enterQuiet_angle : (s.enterQuiet).angle = s.angle := by
  unfold State.enterQuiet
  dsimp only
  repeat' split
  all_goals simp
@[simp] theorem State.enterQuiet_engine : (s.enterQuiet).engine = s.engine := by
  unfold State.enterQuiet
  dsimp only
  repeat' split
  all_goals simp
@[simp] theorem State.enterQuiet_run : (s.enterQuiet).run = s.run := by
  unfold State.enterQuiet
  dsimp only
  repeat' split
  all_goals simp
@[simp] theorem State.enterQuiet_sectors : (s.enterQuiet).sectors = s.sectors := by
  unfold State.enterQuiet
  dsimp only
  repeat' split
  all_goals simp
@[simp] theorem State.enterQuiet_watch : (s.enterQuiet).watch = s.watch := by
  unfold State.enterQuiet
  dsimp only
  repeat' split
  all_goals simp
@[simp] theorem State.enterQuiet_faults : (s.enterQuiet).faults = s.faults := by
  unfold State.enterQuiet
  dsimp only
  repeat' split
  all_goals simp
@[simp] theorem State.enterQuiet_store : (s.enterQuiet).store = s.store := by
  unfold State.enterQuiet
  dsimp only
  repeat' split
  all_goals simp

/-- `enterQuiet` touches nothing but span, panel. -/
theorem State.enterQuiet_frame :
    s.enterQuiet = { s with span := (s.enterQuiet).span, panel := (s.enterQuiet).panel } := by
  apply State.ext <;> simp

@[simp] theorem State.loseWrite_pending : (s.loseWrite).pending = s.pending := by
  unfold State.loseWrite; split <;> rfl
@[simp] theorem State.loseWrite_clock : (s.loseWrite).clock = s.clock := by
  unfold State.loseWrite; split <;> rfl
@[simp] theorem State.loseWrite_powered : (s.loseWrite).powered = s.powered := by
  unfold State.loseWrite; split <;> rfl
@[simp] theorem State.loseWrite_inputs : (s.loseWrite).inputs = s.inputs := by
  unfold State.loseWrite; split <;> rfl
@[simp] theorem State.loseWrite_table : (s.loseWrite).table = s.table := by
  unfold State.loseWrite; split <;> rfl
@[simp] theorem State.loseWrite_angle : (s.loseWrite).angle = s.angle := by
  unfold State.loseWrite; split <;> rfl
@[simp] theorem State.loseWrite_engine : (s.loseWrite).engine = s.engine := by
  unfold State.loseWrite; split <;> rfl
@[simp] theorem State.loseWrite_span : (s.loseWrite).span = s.span := by
  unfold State.loseWrite; split <;> rfl
@[simp] theorem State.loseWrite_run : (s.loseWrite).run = s.run := by
  unfold State.loseWrite; split <;> rfl
@[simp] theorem State.loseWrite_sectors : (s.loseWrite).sectors = s.sectors := by
  unfold State.loseWrite; split <;> rfl
@[simp] theorem State.loseWrite_watch : (s.loseWrite).watch = s.watch := by
  unfold State.loseWrite; split <;> rfl
@[simp] theorem State.loseWrite_faults : (s.loseWrite).faults = s.faults := by
  unfold State.loseWrite; split <;> rfl
@[simp] theorem State.loseWrite_panel : (s.loseWrite).panel = s.panel := by
  unfold State.loseWrite; split <;> rfl

/-- `loseWrite` touches nothing but store. -/
theorem State.loseWrite_frame :
    s.loseWrite = { s with store := (s.loseWrite).store } := by
  apply State.ext <;> simp

@[simp] theorem State.invalidateRecord_pending : (s.invalidateRecord).pending = s.pending := rfl
@[simp] theorem State.invalidateRecord_clock : (s.invalidateRecord).clock = s.clock := rfl
@[simp] theorem State.invalidateRecord_powered : (s.invalidateRecord).powered = s.powered := rfl
@[simp] theorem State.invalidateRecord_inputs : (s.invalidateRecord).inputs = s.inputs := rfl
@[simp] theorem State.invalidateRecord_table : (s.invalidateRecord).table = s.table := rfl
@[simp] theorem State.invalidateRecord_angle : (s.invalidateRecord).angle = s.angle := rfl
@[simp] theorem State.invalidateRecord_engine : (s.invalidateRecord).engine = s.engine := rfl
@[simp] theorem State.invalidateRecord_span : (s.invalidateRecord).span = s.span := rfl
@[simp] theorem State.invalidateRecord_run : (s.invalidateRecord).run = s.run := rfl
@[simp] theorem State.invalidateRecord_sectors : (s.invalidateRecord).sectors = s.sectors := rfl
@[simp] theorem State.invalidateRecord_watch : (s.invalidateRecord).watch = s.watch := rfl
@[simp] theorem State.invalidateRecord_faults : (s.invalidateRecord).faults = s.faults := rfl
@[simp] theorem State.invalidateRecord_panel : (s.invalidateRecord).panel = s.panel := rfl

/-- `invalidateRecord` touches nothing but store. -/
theorem State.invalidateRecord_frame :
    s.invalidateRecord = { s with store := (s.invalidateRecord).store } := rfl

end Sys2Proof.Machine
end

