-- ==== Sys2Proof/Laws/PerInstr.lean ====
section
/-! SUPPORT. A law of every command as syntax: the frame of a well-formed request fits the receiver. Its payload is at most 120
bytes (R154), which is what the statements about a request's frame ask of it, and its type is in the catalogue of 11.4 but for
the one command that stands for types outside it. -/

namespace Sys2Proof.Laws

open Machine (PanelFrame)

/-- The frame of command i, where i is a request of the form its row describes, fits the receiver, and its type is a type of
the catalogue unless i is the command for the types outside it. -/
def FrameFits.Statement (i : Instr) : Prop :=
  ∀ f : PanelFrame, i.frame = some f → WellFormed i = true →
    f.payload.length ≤ 120 ∧
      (catalogue.contains f.type.toNat = true ∨ ∃ payload, i = .unknownRequestType f.type payload)

theorem bitsSet_le (w : U16) : bitsSet w ≤ 16 := by
  have h := List.length_filter_le (w.getLsbD ·) (List.range 16)
  simpa [bitsSet] using h

theorem length_flatMap_u16Bytes (vs : List U16) : (vs.flatMap u16Bytes).length = 2 * vs.length := by
  induction vs with
  | nil => rfl
  | cons v vs ih => simp [u16Bytes] at ih ⊢; omega

theorem length_flatMap_entryBytes (es : List SectorEntry) : (es.flatMap entryBytes).length = 6 * es.length := by
  induction es with
  | nil => rfl
  | cons e es ih => simp [entryBytes, u16Bytes] at ih ⊢; omega

theorem frameFits_of_none {i : Instr} (h : i.frame = none) : FrameFits.Statement i := by
  intro f hf; rw [h] at hf; cases hf

theorem frameFits_of_some {i : Instr} {g : PanelFrame} (h : i.frame = some g) (hl : Nat.ble g.payload.length 120 = true)
    (ht : catalogue.contains g.type.toNat = true) : FrameFits.Statement i := by
  intro f hf _; rw [h] at hf; cases hf; exact ⟨Nat.le_of_ble_eq_true hl, .inl ht⟩

theorem FrameFits.configMachine (presence : U16) (values : List U16) :
    FrameFits.Statement (.configMachine presence values) := by
  intro f hf hw
  cases hf
  have hn := bitsSet_le presence
  have hv : values.length = bitsSet presence := by simpa [WellFormed] using hw
  have hl := length_flatMap_u16Bytes values
  exact ⟨by simp [frameOf, u16Bytes] at hl ⊢; omega, .inl rfl⟩

theorem FrameFits.configTower (tower : Byte) (presence : U16) (values : List U16) :
    FrameFits.Statement (.configTower tower presence values) := by
  intro f hf hw
  cases hf
  have hn := bitsSet_le presence
  have hv : values.length = bitsSet presence := by simpa [WellFormed] using hw
  have hl := length_flatMap_u16Bytes values
  exact ⟨by simp [frameOf, u16Bytes] at hl ⊢; omega, .inl rfl⟩

theorem FrameFits.readTower (tower : Byte) : FrameFits.Statement (.readTower tower) := frameFits_of_some rfl rfl rfl

theorem FrameFits.startPass (direction : Byte) (pace : U16) (presence : Byte) (stopAngle : U16) (circles : Byte) :
    FrameFits.Statement (.startPass direction pace presence stopAngle circles) := frameFits_of_some rfl rfl rfl

theorem FrameFits.setPace (pace : U16) : FrameFits.Statement (.setPace pace) := frameFits_of_some rfl rfl rfl

theorem FrameFits.stopPass : FrameFits.Statement .stopPass := frameFits_of_some rfl rfl rfl

theorem FrameFits.hold : FrameFits.Statement .hold := frameFits_of_some rfl rfl rfl

theorem FrameFits.resume : FrameFits.Statement .resume := frameFits_of_some rfl rfl rfl

theorem FrameFits.reverse : FrameFits.Statement .reverse := frameFits_of_some rfl rfl rfl

theorem FrameFits.tripReset : FrameFits.Statement .tripReset := frameFits_of_some rfl rfl rfl

theorem FrameFits.readMachine : FrameFits.Statement .readMachine := frameFits_of_some rfl rfl rfl

theorem FrameFits.setSectors (marks : Byte) (entries : List SectorEntry) :
    FrameFits.Statement (.setSectors marks entries) := by
  intro f hf hw
  cases hf
  have hn : entries.length ≤ 19 := by simpa [WellFormed] using hw
  have hl := length_flatMap_entryBytes entries
  exact ⟨by simp [frameOf] at hl ⊢; omega, .inl rfl⟩

theorem FrameFits.readSectors (choice : Byte) (first : Byte) : FrameFits.Statement (.readSectors choice first) :=
  frameFits_of_some rfl rfl rfl

theorem FrameFits.setWatch (entry enabled : Byte) (ref halfWidth : U16)
    (direction crossing mstate action : Byte) (arg : U16) (rept : Byte) :
    FrameFits.Statement (.setWatch entry enabled ref halfWidth direction crossing mstate action arg rept) :=
  frameFits_of_some rfl rfl rfl

theorem FrameFits.readWatches : FrameFits.Statement .readWatches := frameFits_of_some rfl rfl rfl

theorem FrameFits.setAux (output mode : Byte) :
    FrameFits.Statement (.setAux output mode) := frameFits_of_some rfl rfl rfl

theorem FrameFits.setFaultMode (kind mode : Byte) : FrameFits.Statement (.setFaultMode kind mode) :=
  frameFits_of_some rfl rfl rfl

theorem FrameFits.faultList (first : Byte) : FrameFits.Statement (.faultList first) := frameFits_of_some rfl rfl rfl

theorem FrameFits.faultClear (selection kind tower : Byte) : FrameFits.Statement (.faultClear selection kind tower) :=
  frameFits_of_some rfl rfl rfl

theorem FrameFits.storeConfig (presence policy : Byte) (delay tolerance : U16) :
    FrameFits.Statement (.storeConfig presence policy delay tolerance) :=
  frameFits_of_some rfl rfl rfl

theorem FrameFits.resetDevice : FrameFits.Statement .resetDevice := frameFits_of_some rfl rfl rfl

theorem FrameFits.setNoticePriority (kind priority : Byte) : FrameFits.Statement (.setNoticePriority kind priority) :=
  frameFits_of_some rfl rfl rfl

theorem FrameFits.setNoticeMask (level : Byte) :
    FrameFits.Statement (.setNoticeMask level) := frameFits_of_some rfl rfl rfl

theorem FrameFits.noticeFetch : FrameFits.Statement .noticeFetch := frameFits_of_some rfl rfl rfl

theorem FrameFits.panelSleep : FrameFits.Statement .panelSleep := frameFits_of_some rfl rfl rfl

theorem FrameFits.panelAwake : FrameFits.Statement .panelAwake := frameFits_of_some rfl rfl rfl

theorem FrameFits.setWakeFilter (slot useMark kind subject minPriority : Byte) :
    FrameFits.Statement (.setWakeFilter slot useMark kind subject minPriority) :=
  frameFits_of_some rfl rfl rfl

theorem FrameFits.readPort : FrameFits.Statement .readPort := frameFits_of_some rfl rfl rfl

theorem FrameFits.unknownRequestType (type : Byte) (payload : List Byte) :
    FrameFits.Statement (.unknownRequestType type payload) := by
  intro f hf hw
  cases hf
  exact ⟨by simp [WellFormed] at hw; exact hw.2, .inr ⟨payload, rfl⟩⟩

theorem FrameFits.panelFrameComplete (bytes : List Byte) :
    FrameFits.Statement (.panelFrameComplete bytes) := frameFits_of_none rfl

theorem FrameFits.panelFrameGap (byte : Byte) : FrameFits.Statement (.panelFrameGap byte) := frameFits_of_none rfl

theorem FrameFits.replySent : FrameFits.Statement .replySent := frameFits_of_none rfl

theorem FrameFits.noticeFrameSent : FrameFits.Statement .noticeFrameSent := frameFits_of_none rfl

theorem FrameFits.panelSilenceExpiry : FrameFits.Statement .panelSilenceExpiry := frameFits_of_none rfl

theorem FrameFits.driveIntervalExpiry : FrameFits.Statement .driveIntervalExpiry := frameFits_of_none rfl

theorem FrameFits.slotEnd : FrameFits.Statement .slotEnd := frameFits_of_none rfl

theorem FrameFits.spanFrameSent : FrameFits.Statement .spanFrameSent := frameFits_of_none rfl

theorem FrameFits.replyWindowExpiry : FrameFits.Statement .replyWindowExpiry := frameFits_of_none rfl

theorem FrameFits.reportReceived (bytes : List Byte) :
    FrameFits.Statement (.reportReceived bytes) := frameFits_of_none rfl

theorem FrameFits.spanFrameGap (byte : Byte) : FrameFits.Statement (.spanFrameGap byte) := frameFits_of_none rfl

theorem FrameFits.stallTimerExpiry (tower : Nat) :
    FrameFits.Statement (.stallTimerExpiry tower) := frameFits_of_none rfl

theorem FrameFits.quietTimerExpiry : FrameFits.Statement .quietTimerExpiry := frameFits_of_none rfl

theorem FrameFits.surveyTimerExpiry : FrameFits.Statement .surveyTimerExpiry := frameFits_of_none rfl

theorem FrameFits.sampleTimerExpiry : FrameFits.Statement .sampleTimerExpiry := frameFits_of_none rfl

theorem FrameFits.encoderReadComplete (position : Nat) (error : Bool) (order : SampleOrder) :
    FrameFits.Statement (.encoderReadComplete position error order) := frameFits_of_none rfl

theorem FrameFits.encoderReadTimeout : FrameFits.Statement .encoderReadTimeout := frameFits_of_none rfl

theorem FrameFits.prestartTimerExpiry : FrameFits.Statement .prestartTimerExpiry := frameFits_of_none rfl

theorem FrameFits.startFailTimerExpiry : FrameFits.Statement .startFailTimerExpiry := frameFits_of_none rfl

theorem FrameFits.stopTimerExpiry : FrameFits.Statement .stopTimerExpiry := frameFits_of_none rfl

theorem FrameFits.chainSenseChange (closed : Bool) :
    FrameFits.Statement (.chainSenseChange closed) := frameFits_of_none rfl

theorem FrameFits.powerFailAssert : FrameFits.Statement .powerFailAssert := frameFits_of_none rfl

theorem FrameFits.powerFailDeassert : FrameFits.Statement .powerFailDeassert := frameFits_of_none rfl

theorem FrameFits.recoveryTimerExpiry : FrameFits.Statement .recoveryTimerExpiry := frameFits_of_none rfl

theorem FrameFits.powerOnReset (recordCheck : Bool) :
    FrameFits.Statement (.powerOnReset recordCheck) := frameFits_of_none rfl

theorem FrameFits.deviceReset : FrameFits.Statement .deviceReset := frameFits_of_none rfl

theorem FrameFits.supplyLoss : FrameFits.Statement .supplyLoss := frameFits_of_none rfl

theorem FrameFits.storeWriteComplete (verified : Bool) :
    FrameFits.Statement (.storeWriteComplete verified) := frameFits_of_none rfl

theorem FrameFits.panelFrameLengthAbove120 (length : Byte) :
    FrameFits.Statement (.panelFrameLengthAbove120 length) := frameFits_of_none rfl

theorem FrameFits.spanFrameKindNotReport (kind : Byte) :
    FrameFits.Statement (.spanFrameKindNotReport kind) := frameFits_of_none rfl

end Sys2Proof.Laws
end

