-- ==== Sys2Proof/Laws/Sectors.lean ====
section
/-! SUPPORT. What the sector table's and the angle unit's small operations do, said once: the validation of R110 and Law 8, the
first firing barrier of R114, the read in progress of R20, and which states let a pass be steered. -/

namespace Sys2Proof.Machine

/-- The overlap check looks at each sector and the one after it. -/
theorem noOverlap_iff (t : List Sector) :
    noOverlap t = true ↔ t.IsChain fun a b => a.start ≤ a.finish ∧ a.finish ≤ b.start := by
  induction t with
  | nil => simp [noOverlap]
  | cons a t ih =>
    cases t with
    | nil => simp [noOverlap]
    | cons b t => simp [noOverlap, ih, Sector.wraps, and_assoc]

/-- The wrap check looks at the first and the last sector. -/
theorem wrapFits_iff (t : List Sector) : wrapFits t = true ↔
    ∀ a z, t.head? = some a → t.getLast? = some z → z.finish < z.start → t.length = 1 ∨ z.finish ≤ a.start := by
  unfold wrapFits
  cases ha : t.head? <;> cases hz : t.getLast? <;> simp [Sector.wraps]
  omega

/-- The zones check of a barrier, with its width written out. -/
theorem zonesFit_iff (c : Sector) : zonesFit c = true ↔
    ∀ m act lead trail, c.body = .barrier m act lead trail →
      ((c.finish : Int) - c.start) % 36000 + 2 * m ≤ 36000 := by
  unfold zonesFit
  cases h : c.body with
  | cap v => simp
  | barrier m act lead trail =>
    have w : (c.width : Int) = ((c.finish : Int) - c.start) % 36000 := by unfold Sector.width arc; omega
    simp only [decide_eq_true_eq, ← w, SectorBody.barrier.injEq]
    refine ⟨?_, fun b => ?_⟩
    · rintro b _ _ _ _ ⟨rfl, -⟩; omega
    · have := b m act lead trail ⟨rfl, rfl, rfl, rfl⟩; omega

/-- The validation of a closing part is Law 8 and the zones check of R110. -/
theorem validTable_iff_tableOrdered (t : List Sector) : validTable t = true ↔ tableOrdered t := by
  simp [validTable, tableOrdered, noOverlap_iff, wrapFits_iff, zonesFit_iff, List.pairwise_map, and_assoc]

/-- No barrier fires where none of the table does. -/
theorem fireFirst_eq_none (d : Direction) (q : Nat) (t : List Sector) :
    fireFirst d q t = none ↔ ∀ c ∈ t, c.fires d q = false := by
  induction t with
  | nil => simp [fireFirst]
  | cons c t ih => by_cases h : c.fires d q = true <;> simp [fireFirst, h, ih]

/-- The barrier that fires is the first that does; the others stand as they stood. -/
theorem fireFirst_eq_some (d : Direction) (q : Nat) (t u : List Sector) (c : Sector) :
    fireFirst d q t = some (u, c) ↔
      ∃ before after, t = before ++ c :: after ∧ u = before ++ c.setMark d .fired :: after ∧ c.fires d q = true ∧
        ∀ b ∈ before, b.fires d q = false := by
  induction t generalizing u with
  | nil => simp [fireFirst]
  | cons a t ih =>
    by_cases h : a.fires d q = true
    · simp only [fireFirst, h, if_true, Option.some.injEq, Prod.mk.injEq]
      constructor
      · rintro ⟨rfl, rfl⟩; exact ⟨[], t, rfl, rfl, h, nofun⟩
      · rintro ⟨_ | ⟨b, before⟩, after, h1, h2, h3, h4⟩
        · simp at h1; obtain ⟨rfl, rfl⟩ := h1; simp [h2]
        · simp at h1; obtain ⟨rfl, rfl⟩ := h1; simp [h] at h4
    · simp only [fireFirst, h, Bool.false_eq_true, if_false, Option.map_eq_some_iff, Prod.exists, Prod.mk.injEq]
      constructor
      · rintro ⟨v, e, hv, rfl, rfl⟩
        obtain ⟨before, after, rfl, rfl, h3, h4⟩ := (ih v).1 hv
        exact ⟨a :: before, after, rfl, rfl, h3, by simpa [h] using h4⟩
      · rintro ⟨_ | ⟨b, before⟩, after, h1, h2, h3, h4⟩
        · simp at h1; obtain ⟨rfl, rfl⟩ := h1; simp [h3] at h
        · simp at h1; obtain ⟨rfl, rfl⟩ := h1
          exact ⟨_, _, (ih _).2 ⟨before, after, rfl, rfl, h3, fun x hx => h4 x (by simp [hx])⟩, by simp [h2]⟩

/-- A table stays ordered when its marks change. -/
theorem tableOrdered_map (f : Sector → Sector) (t : List Sector)
    (hf : ∀ c, (f c).start = c.start ∧ (f c).finish = c.finish ∧ zonesFit (f c) = zonesFit c) :
    tableOrdered (t.map f) ↔ tableOrdered t := by
  have hz : t.map (fun c => zonesFit (f c)) = t.map zonesFit := by simp [hf]
  simp only [tableOrdered, ← zonesFit_iff, List.pairwise_map, List.isChain_map, List.mem_map, forall_exists_index, and_imp,
    forall_apply_eq_imp_iff₂, List.head?_map, List.getLast?_map, Option.map_eq_some_iff, List.length_map, hf]
  refine and_congr_right fun _ => and_congr_right fun _ => and_congr_left fun _ => ?_
  constructor
  · intro h a z ha hz' hw
    have := h (f a) (f z) a ha rfl z hz' rfl; simp only [hf] at this; exact this hw
  · rintro h _ _ a ha rfl z hz' rfl hw
    simp only [hf] at hw ⊢; exact h a z ha hz' hw

/-! ### The read in progress (R20) -/

variable (s : State)

@[simp] theorem State.endRead_angle : s.endRead.angle = { s.angle with reading := false } := rfl
@[simp] theorem State.endRead_pending : s.endRead.pending = s.pending := rfl
@[simp] theorem State.endRead_clock : s.endRead.clock = s.clock := rfl
@[simp] theorem State.endRead_powered : s.endRead.powered = s.powered := rfl
@[simp] theorem State.endRead_inputs : s.endRead.inputs = s.inputs := rfl
@[simp] theorem State.endRead_table : s.endRead.table = s.table := rfl
@[simp] theorem State.endRead_engine : s.endRead.engine = s.engine := rfl
@[simp] theorem State.endRead_span : s.endRead.span = s.span := rfl
@[simp] theorem State.endRead_run : s.endRead.run = s.run := rfl
@[simp] theorem State.endRead_sectors : s.endRead.sectors = s.sectors := rfl
@[simp] theorem State.endRead_watch : s.endRead.watch = s.watch := rfl
@[simp] theorem State.endRead_faults : s.endRead.faults = s.faults := rfl
@[simp] theorem State.endRead_panel : s.endRead.panel = s.panel := rfl
@[simp] theorem State.endRead_store : s.endRead.store = s.store := rfl

/-- `endRead` touches nothing but angle. -/
theorem State.endRead_frame : s.endRead = { s with angle := { s.angle with reading := false } } := rfl

/-- A word is heard only while a read is in progress and its 1 ms has not passed. -/
theorem State.readCompletes_of_late (q : Nat) (e : Bool) (o : SampleOrder)
    (h : s.angle.reading = false ∨ s.angle.sampleTimer.startedAt + 1 < s.clock) : s.readCompletes q e o = s := by
  unfold State.readCompletes State.readInTime
  rcases h with h | h
  · simp [h]
  · simp [show ¬ s.clock ≤ s.angle.sampleTimer.startedAt + 1 by omega]

/-- A word in time ends the read and its sample is taken. -/
theorem State.readCompletes_of_reading (q : Nat) (e : Bool) (o : SampleOrder) (h : s.angle.reading = true)
    (ht : s.clock ≤ s.angle.sampleTimer.startedAt + 1) : s.readCompletes q e o = s.endRead.takeSample q e o := by
  simp [State.readCompletes, State.readInTime, h, ht]

/-! ### Who may steer a pass (R100, R103, R128) -/

/-- STOP_PASS and a watch STOP are taken in exactly five machine states. -/
theorem State.takeStop_isSome (r : PassEnd) : (s.takeStop r).isSome = true ↔
    s.run.mstate ∈ [MState.running, .prestart, .stopping, .held, .recovering] := by
  unfold State.takeStop; cases s.run.mstate <;> simp

/-- REVERSE and a watch REVERSE are taken in exactly two. -/
theorem State.takeReverse_isSome : s.takeReverse.isSome = true ↔ s.run.mstate ∈ [MState.running, .held] := by
  unfold State.takeReverse; cases s.run.mstate <;> simp

/-- A position in range is a valid sample when the encoder reports no error. -/
theorem State.takeSample_of_lt (q : Nat) (o : SampleOrder) (h : q < 36000) : s.takeSample q false o = s.validSample q o := by
  simp [State.takeSample, h]

/-- The first valid sample after a reset goes to the sector table alone. -/
theorem State.validSample_of_first (q : Nat) (o : SampleOrder) (h : s.angle.previous = none) :
    s.validSample q o = ((s.holdAngle q).sectorSample none q).pivotDrift none q := by
  simp [State.validSample, h]

end Sys2Proof.Machine
end

