-- ==== Sys2Proof/Tests/Slice0.lean ====
section
/-! SUPPORT. The model's own tests: ill-formed terms that WellFormed refuses, check values and worked cases of the manual, and,
for every statement with hypotheses, a witness that meets them. -/

namespace Sys2Proof.Tests

set_option Elab.async false

open Machine

/-! ### WellFormed refuses what is not of a row's form -/

theorem test_wf_configMachine_missing_value : WellFormed (.configMachine 3 [4]) = false := by decide
theorem test_wf_configTower_surplus_value : WellFormed (.configTower 1 1 [1000, 2400]) = false := by decide
theorem test_wf_setSectors_twenty_entries : WellFormed (.setSectors 3 (List.replicate 20 default)) = false := by decide
theorem test_wf_unknown_type_of_catalogue : WellFormed (.unknownRequestType 0x4B []) = false := by decide
theorem test_wf_unknown_type_too_long : WellFormed (.unknownRequestType 0x99 (List.replicate 121 0)) = false := by decide
theorem test_wf_panel_frame_cut_short : WellFormed (.panelFrameComplete [0xA5, 1, 0x12, 0, 0]) = false := by decide
theorem test_wf_report_cut_short : WellFormed (.reportReceived [0x5A, 1, 0x81]) = false := by decide
theorem test_wf_stall_timer_of_tower_17 : WellFormed (.stallTimerExpiry 17) = false := by decide
theorem test_wf_length_120_is_no_long_length : WellFormed (.panelFrameLengthAbove120 120) = false := by decide
theorem test_wf_report_kind_is_no_other_kind : WellFormed (.spanFrameKindNotReport 0x81) = false := by decide

/-! ### Check values and frames (R181, 11.3, 11.4) -/

/-- The bytes of "123456789". -/
def digits : List Byte := [0x31, 0x32, 0x33, 0x34, 0x35, 0x36, 0x37, 0x38, 0x39]

theorem test_crc16 : crc16 digits = 0x29B1 := by decide +kernel
theorem test_crc32 : crc32 digits = 0xCBF43926 := by decide +kernel

/-- SET_PACE 600, its pace low byte first, and a length that does not fit. -/
theorem test_setPace_payload : parseRequest ⟨0x11, [0x58, 0x02]⟩ = .setPace 600 := by decide
theorem test_setPace_length : parseRequest ⟨0x11, [0x58]⟩ = .badLength 0x11 := by decide
theorem test_startPass_payload :
    parseRequest ⟨0x10, [1, 0x20, 0x03, 1, 0x9F, 0x8C, 0]⟩ = .startPass 1 800 1 35999 0 := by decide

/-! ### A machine of two towers, STOPPED and ready -/

def cfg (radius : Nat) : TowerConfig :=
  ⟨some radius, some 2400, some 20, some 120, some 1000, some 150, some 20, some 100, some 700, some 1200, some 2, some 150,
    some 50, some 3, some 45, some 40⟩

def halted : Report := ⟨.stopped, 0, some 0, 10, true, true, 0⟩

def online (r : Report) (order : Nat) : TowerDynamic :=
  { TowerDynamic.reset with report := some r, link := .online, status := .ready, lastOrder := order }

def towersOf (ts : List TowerRecord) : Vector TowerRecord 16 :=
  Vector.ofFn fun i => ts.getD i.val ⟨.empty, .reset⟩

def pass : Pass := ⟨.forward, 600, none, none, 0, 17000⟩

/-- The machine with its tower records, in a machine state. -/
def machine (ts : List TowerRecord) (m : MState) : State :=
  { State.reset with
    clock := 1000
    table := ⟨{ MachineRecord.empty with towerCount := some ts.length, panelSilence := some 0, driftAngle := some 50 },
      towersOf ts, []⟩
    angle := { State.reset.angle with
      sampleTimer := ⟨100, 1000⟩, reading := true, held := 17000, heldValid := true, previous := some 17000 }
    engine := ⟨some ⟨500, 600⟩, 7, .forward, 0⟩
    span := { State.reset.span with quietTimer := some ⟨300000, 0⟩, setInterval := some 7 }
    run := { State.reset.run with mstate := m, pass := some pass, contactor := m.contactor, warning := m.warning }
    panel := { State.reset.panel with tx := .idle, notices := [] } }

def two (m : MState) : State := machine [⟨cfg 1000, online halted 0⟩, ⟨cfg 2100, online halted 0⟩] m

theorem receptive_two (m : MState) : (two m).receptive := ⟨rfl, rfl, rfl⟩

/-! ### Worked cases of the manual -/

/-- The four-tower machine of 3.5's worked cases: joint angle, slip factor and last order of each tower. -/
def four (vs : List (Option Int × Nat × Nat)) : State :=
  machine ((vs.zip [1000, 2100, 3200, 4300]).map fun v =>
    ⟨cfg v.2, { online { halted with joint := v.1.1 } v.1.2.2 with slip := v.1.2.1 }⟩) .running

def ordersOf (s : State) : List Nat := s.members.map s.order

/-- "Worked case: one interval of a four-tower machine". -/
theorem test_orders_of_one_interval :
    ordersOf (four [(some 20, 0, 140), (some (-85), 40, 330), (some 10, 0, 440), (none, 0, 590)]) = [140, 406, 447, 600] := by
  decide +kernel

/-- "Worked case: straggler hold", its first interval. -/
theorem test_orders_of_straggler_hold :
    ordersOf (four [(some 30, 0, 150), (some 60, 40, 330), (some (-450), 0, 500), (none, 0, 600)]) = [0, 230, 600, 500] := by
  decide +kernel

/-- "Worked case: straggler hold", the interval that ends it. -/
theorem test_orders_after_straggler_hold :
    ordersOf (four [(some 20, 0, 0), (some 40, 40, 230), (some (-380), 0, 600), (none, 0, 500)]) = [120, 274, 700, 600] := by
  decide +kernel

/-- The slip factors of closes 1 to 4 of the worked case of 2.4, on tower 3. -/
theorem test_slip_of_worked_closes :
    nextSlip 40 (rawSlip (expectedMm 50 3200) (wheelMm 1450 20)) = 39 ∧
    nextSlip 39 (rawSlip (expectedMm 51 3200) (wheelMm 1720 20)) = 72 ∧
    nextSlip 72 (rawSlip (expectedMm 50 3200) (wheelMm 1790 20)) = 109 ∧
    nextSlip 109 (rawSlip (expectedMm 53 3200) (wheelMm 1850 20)) = 132 := by decide +kernel

/-! ### Witnesses: states and operands that meet the hypotheses of the statements, clause by clause -/

def withPanel (s : State) (f : PanelPort → PanelPort) : State := { s with panel := f s.panel }
def withRun (s : State) (f : RunController → RunController) : State := { s with run := f s.run }
def withRecords (s : State) (rs : List FaultRecord) : State := { s with faults := { s.faults with records := rs } }
def withSlot (s : State) (sl : Slot) : State := { s with span := { s.span with slot := some sl } }
def withMode (s : State) (m : LineMode) : State := { s with span := { s.span with mode := m } }
def withDyn (s : State) (d : TowerDynamic) : State := { s with table := { s.table with
  towers := setNth s.table.towers 1 ⟨(s.tower 1).cfg, d⟩ } }

def slot (kind : SlotKind) (tower : Nat) (phase : SlotPhase) : Slot :=
  ⟨kind, tower, phase, 7, .forward, 0, 30, 900, 905, false⟩

def record (k : FaultKind) (tower : Option Nat) (m : FaultMode) (c : Condition) : FaultRecord :=
  ⟨k, tower, m, c, 17000, 17000, 1⟩

/-- 32 records of a mode, no two alike. -/
def fullList (m : FaultMode) : List FaultRecord :=
  (upTo 16).map (fun k => record .jointWarn (some k) m .active) ++ (upTo 16).map fun k => record .slip (some k) m .latched

/-- 32 notices, no two alike. -/
def fullQueue : List Notice :=
  ([.passEnd .panel, .startFailed .held, .quiet true, .recovery .pending, .restarted false, .configInvalid,
      .fault .drift .hard 1 .new none] : List NoticeData).map (fun d => ⟨.machine, d, 1, none⟩) ++
    (upTo 16).map (fun k => ⟨.tower k, .fault .slip .immediate 1 .new none, 1, none⟩) ++
    (upTo 8).map (fun n => ⟨.watch n, .watchFired .enter .forward .taken, 1, none⟩) ++
    [⟨.machine, .state .held none, 1, none⟩]

theorem witness_IdleStep : State.reset.pending = [] := rfl

theorem witness_UnpoweredPart :
    ({ State.reset with powered := false } : State).powered = false ∧ Instr.hold ≠ .supplyLoss ∧
      ∀ b, Instr.hold ≠ .powerOnReset b := ⟨rfl, by decide, nofun⟩

/-! The laws: a machine RUNNING meets every one, with STOP_PASS in front of its queue. -/

def running : State := { two .running with pending := [.stopPass] }

theorem witness_step : ∃ t, step running = .next t := ⟨_, rfl⟩

theorem tower_past (s : State) (k : Nat) (h : ¬ k ≤ 16) : s.tower k = ⟨.empty, .reset⟩ := by
  unfold State.tower nth; exact dif_neg fun b => h b.2

theorem running_tower_beyond (k : Nat) (h : 2 < k) : running.tower k = ⟨.empty, .reset⟩ := by
  have inside : ∀ j ∈ List.range 14, running.tower (j + 3) = ⟨.empty, .reset⟩ := by decide +kernel
  by_cases hk : k ≤ 16
  · have := inside (k - 3) (by simp; omega)
    rwa [show k - 3 + 3 = k by omega] at this
  · exact tower_past running k hk

theorem of_none {α : Type} {o : Option α} {P : α → Prop} (h : o = none) : ∀ a, o = some a → P a :=
  fun _ ha => by rw [h] at ha; cases ha

theorem of_nil {α : Type} {l : List α} {P : α → Prop} (h : l = []) : ∀ a ∈ l, P a := by rw [h]; nofun

theorem of_failing {P : ConfigImage → Prop} {c : StoredCopy} (h : c = .failing) : ∀ i b, c = .written i b → P i :=
  fun _ _ hi => StoredCopy.noConfusion (h.symm.trans hi)

theorem witness_laws : running.outputsFollow ∧ running.quietOnlyStopped ∧ running.ordersAtRest ∧ running.hardStopped ∧
    running.noticesDistinct ∧ running.faultsDistinct ∧ running.modesAgree := by
  have moving : running.run.mstate.moving = true := rfl
  have active : running.span.mode = .active := rfl
  have still : running.activeHard = false := rfl
  refine ⟨⟨rfl, rfl⟩, ?_, ?_, ?_, ⟨by decide, by decide⟩, ⟨by decide, by decide⟩, of_nil rfl, of_none rfl, of_none rfl⟩
  · intro h; rw [active] at h; cases h
  · intro h; rw [moving] at h; cases h
  · intro h; rw [still] at h; cases h

/-- A machine at rest with a DRIVE frame of order 0 being sent. -/
def resting : State := { withSlot (two .stopped) ⟨.drive, 1, .sending, 7, .forward, 0, 30, 1000, 1000, false⟩ with
  pending := [.spanFrameSent] }

theorem witness_ordersAtRest : resting.run.mstate.moving = false ∧ resting.ordersAtRest ∧ ∃ t, step resting = .next t := by
  refine ⟨rfl, fun _ => ⟨by decide +kernel, fun sl h _ _ => ?_⟩, _, rfl⟩
  have : resting.span.slot = some ⟨.drive, 1, .sending, 7, .forward, 0, 30, 1000, 1000, false⟩ := rfl
  rw [this] at h; cases h; rfl

theorem witness_sectorsOrdered : running.sectorsOrdered :=
  ⟨⟨.nil, .nil, nofun, nofun⟩, of_none rfl, of_failing rfl, of_none rfl⟩

theorem witness_slipBounded : running.slipBounded := by
  have small : ∀ j ∈ List.range 3, (running.tower j).dyn.slip ≤ 300 := by decide +kernel
  intro k
  by_cases h : 2 < k
  · rw [running_tower_beyond k h]; decide
  · exact small k (by simp; omega)

theorem witness_linksAgree : running.linksAgree := by
  have links : ∀ k ∈ running.members, (running.tower k).dyn.link = .online ∧ (running.tower k).dyn.misses = 0 := by
    decide +kernel
  intro k hk
  unfold TowerDynamic.linkAgrees
  rw [(links k hk).1]
  exact (links k hk).2

theorem witness_anglesHold : running.anglesHold := by
  have watches : ∀ w ∈ running.watch.entries.toList, w.cfg.ref < 36000 := by decide +kernel
  refine ⟨(by decide : 17000 < 36000), ?_, of_none rfl, ?_, of_none rfl, ?_, of_nil rfl, of_none rfl, of_none rfl, watches,
    of_nil rfl, of_failing rfl, of_none rfl⟩
  · have : running.angle.previous = some 17000 := rfl
    intro a h; rw [this] at h; cases h; exact (by decide : 17000 < 36000)
  · have : running.run.pass = some pass := rfl
    intro p h; rw [this] at h; cases h; exact ⟨(by decide : 17000 < 36000), of_none rfl⟩
  · have : running.store.record.captured = none := rfl
    intro a v h; rw [this] at h; cases h

theorem witness_configRanged : running.configRanged := by
  have machine : ∀ f ∈ machineFields, ∀ v ∈ running.table.machine.get f, f.inRange v = true := by decide +kernel
  have tower : ∀ r ∈ running.table.towers.toList, ∀ f ∈ towerFields, ∀ v ∈ r.cfg.get f, f.inRange v = true := by
    decide +kernel
  refine ⟨fun f v h => machine f (by cases f <;> decide) v h, ⟨rfl, rfl⟩,
    fun r hr f v h => tower r hr f (by cases f <;> decide) v h, of_nil rfl, of_failing rfl, of_none rfl⟩

/-! The panel port. -/

theorem witness_RequestFrames :
    Request.fits (.configMachine 0x0FFF (List.replicate 12 0)) = true ∧
    Request.fits (.configTower 16 0xFFFF (List.replicate 16 65535)) = true ∧
    Request.fits (.setSectors 3 (List.replicate 19 default)) = true ∧ Request.fits (.unknown 0xFF) = true ∧
    Request.fits (.badLength 0x20) = true := by decide +kernel

theorem witness_FrameBytes : Instr.frame (.setSectors 3 (List.replicate 19 default)) =
      some (frameOf (.setSectors 3 (List.replicate 19 default))) ∧
    (frameOf (.setSectors 3 (List.replicate 19 default))).payload.length ≤ 120 ∧ State.reset.panel.rx = [] :=
  ⟨rfl, by decide +kernel, rfl⟩

theorem witness_Gaps :
    (withPanel (two .stopped) fun p => { p with rx := [0xA5] }).panel.rx = [0xA5] ∧ 120 < (121 : Byte).toNat ∧
    (two .stopped).panel.rx.length ≠ 1 ∧ (120 : Byte).toNat ≤ 120 ∧
    ({ (two .stopped).span with rx := [0x5A, 1] } : SpanMaster).rx = [0x5A, 1] ∧ (0x80 : Byte) ≠ 0x81 ∧
    (withSlot (two .stopped) (slot .drive 1 .sending)).span.slot = some (slot .drive 1 .sending) ∧
    (two .stopped).span.slot = none ∧ (two .stopped).panel.rx = [] ∧ (two .stopped).span.rx = [] ∧
    (0 : U16) ≠ crc16 [0xA5, 0, 0x13] ∧ (0 : U16) ≠ crc16 (ReportFrame.body ⟨1, 7, 0, 0, 0, 10, 3⟩) := by decide +kernel

theorem witness_BusyPort :
    Instr.frame .hold = some ⟨0x13, []⟩ ∧
    (withPanel (two .running) fun p => { p with service := some ⟨0x38, none⟩ }).panel.service.isSome = true ∧
    (withPanel (two .running) fun p => { p with intake := List.replicate 4 ⟨0x13, []⟩ }).panel.intake.length = 4 ∧
    (0x99 : Byte).toNat ∉ catalogue ∧
    Instr.frame (.configMachine 3 [4]) = some (frameOf (.configMachine 3 [4])) ∧
    parseRequest (frameOf (.configMachine 3 [4])) = .badLength 0x01 := by decide +kernel

theorem witness_Heard : (two .running).span.mode = .active ∧ State.reset.run.mstate = .unconfigured ∧
    (withMode (two .stopped) .quiet).span.mode = .quiet ∧ (withMode (two .stopped) .quiet).span.slot = none ∧
    1 ≤ (withMode (two .stopped) .quiet).towerCount ∧ (withMode (two .stopped) .quiet).run.mstate ≠ .unconfigured ∧
    (withMode (withSlot (two .stopped) (slot .rest 0 .sending)) .quiet).span.slot ≠ none ∧ Request.hold ≠ .panelSleep := by
  decide +kernel

/-- A full queue with an entry of the notice's key, one with entries below its priority, and one with none below. -/
theorem witness_Notices :
    (withPanel (two .running) fun p => { p with notices := fullQueue }).noticesDistinct ∧ fullQueue.length = 32 ∧
    fullQueue = fullQueue.take 31 ++ ⟨.machine, .state .held none, 1, none⟩ :: [] ∧
    (∀ n ∈ fullQueue, n.key ≠ (.fault, .tower 17)) ∧
    (∀ n ∈ fullQueue, n.data.kind = .quiet ↔ n = ⟨.machine, .quiet true, 1, none⟩) ∧
    fullQueue = fullQueue.take 2 ++ ⟨.machine, .quiet true, 1, none⟩ :: fullQueue.drop 3 ∧
    (∀ n ∈ fullQueue, n.sending = none ∧
      (n ≠ ⟨.machine, .quiet true, 1, none⟩ → 2 < (two .running).priority n.data.kind)) ∧
    (two .running).priority .quiet = 2 ∧ (two .running).priority .fault = 10 ∧
    (∀ n ∈ fullQueue.map (fun n => { n with sending := some 0 }), n.sending ≠ none) := by
  refine ⟨⟨by decide +kernel, by decide +kernel⟩, ?_⟩
  decide +kernel

/-- The queue a NOTICE_FETCH finds in which the fifth entry is the highest, one of equal priorities in which the kind code and
then the age decide, and one whose only entry is being sent. -/
theorem witness_NoticeFetch :
    let full := withPanel (two .running) fun p => { p with notices := fullQueue }
    let fault (k : Nat) : Notice := ⟨.tower k, .fault .slip .immediate 1 .new none, 1, none⟩
    let tied := withPanel (two .running) fun p => { p with
      priorities := Vector.replicate 9 7
      notices := [⟨.machine, .configInvalid, 1, none⟩, fault 1, ⟨.machine, .state .held none, 1, some 0⟩, fault 2,
        ⟨.machine, .recovery .pending, 1, none⟩] }
    let sending := withPanel (two .running) fun p => { p with notices := [⟨.machine, .configInvalid, 1, some 0⟩] }
    (full.receptive ∧ tied.receptive ∧ sending.receptive) ∧
    (full.heard .noticeFetch).noticesDistinct ∧ (tied.heard .noticeFetch).noticesDistinct ∧
    (full.heard .noticeFetch).panel.notices = fullQueue.take 4 ++ ⟨.machine, .restarted false, 1, none⟩ :: fullQueue.drop 5 ∧
    (∀ m ∈ fullQueue.take 4, (full.heard .noticeFetch).priority m.data.kind < (full.heard .noticeFetch).priority .restarted) ∧
    (∀ m ∈ fullQueue.drop 5, (full.heard .noticeFetch).priority m.data.kind < (full.heard .noticeFetch).priority .restarted ∨
      ((full.heard .noticeFetch).priority m.data.kind = (full.heard .noticeFetch).priority .restarted ∧
        NoticeKind.restarted.code ≤ m.data.kind.code)) ∧
    (tied.heard .noticeFetch).panel.notices = tied.panel.notices ∧
    (∀ k ∈ [NoticeKind.configInvalid, .recovery], (tied.heard .noticeFetch).priority k =
      (tied.heard .noticeFetch).priority .fault ∧ NoticeKind.fault.code < k.code) ∧
    (∀ n ∈ (sending.heard .noticeFetch).panel.notices, n.sending ≠ none) := by
  refine ⟨⟨⟨rfl, rfl, rfl⟩, ⟨rfl, rfl, rfl⟩, ⟨rfl, rfl, rfl⟩⟩, ⟨by decide +kernel, by decide +kernel⟩,
    ⟨by decide +kernel, by decide +kernel⟩, ?_⟩
  decide +kernel

theorem witness_Transmit :
    (two .running).panel.tx = .idle ∧ (two .running).panel.service = none ∧ (two .running).panel.asleep = false ∧
    fullQueue = fullQueue.take 4 ++ ⟨.machine, .restarted false, 1, none⟩ :: fullQueue.drop 5 ∧
    (two .running).panel.mask < (two .running).priority .restarted ∧
    (∀ m ∈ fullQueue.take 4, (two .running).priority m.data.kind < (two .running).priority .restarted) ∧
    (∀ m ∈ fullQueue.drop 5, (two .running).priority m.data.kind < (two .running).priority .restarted ∨
      ((two .running).priority m.data.kind = (two .running).priority .restarted ∧
        NoticeKind.restarted.code ≤ m.data.kind.code)) ∧
    (∀ n ∈ fullQueue, (two .running).priority n.data.kind ≤ 15) ∧
    (withPanel (two .running) fun p => { p with service := some ⟨0x13, some ⟨0x13, .ok, none, .none⟩⟩ }).panel.service =
      some ⟨0x13, some ⟨0x13, .ok, none, .none⟩⟩ := by decide +kernel

def sendingReply (type : Byte) (waiting : List PanelFrame) : State :=
  withPanel (two .stopped) fun p => { p with
    tx := .reply ⟨type, .ok, none, .none⟩ false, service := some ⟨type, some ⟨type, .ok, none, .none⟩⟩, intake := waiting }

theorem witness_Ends :
    (sendingReply 0x13 []).panel.tx = .reply ⟨0x13, .ok, none, .none⟩ false ∧ (sendingReply 0x13 []).panel.intake = [] ∧
    (sendingReply 0x13 [⟨0x12, []⟩]).panel.intake = ⟨0x12, []⟩ :: [] ∧
    (sendingReply 0x39 []).panel.tx = .reply ⟨0x39, .ok, none, .none⟩ false ∧
    State.reset.panel.tx = .notice ⟨.machine, .restarted false, 1, false⟩ := by decide +kernel

theorem witness_SilenceAndStall :
    (withPanel (two .stopped) fun p => { p with silenceTimer := some ⟨30000, 900⟩ }).panel.silenceTimer =
      some ⟨30000, 900⟩ ∧
    ((two .running).tower 16).dyn.stall = .idle ∧
    ((withDyn (two .running) { online halted 400 with stall := .running 10 900 }).tower 1).dyn.stall = .running 10 900 := by
  decide +kernel

theorem witness_PortSettings : noticeKindOf 1 = some .state ∧ noticeKindOf 9 = some .configInvalid ∧
    noticeKindOf 0 = none ∧ noticeKindOf 10 = none ∧ noticeKindOf 3 = some .fault ∧ noticeKindOf 4 = some .watchFired := by
  decide

/-! The tower table. -/

theorem witness_ReadTower :
    (∀ f ∈ undefaulted, (two .stopped).setting (.tower 16 f) = none) ∧
    (∃ f ∈ undefaulted, (two .stopped).setting (.tower 1 f) ≠ none) := by decide +kernel

theorem witness_ConfigChecked :
    (∃ w ∈ presentFields machineFields 1 [4], w.1.geometry = true) ∧
    (∃ w ∈ presentFields towerFields 1 [1000], w.1.geometry = true) ∧
    (∀ w ∈ presentFields machineFields 0x1008 [500, 0], w.1.geometry = false) ∧ 4096 ≤ (0x1008 : U16).toNat ∧
    (∃ w ∈ presentFields machineFields 1 [17], w.1.inRange w.2 = false) ∧
    (∃ w ∈ presentFields towerFields 1 [49], w.1.inRange w.2 = false) := by decide +kernel

/-- Requests that pass the first three checks of R9 and fail the fourth: equal radii, 200 ms for a round of sixteen towers, a
min-run order at the max order and a joint warn at the joint trip. -/
theorem witness_Inconsistent :
    (two .stopped).setting (.tower 1 .radius) = some 1000 ∧ (two .stopped).setting (.machine .towerCount) = some 2 ∧
    presentFields towerFields 1 [1000] = [(.radius, 1000)] ∧ inRange (.tower 2 .radius, 1000) = true ∧
    presentFields machineFields 3 [16, 200] = [(.towerCount, 16), (.driveInterval, 200)] ∧ 200 < (16 + 2) * 15 ∧
    inRange (.machine .towerCount, 16) = true ∧ inRange (.machine .driveInterval, 200) = true ∧
    presentFields towerFields 0x18 [400, 400] = [(.minRun, 400), (.maxOrder, 400)] ∧
    inRange (.tower 1 .minRun, 400) = true ∧ inRange (.tower 1 .maxOrder, 400) = true ∧
    presentFields towerFields 0x300 [900, 900] = [(.jointWarn, 900), (.jointTrip, 900)] ∧
    inRange (.tower 1 .jointWarn, 900) = true ∧ inRange (.tower 1 .jointTrip, 900) = true := by
  decide +kernel

theorem witness_Staged :
    (∀ w ∈ presentFields machineFields 8 [1500], w.1.geometry = false ∧ w.1.inRange w.2 = true) ∧
    ((two .running).candidate [(.machine .stragglerAngle, 1500)]).radiiIncrease = true ∧
    ((two .running).candidate [(.machine .stragglerAngle, 1500)]).roundFits = true ∧
    presentFields machineFields 8 [1500] = [(.stragglerAngle, 1500)] ∧
    (∀ w ∈ presentFields towerFields 0x20 [200], w.1.geometry = false ∧ w.1.inRange w.2 = true) ∧
    presentFields towerFields 0x20 [200] = [(.gain, 200)] ∧
    ((two .running).candidate [(.tower 1 .gain, 200)]).radiiIncrease = true ∧
    ((two .running).candidate [(.tower 1 .gain, 200)]).towerConsistent 1 = true := by decide +kernel

theorem witness_Unconfigured :
    (two .unconfigured).run.mstate = .unconfigured ∧ (two .unconfigured).table.pending = [] ∧
    presentFields machineFields 1 [2] = [(.towerCount, 2)] ∧ inRange (.machine .towerCount, 2) = true ∧
    ((two .unconfigured).candidate [(.machine .towerCount, 2)]).roundFits = true ∧
    ((two .unconfigured).candidate [(.machine .towerCount, 2)]).radiiIncrease = true ∧
    presentFields towerFields 1 [12000] = [(.radius, 12000)] ∧ inRange (.tower 16 .radius, 12000) = true ∧
    ((two .unconfigured).candidate [(.tower 16 .radius, 12000)]).towerConsistent 16 = true ∧
    ((two .unconfigured).candidate [(.tower 16 .radius, 12000)]).radiiIncrease = true := by decide +kernel

/-- Geometry written in STOPPED, and states for what each value written does. -/
theorem witness_Geometry :
    presentFields machineFields 1 [3] = [(.towerCount, 3)] ∧ (FieldKey.machine .towerCount).geometry = true ∧
    ((two .stopped).candidate [(.machine .towerCount, 3)]).roundFits = true ∧
    ((two .stopped).candidate [(.machine .towerCount, 3)]).radiiIncrease = true ∧
    presentFields towerFields 1 [2000] = [(.radius, 2000)] ∧ (FieldKey.tower 2 .radius).geometry = true ∧
    ((two .stopped).candidate [(.tower 2 .radius, 2000)]).towerConsistent 2 = true ∧
    ((two .stopped).candidate [(.tower 2 .radius, 2000)]).radiiIncrease = true ∧
    (two .stopped).towerCount ≠ 3 ∧ (min 2 3 < 3 ∧ 3 ≤ max 2 3) ∧
    ((withDyn (two .stopped) { online halted 0 with link := .missing, misses := 3 }).tower 1).dyn.link = .missing ∧
    (two .stopped).mval .missLimit = 3 ∧ (two .stopped).mval .panelSilence = 0 ∧
    0 < ({ two .stopped with table := { (two .stopped).table with
      machine := { MachineRecord.empty with panelSilence := some 30 } } } : State).mval .panelSilence ∧
    ((withDyn (two .running) { online halted 400 with stall := .running 10 900 }).tower 1).dyn.stall = .running 10 900 ∧
    (two .stopped).complete = true ∧ (machine [⟨{ cfg 1000 with radius := none }, .reset⟩] .stopped).complete = false := by
  decide +kernel

/-! The run controller. -/

/-- A barrier whose lead zone holds the angle 17000. -/
def barrier : Sector := ⟨18000, 20000, .barrier 1500 .stop .armed .armed⟩

theorem witness_StartPass :
    directionOf 0 = some .forward ∧ directionOf 1 = some .reverse ∧ (35999 : U16).toNat < 36000 ∧
    (two .stopped).inputs.chainClosed = true ∧ (two .stopped).angle.heldValid = true ∧
    (two .stopped).faults.records = [] ∧ (two .stopped).sectors.installed = [] ∧
    directionOf 2 = none ∧ 36000 ≤ (36000 : U16).toNat ∧
    barrier.ahead .forward (two .stopped).angle.held = true ∧ barrier.ahead .reverse (two .stopped).angle.held = false := by
  decide +kernel

theorem witness_RunRefused : takenIn .hold = some [.running] ∧ (two .stopped).run.mstate ∉ [MState.running] ∧
    State.reset.run.mstate ∉ [MState.running] := by decide

theorem witness_Steer :
    (two .running).run.mstate = .running ∧ (two .prestart).run.mstate = .prestart ∧
    (withRun (two .stopping) fun c => { c with dest := some .held }).run.dest ≠ some .stopped ∧
    (withRun (two .stopping) fun c => { c with dest := some .stopped }).run.dest = some .stopped ∧
    (two .held).run.mstate = .held ∧ (two .recovering).run.mstate = .recovering := by decide +kernel

theorem witness_ResumeAndTripReset :
    (∃ r ∈ [record .drift none .immediate .latched], r.mode ≠ .deferred) ∧
    (withRecords (two .tripped) [record .chainOpen none .hard .active]).modesAgree ∧
    (withRecords (two .tripped) [record .chainOpen none .hard .latched]).modesAgree ∧
    (two .tripped).inputs.chainClosed = true :=
  ⟨by decide, ⟨by decide, nofun, nofun⟩, ⟨by decide, nofun, nofun⟩, rfl⟩

theorem witness_Prestart :
    (two .prestart).run.prestartTimer = none ∧ (two .prestart).span.mode = .active ∧
    (∀ k, 1 ≤ k → k ≤ (two .prestart).towerCount →
      ((two .prestart).tower k).dyn.link = .online ∧ ((two .prestart).tower k).dyn.status = .ready) ∧
    (withRun (two .prestart) fun c => { c with prestartTimer := some ⟨10000, 900⟩ }).run.prestartTimer =
      some ⟨10000, 900⟩ ∧
    (withRun (two .prestart) fun c => { c with startFailTimer := some ⟨40000, 900⟩, origin := some .new }).run.origin =
      some .new := by decide +kernel

theorem witness_Stopping :
    (∀ k, 1 ≤ k → k ≤ (two .stopping).towerCount → ((two .stopping).tower k).dyn.lastOrder = 0 ∧
      ((two .stopping).tower k).dyn.report = some halted) ∧
    (withRun (two .stopping) fun c => { c with dest := some .stopped, reason := some .panel }).run.reason = some .panel ∧
    (withRun (two .stopping) fun c => { c with dest := some .reversing }).run.dest = some .reversing ∧
    (withRun (two .stopping) fun c => { c with stopTimer := some ⟨30000, 900⟩ }).run.stopTimer = some ⟨30000, 900⟩ ∧
    (two .stopping).modesAgree := ⟨by decide +kernel, rfl, rfl, rfl, nofun, nofun, nofun⟩

/-! Faults. -/

/-- A list with a record of the key, and full lists of IMMEDIATE and of DEFERRED records. -/
theorem witness_Raisings :
    (withRecords (two .running) (fullList .deferred)).faultsDistinct ∧
    (withRecords (two .running) (fullList .immediate)).faultsDistinct ∧ (fullList .deferred).length = 32 ∧
    (record .slip (some 3) .immediate .latched).key = (.slip, some 3) ∧
    (∀ r ∈ fullList .deferred, r.key ≠ (.stopTimeout, none)) ∧
    fullList .deferred = (fullList .deferred).take 16 ++ record .slip (some 1) .deferred .latched ::
      (fullList .deferred).drop 17 ∧
    (∀ r ∈ (fullList .deferred).take 16, r.mode = .deferred → r.condition = .active) ∧
    (∀ r ∈ fullList .immediate, r.mode ≠ .deferred) ∧
    ((two .running).faults.modes.mode .stopTimeout = .hard ∧ (two .running).faults.modes.mode .drift ≠ .hard) := by
  refine ⟨⟨by decide +kernel, by decide +kernel⟩, ⟨by decide +kernel, by decide +kernel⟩, ?_⟩
  decide +kernel

theorem witness_HoldAndTrip :
    (two .running).span.mode = .active ∧ (two .stopped).run.mstate ∉ [MState.prestart, .running, .stopping] ∧
    (two .prestart).run.mstate ∈ [MState.prestart, .running, .stopping] ∧
    (withRun (two .stopping) fun c => { c with dest := some .reversing }).run.dest = some .reversing ∧
    (withRun (two .stopping) fun c => { c with dest := some .held }).run.dest ≠ some .reversing := by decide +kernel

theorem witness_FaultModes :
    faultKindOf 0 = none ∧ faultKindOf 14 = none ∧ faultKindOf 1 = some .jointWarn ∧ faultKindOf 6 = some .panelSilent ∧
    faultKindOf 2 = some .slip ∧ faultKindOf 5 = some .drift ∧ faultKindOf 13 = some .angleInvalid ∧
    (two .stopped).faults.modes.mode .slip = .immediate ∧ (two .stopped).faults.modes.mode .panelSilent = .deferred ∧
    (∃ r ∈ (withRecords (two .running) [record .panelSilent none .deferred .active]).faults.records,
      r.kind = .panelSilent) ∧ (16 : Byte).toNat ≤ 16 ∧ 16 < (17 : Byte).toNat := by decide +kernel

/-- A chain that is closed, one that is open, and a tower whose report shows its switch open. -/
theorem witness_Chain :
    (two .running).inputs.chainClosed = true ∧ (two .running).run.contactor = true ∧ (two .held).run.contactor = false ∧
    ({ two .tripped with inputs := ⟨false, false⟩ } : State).inputs.chainClosed = false ∧
    (∃ r, ((withDyn (two .running) (online { halted with switchClosed := false } 0)).tower 1).dyn.report = some r ∧
      r.switchClosed = false) ∧
    (∀ k, 1 ≤ k → k ≤ 2 → ((two .running).tower k).dyn.report = some halted) :=
  ⟨rfl, rfl, rfl, rfl, ⟨_, rfl, rfl⟩, by decide +kernel⟩

/-! Sectors and watches. -/

def entry (a b v : Nat) : SectorEntry := ⟨BitVec.ofNat 16 a, BitVec.ofNat 16 b, BitVec.ofNat 16 v⟩

theorem witness_SetSectors :
    (∃ e ∈ [entry 5 5 0], sectorOf e = none) ∧
    [entry 0 35999 1000].map sectorOf = [⟨0, 35999, .cap 1000⟩].map some ∧ tableOrdered [⟨0, 35999, .cap 1000⟩] ∧
    ¬ tableOrdered [⟨0, 35999, .cap 1000⟩, ⟨10, 20, .cap 0⟩] ∧
    (two .stopped).sectors.build = none ∧ 16383 < 16384 ∧ (35999 : U16).toNat < 36000 ∧ (35999 : U16) ≠ 0 := by
  simp only [← validTable_iff_tableOrdered]; decide +kernel

def barred : State :=
  { two .running with sectors := { (two .running).sectors with installed := [⟨0, 100, .cap 0⟩, barrier] } }

/-- The edges of the zones of a barrier from 18000 to 20000 with margin 1500: 16500 lies in the lead zone and 16499 does not,
21499 in the trail zone and 21500 does not; 18000 lies in the barrier and 20000 does not. -/
theorem witness_Barriers :
    barred.run.mstate = .running ∧ barred.sectors.installed = [⟨0, 100, .cap 0⟩] ++ barrier :: [] ∧
    barrier.body = .barrier 1500 .stop .armed .armed ∧ (∀ m a l t, SectorBody.cap 0 ≠ .barrier m a l t) ∧
    (1 ≤ ((barrier.start : Int) - 16500) % 36000 ∧ ((barrier.start : Int) - 16500) % 36000 ≤ 1500) ∧
    ¬ ((barrier.start : Int) - 16499) % 36000 ≤ 1500 ∧ ((21499 : Int) - barrier.finish) % 36000 < 1500 ∧
    ¬ ((21500 : Int) - barrier.finish) % 36000 < 1500 ∧
    ((18000 : Int) - barrier.start) % 36000 < ((barrier.finish : Int) - barrier.start) % 36000 ∧
    ¬ ((20000 : Int) - barrier.start) % 36000 < ((barrier.finish : Int) - barrier.start) % 36000 :=
  ⟨rfl, rfl, rfl, nofun, by decide +kernel⟩

theorem witness_SetWatch :
    dirSelectorOf 0 = some .none ∧ dirSelectorOf 3 = some .both ∧ crossSelectorOf 0 = some .none ∧
    crossSelectorOf 3 = some .both ∧ stateSelectorOf 0 = some .none ∧ stateSelectorOf 3 = some .any ∧
    watchActionOf 0 0 = some .notice ∧ watchActionOf 5 1000 = some (.pace 1000) ∧ watchActionOf 2 4 = some (.auxOff 4) ∧
    ¬ (9 : Byte).toNat ≤ 8 ∧ ¬ (2 : Byte).toNat ≤ 1 ∧ ¬ ((1 : Byte) = 1 → 1 ≤ (5 : U16).toNat ∧ (5 : U16).toNat ≤ 4) := by
  decide +kernel

theorem witness_SetAux : auxModeOf 0 = some .auto ∧ auxModeOf 2 = some .forcedOff ∧ auxModeOf 3 = none ∧
    (1 : Byte).toNat = (0 : Fin 4).val + 1 ∧ (4 : Byte).toNat = (3 : Fin 4).val + 1 := by decide

/-- A window of half-width 300 about 9000, one of half-width 0, and the watch actions in states that take them. -/
theorem witness_Watches :
    (let w : WatchConfig := ⟨true, 9000, 300, .both, .both, .any, .notice, false⟩;
      w.inside 8699 = false ∧ w.inside 8700 = true ∧ w.inside 9300 = true ∧ w.inside 9301 = false) ∧
    (let w : WatchConfig := ⟨true, 9000, 0, .both, .both, .any, .notice, false⟩;
      w.inside 8999 = false ∧ w.inside 9001 = false ∧ 0 < angleDiff 8999 9001) ∧
    (⟨true, 35999, 18000, .both, .both, .any, .notice, false⟩ : WatchConfig).inside 17999 = true ∧
    ((two .running).watchEntry 8).cfg.action = .notice ∧ ((two .running).watchEntry 8).cfg.enabled = false ∧
    (two .running).run.mstate ≠ .stopping ∧ 0 < angleDiff 35999 0 ∧ angleDiff 0 35999 < 0 ∧ angleDiff 5 5 = 0 ∧
    (two .running).takeStop .watch ≠ none ∧ (two .running).takeReverse ≠ none ∧
    (two .tripped).run.mstate ∈ [MState.stopped, .tripped, .powerWait, .unconfigured] := by decide +kernel

/-- The worked window of R122, reference angle 200 and half-width 300. -/
theorem test_watchWindow : let w : WatchConfig := ⟨true, 200, 300, .both, .both, .any, .notice, false⟩;
    w.inside 35900 = true ∧ w.inside 35899 = false ∧ w.inside 0 = true ∧ w.inside 500 = true ∧ w.inside 501 = false ∧
    w.inside 18200 = false := by decide

/-- Live entries whose selectors match at their ends, one that MOVING does not admit, and one with a selector at NONE. -/
theorem witness_WatchSelectors :
    let at' (m : MState) (w : WatchConfig) : State := { two m with watch := { (two m).watch with
      entries := setNth (two m).watch.entries 8 ⟨w, false, 0⟩ } }
    let moving : WatchConfig := ⟨true, 9000, 300, .forward, .enter, .moving, .notice, false⟩
    let none' : WatchConfig := ⟨true, 9000, 17999, .both, .none, .any, .notice, false⟩
    ((at' .stopping moving).watchEntry 8 = ⟨moving, false, 0⟩ ∧ (at' .stopping moving).run.mstate = .stopping) ∧
    ((at' .held moving).watchEntry 8 = ⟨moving, false, 0⟩ ∧ (at' .held moving).run.mstate = .held) ∧
    ((at' .running none').watchEntry 8).cfg.crossing = .none := by decide +kernel

/-- Watches of action STOP and REVERSE, on an ACTIVE line, in each state that takes them. -/
theorem witness_WatchesSteer :
    (∀ m ∈ [MState.running, .prestart, .stopping, .held, .recovering], (two m).span.mode = .active ∧
      (two m).run.mstate = m) ∧
    (∀ a ∈ [WatchAction.stop, .reverse], ({ two .running with watch := { (two .running).watch with
      entries := setNth (two .running).watch.entries 8 ⟨⟨true, 9000, 300, .both, .both, .any, a, false⟩, false, 0⟩ } } :
        State).watchEntry 8 = ⟨⟨true, 9000, 300, .both, .both, .any, a, false⟩, false, 0⟩) ∧
    (withRun (two .stopping) fun c => { c with dest := some .stopped }).run.dest = some .stopped ∧
    (withRun (two .stopping) fun c => { c with dest := some .reversing }).run.dest ≠ some .stopped := by decide +kernel

/-! The order engine. -/

theorem witness_Paces :
    (two .running).faultsDistinct ∧ (two .running).run.pass = some pass ∧
    (∃ r ∈ [record .jointWarn (some 2) .deferred .active], r.kind = .jointWarn ∧ r.mode = .deferred ∧ r.condition = .active ∧
      r.tower = some 2) ∧
    (two .running).mval .stragglerAngle ≠ 0 ∧
    ((withDyn (two .running) (online { halted with joint := some (-400) } 0)).tower 1).dyn.report.map Report.joint =
      some (some (-400)) :=
  ⟨⟨by decide +kernel, by decide +kernel⟩, rfl, by decide, by decide +kernel, by decide +kernel⟩

/-- The roundings of a target: 600 × 2400 × 1000 over 2400 × 2100 is 285.7, giving 286, for tower 1 of the two. -/
theorem witness_Targets :
    (two .running).workingPace = 600 ∧
    2 * (600 * (two .running).tval 2 .ratedSpeed * (two .running).tval 1 .radius) +
        (two .running).tval 1 .ratedSpeed * (two .running).tval 2 .radius <
      2 * ((two .running).tval 1 .ratedSpeed * (two .running).tval 2 .radius) * (286 + 1) ∧
    2 * ((two .running).tval 1 .ratedSpeed * (two .running).tval 2 .radius) * 286 ≤
      2 * (600 * (two .running).tval 2 .ratedSpeed * (two .running).tval 1 .radius) +
        (two .running).tval 1 .ratedSpeed * (two .running).tval 2 .radius ∧
    2 * 286 * 1000 + (1000 - 0) < 2 * (1000 - 0) * (286 + 1) ∧ 2 * (1000 - 0) * 286 ≤ 2 * 286 * 1000 + (1000 - 0) ∧
    (two .running).target 1 = 286 := by decide +kernel

/-- A tower of slip factor 0 and of the greatest, 300, an unshaped target of 0, and a deferred STALL fallback. -/
theorem witness_Shaped :
    let slips := withDyn (two .running) { online halted 0 with slip := 300 }
    let stuck := withRecords (two .running) [record .stall (some 1) .deferred .active]
    ((two .running).tower 1).dyn.slip = 0 ∧ (slips.tower 1).dyn.slip ≤ 300 ∧ slips.unshaped 1 = 286 ∧
    2 * 286 * 1000 + (1000 - 300) < 2 * (1000 - 300) * (409 + 1) ∧
    2 * (1000 - 300) * 409 ≤ 2 * 286 * 1000 + (1000 - 300) ∧ slips.target 1 = 409 ∧
    (two .stopping).unshaped 1 ≤ 0 ∧
    stuck.run.mstate = .running ∧ stuck.faults.records = [record .stall (some 1) .deferred .active] ∧
    stuck.target 1 = stuck.tval 1 .maxOrder := by decide +kernel

theorem witness_Ramp :
    (two .running).tval 1 .minRun ≤ (two .running).tval 1 .maxOrder ∧ (two .held).target 1 = 0 ∧
    0 < (two .running).target 1 ∧ (two .running).target 1 ≤ (two .running).tval 1 .maxOrder ∧
    ((two .running).tower 1).dyn.lastOrder = 0 ∧
    0 < ((withDyn (two .running) (online halted 286)).tower 1).dyn.lastOrder := by decide +kernel

theorem witness_DriveInterval :
    (two .running).powered = true ∧ (two .running).engine.timer = some ⟨500, 600⟩ ∧ (two .running).table.pending = [] ∧
    (two .running).span.slot = none ∧ (withSlot (two .running) (slot .drive 1 .window)).span.slot ≠ none ∧
    1 ≤ (two .running).towerCount := by decide +kernel

/-- A pass in the other direction at rest: the expiry turns the set direction. -/
theorem witness_SetDirection : ∃ t,
    exec .driveIntervalExpiry (withRun (two .running) fun c => { c with pass := some { pass with direction := .reverse } }) =
      .next t ∧ t.engine.direction ≠ (two .running).engine.direction :=
  ⟨_, rfl, by decide +kernel⟩

/-! The angle unit. -/

theorem witness_ValidSample :
    (two .held).angle.reading = true ∧ (two .held).clock ≤ (two .held).angle.sampleTimer.startedAt + 1 ∧
    (two .held).run.mstate.moving = false ∧ (∀ n, 1 ≤ n → n ≤ 8 → ((two .held).watchEntry n).cfg.enabled = false) ∧
    (two .held).angle.haltAngle = none ∧ (two .tripped).run.mstate.moving = false ∧
    ({ (two .held).angle with haltAngle := some 16000 } : AngleUnit).haltAngle = some 16000 ∧
    (two .held).angle.previous ≠ none ∧ (two .held).mval .driftAngle < (angleDiff 16000 17000).natAbs := by decide +kernel

/-- A machine RUNNING with a barrier ahead, every watch enabled and no previous sample. -/
def first : State := { barred with
  angle := { barred.angle with previous := none }
  watch := { barred.watch with entries := .replicate 8 ⟨⟨true, 17000, 300, .both, .both, .any, .stop, false⟩, false, 0⟩ } }

theorem witness_FirstSample :
    first.powered = true ∧ first.angle.reading = true ∧ first.clock ≤ first.angle.sampleTimer.startedAt + 1 ∧
    first.angle.previous = none ∧ first.run.mstate.moving = true ∧ (first.watchEntry 1).cfg.enabled = true := by
  decide +kernel

theorem witness_ValidSampleOfAPass :
    (two .running).angle.reading = true ∧ (two .running).clock ≤ (two .running).angle.sampleTimer.startedAt + 1 ∧
    barred.angle.previous = some 17000 ∧ barred.angle.reading = true ∧
    barred.clock ≤ barred.angle.sampleTimer.startedAt + 1 ∧
    (withDyn (two .running) (online halted 286)).atRest = false ∧
    (withDyn (two .running) (online halted 286)).angle.previous = some 17000 ∧
    (withDyn (two .running) (online halted 286)).run.pass = some pass ∧
    (withDyn (two .running) (online halted 286)).sectors.pending = none ∧
    (∀ n, 1 ≤ n → n ≤ 8 → ((withDyn (two .running) (online halted 286)).watchEntry n).cfg.enabled = false) := by
  decide +kernel

theorem witness_Invalid : (two .running).angle.reading = true ∧ (two .running).angle.invalidRun = false ∧
    ({ (two .running).angle with invalidRun := true } : AngleUnit).invalidRun = true ∧ State.reset.angle.reading = false ∧
    (two .running).clock ≤ (two .running).angle.sampleTimer.startedAt + 1 ∧
    (two .running).angle.sampleTimer.startedAt + 1 < ({ two .running with clock := 1002 } : State).clock := by decide

theorem witness_Examined :
    nth (two .running).angle.windows 16 none = none ∧ (two .running).tval 1 .slipWindow ≤ 50 ∧
    ((withDyn (two .running) { online halted 286 with status := .driving }).tower 1).dyn.status = .driving ∧
    ((two .held).tower 1).dyn.haltWheel = none ∧ ((two .held).tower 1).dyn.lastOrder = 0 ∧ halted.executing = 0 ∧
    (two .held).tval 1 .driftLimit < ((51 : U16) - 10).toNat := by decide +kernel

/-- A list without an ACTIVE JOINT_WARN and with one, a warn count at the persistence and below it, and the limits. -/
theorem witness_FaultListExamines :
    (two .running).faultsDistinct ∧ ((two .running).tower 1).cfg.jointWarn = some 700 ∧
    ((two .running).tower 1).cfg.jointTrip = some 1200 ∧ (two .running).tval 1 .warnPersistence = 2 ∧
    (two .running).faults.records = [] ∧ nth (two .running).faults.tripMarks 1 false = false ∧
    (∃ r ∈ [record .jointWarn (some 1) .deferred .active], r.kind = .jointWarn ∧ r.tower = some 1 ∧ r.condition = .active) ∧
    (two .running).run.contactor = true ∧ (two .held).run.contactor = false ∧ halted.switchClosed = true ∧
    ({ two .running with inputs := ⟨false, false⟩ } : State).inputs.chainClosed = false :=
  ⟨⟨by decide +kernel, by decide +kernel⟩, by decide +kernel⟩

/-! The span line. -/

theorem witness_Slots :
    (withSlot (two .stopped) (slot .rest 0 .sending)).span.slot = some (slot .rest 0 .sending) ∧
    (slot .drive 2 .window).left = false ∧ ((two .stopped).tower 1).dyn.link = .online ∧
    2 ≤ (two .stopped).mval .missLimit ∧ ((two .stopped).tower 3).dyn.link = .absent ∧
    ((withDyn (two .stopped) { online halted 0 with link := .missing, misses := 2 }).tower 1).dyn.misses + 1 =
      (two .stopped).mval .missLimit ∧
    (slot .drive 1 .waiting).tower < (two .stopped).towerCount ∧ (two .stopped).towerCount ≤ (slot .drive 2 .waiting).tower ∧
    (withMode (two .stopped) .quiet).span.restDue = false := by decide +kernel

theorem witness_Reports :
    (withSlot (two .stopped) (slot .drive 2 .window)).span.slot = some (slot .drive 2 .window) ∧
    (2 : Byte).toNat = (slot .drive 2 .window).tower ∧ (7 : Byte) = (slot .drive 2 .window).interval ∧
    (slot .drive 2 .window).left = false ∧ (slot .survey 2 .window).phase = .window ∧
    driveStateOf 4 = some .fault ∧ driveStateOf 5 = none ∧ (two .stopped).span.rx = [] := by decide +kernel

theorem witness_Quiet :
    (∀ k, 1 ≤ k → k ≤ (two .stopped).towerCount → ((two .stopped).tower k).dyn.link = .online ∧
      ((two .stopped).tower k).dyn.status = .ready ∧ ((two .stopped).tower k).dyn.lastOrder = 0) ∧
    (two .stopped).span.quietTimer = some ⟨300000, 0⟩ ∧ (two .stopped).span.slot = none ∧
    ({ (two .stopped).span with surveyTimer := some ⟨900000, 0⟩ } : SpanMaster).surveyTimer = some ⟨900000, 0⟩ := by
  decide +kernel

/-! The store, power and recovery. -/

theorem witness_Store :
    policyOf 0 = some .stayStopped ∧ policyOf 2 = some .resume ∧ (5 : U16).toNat = 5 ∧ (600 : U16).toNat ≤ 600 ∧
    (500 : U16).toNat ≤ 500 ∧ ((5 : Byte).getLsbD 0 = true ∧ (5 : Byte).getLsbD 1 = false ∧ (5 : Byte).getLsbD 2 = true) ∧
    ({ (two .stopped).store with writing := some .empty } : ConfigStore).writing = some .empty ∧
    (withPanel (two .stopped) fun p => { p with service := some ⟨0x38, none⟩ }).panel.service = some ⟨0x38, none⟩ := by
  decide +kernel

theorem witness_Reset : State.reset.store.writing = none ∧ State.reset.store.stored = .failing ∧
    (landing ⟨true, .moving, some pass, none, some (17000, true)⟩ .resume).1 = .recovering ∧
    (landing ⟨true, .tripped, none, some .chainOpen, none⟩ .stayStopped).1 = .tripped ∧
    (landing ⟨true, .held, some pass, none, none⟩ .stayStopped).1 = .stopped ∧ State.reset.complete = false ∧
    (two .stopped).complete = true ∧ ({ (two .stopped).store with writing := some .empty } : ConfigStore).writing ≠ none := by
  decide +kernel

theorem witness_PowerFail :
    (two .running).inputs.powerFail = false ∧ (two .running).run.mstate ≠ .powerWait ∧
    ({ two .powerWait with inputs := ⟨true, true⟩ } : State).inputs.powerFail = true ∧
    (two .powerWait).run.mstate = .powerWait ∧ (two .powerWait).run.tripKind = none ∧ (two .powerWait).faults.records = [] ∧
    (landing ⟨true, .tripped, none, some .chainOpen, some (5, true)⟩ .resume).1 = .tripped := by decide +kernel

def recovering : State := { withRun (two .recovering) fun c => { c with recoveryTimer := some ⟨30000, 900⟩ } with
  store := { (two .recovering).store with record := ⟨true, .moving, some pass, none, some (17100, true)⟩ } }

theorem witness_Recovery :
    recovering.run.recoveryTimer = some ⟨30000, 900⟩ ∧ recovering.store.record.captured = some (17100, true) ∧
    (angleDiff 17100 recovering.angle.held).natAbs ≤ recovering.store.settings.tolerance ∧
    recovering.store.settings.tolerance < (angleDiff 17101 recovering.angle.held).natAbs ∧
    (∀ k, 1 ≤ k → k ≤ recovering.towerCount → (recovering.tower k).dyn.link = .online) ∧
    recovering.inputs.chainClosed = true ∧ recovering.faults.records = [] := by decide +kernel

end Sys2Proof.Tests
end

section
/-! SUPPORT. The laws hold right after reset (O10). First the facts about the empty configuration and the reset state that
more than one law reads; then one lemma for each law; then the statement. -/

namespace Sys2Proof.Machine

/-! ### The empty configuration -/

theorem nth_replicate {α : Type} (n k : Nat) (a : α) : nth (Vector.replicate n a) k a = a := by
  unfold nth
  split
  · exact Vector.getElem_replicate _
  · rfl

theorem MachineRecord.empty_ranged : MachineRecord.empty.ranged := by
  intro f v hv
  cases f <;> cases hv <;> decide

theorem MachineRecord.empty_defaulted : MachineRecord.empty.defaulted := ⟨rfl, rfl⟩

theorem TowerConfig.empty_ranged : TowerConfig.empty.ranged := by
  intro f v hv
  cases f <;> cases hv <;> decide

theorem tableOrdered_nil : tableOrdered [] := ⟨.nil, .nil, nofun, nofun⟩

/-! ### What stands at reset -/

@[simp] theorem State.reset_tower (k : Nat) : State.reset.tower k = ⟨.empty, .reset⟩ := nth_replicate 16 k _

/-- The tower count of an empty configuration is unset (R2), so there is no tower. -/
@[simp] theorem State.reset_members : State.reset.members = [] := rfl

@[simp] theorem State.reset_records : State.reset.faults.records = [] := rfl

@[simp] theorem State.reset_store : State.reset.store = ⟨.failing, none, .empty, .invalid⟩ := rfl

@[simp] theorem State.reset_sectors : State.reset.sectors = ⟨[], none, none, 1000, none⟩ := rfl

/-! ### The laws at reset -/

theorem State.reset_outputsFollow : State.reset.outputsFollow := ⟨rfl, rfl⟩

theorem State.reset_ordersAtRest : State.reset.ordersAtRest := by
  intro _
  have noSlot : State.reset.span.slot = none := rfl
  exact ⟨by simp, by simp [noSlot]⟩

theorem State.reset_quietOnlyStopped : State.reset.quietOnlyStopped := by
  intro quiet
  have active : State.reset.span.mode = .active := rfl
  cases active.symm.trans quiet

/-- RESTARTED and CONFIG_INVALID stand in the queue (R174), two kinds of the one subject. -/
theorem State.reset_noticesDistinct : State.reset.noticesDistinct := by
  have keys : State.reset.panel.notices.map Notice.key = [(.restarted, .machine), (.configInvalid, .machine)] := rfl
  have two : State.reset.panel.notices.length = 2 := rfl
  exact ⟨by omega, by rw [keys]; decide⟩

theorem State.reset_faultsDistinct : State.reset.faultsDistinct := by simp [faultsDistinct]

theorem State.reset_sectorsOrdered : State.reset.sectorsOrdered := by simp [sectorsOrdered, tableOrdered_nil]

theorem State.reset_slipBounded : State.reset.slipBounded := by
  intro k
  have slip : TowerDynamic.reset.slip = 0 := rfl
  simp [slip]

theorem State.reset_configRanged : State.reset.configRanged := by
  have towers : ∀ r ∈ State.reset.table.towers.toList, r.cfg.ranged := by
    intro r hr
    have : r = ⟨.empty, .reset⟩ := by simpa [State.reset] using hr
    rw [this]
    exact TowerConfig.empty_ranged
  exact ⟨MachineRecord.empty_ranged, MachineRecord.empty_defaulted, towers, nofun, by simp, by simp⟩

theorem State.reset_linksAgree : State.reset.linksAgree := by simp [linksAgree]

theorem State.reset_hardStopped : State.reset.hardStopped := fun _ => rfl

theorem State.reset_anglesHold : State.reset.anglesHold := by
  have watches : ∀ w ∈ State.reset.watch.entries.toList, isAngle w.cfg.ref := by
    intro w hw
    have : w = ⟨.empty, false, 0⟩ := by simpa [State.reset] using hw
    rw [this]
    exact Nat.zero_lt_succ _
  have held : isAngle State.reset.angle.held := Nat.zero_lt_succ _
  refine ⟨held, nofun, nofun, nofun, ?_, ?_, ?_, ?_, ?_, watches, ?_, ?_, ?_⟩ <;> simp [RetainedRecord.invalid]

theorem State.reset_modesAgree : State.reset.modesAgree := by
  have noTrip : State.reset.run.tripKind = none := rfl
  simp [modesAgree, noTrip, RetainedRecord.invalid]

/-- Settles O10: one lemma for each law, at the values that reset gives (R5, R82, R174). -/
theorem resetMeetsTheLaws : Obligations.ResetMeetsTheLaws :=
  ⟨State.reset_outputsFollow, State.reset_ordersAtRest, State.reset_quietOnlyStopped, State.reset_noticesDistinct,
    State.reset_faultsDistinct, State.reset_sectorsOrdered, State.reset_slipBounded, State.reset_configRanged,
    State.reset_linksAgree, State.reset_hardStopped, State.reset_anglesHold, State.reset_modesAgree⟩

end Sys2Proof.Machine
end

section
/-! SUPPORT. The rules of the numbered banks and of the tower records, and what of the tower table and the store the shared
operations keep: `core`, the table and the store but for what orders, examinations and the retained record write. -/

namespace Sys2Proof.Machine

/-! ### Banks numbered from 1 -/

section Banks

variable {α β : Type} {n : Nat} (v : Vector α n)

theorem nth_of_mem {k : Nat} (h1 : 1 ≤ k) (h2 : k ≤ n) (d : α) : nth v k d = v[k - 1] := by
  simp [nth, h1, h2]

theorem nth_of_not_mem {k : Nat} (h : ¬ (1 ≤ k ∧ k ≤ n)) (d : α) : nth v k d = d := by
  simp only [nth, h, dite_false]

theorem setNth_of_not_mem {k : Nat} (h : ¬ (1 ≤ k ∧ k ≤ n)) (a : α) : setNth v k a = v := by
  simp only [setNth, h, dite_false]

theorem nth_setNth_self {k : Nat} (h1 : 1 ≤ k) (h2 : k ≤ n) (a d : α) : nth (setNth v k a) k d = a := by
  simp [nth, setNth, h1, h2]

theorem nth_setNth_of_ne {j k : Nat} (h : j ≠ k) (a d : α) : nth (setNth v k a) j d = nth v j d := by
  by_cases hj : 1 ≤ j ∧ j ≤ n
  · by_cases hk : 1 ≤ k ∧ k ≤ n
    · have : k - 1 ≠ j - 1 := by omega
      simp [nth, setNth, hj, hk, this]
    · rw [setNth_of_not_mem v hk]
  · rw [nth_of_not_mem _ hj, nth_of_not_mem _ hj]

theorem nth_map (f : α → β) (k : Nat) (d : α) : nth (v.map f) k (f d) = f (nth v k d) := by
  unfold nth
  split
  · exact Vector.getElem_map ..
  · rfl

/-- Two banks with the same entries are the same bank. -/
theorem bank_ext {u v : Vector α n} (d : α) (h : ∀ k, nth u k d = nth v k d) : u = v := by
  apply Vector.ext
  intro i hi
  have := h (i + 1)
  rwa [nth_of_mem u (by omega) (by omega), nth_of_mem v (by omega) (by omega)] at this

theorem setNth_nth (k : Nat) (d : α) : setNth v k (nth v k d) = v := by
  refine bank_ext d fun j => ?_
  by_cases h : j = k
  · subst h
    by_cases hj : 1 ≤ j ∧ j ≤ n
    · exact nth_setNth_self v hj.1 hj.2 _ d
    · rw [setNth_of_not_mem v hj]
  · exact nth_setNth_of_ne v h _ d

theorem map_setNth (f : α → β) (k : Nat) (a : α) : (setNth v k a).map f = setNth (v.map f) k (f a) := by
  unfold setNth
  split
  · exact Vector.map_set ..
  · rfl

theorem mem_upTo {n k : Nat} : k ∈ upTo n ↔ 1 ≤ k ∧ k ≤ n := by
  simp only [upTo, List.mem_map, List.mem_range]
  constructor
  · rintro ⟨i, hi, rfl⟩; omega
  · rintro ⟨h1, h2⟩; exact ⟨k - 1, by omega, by omega⟩

end Banks

/-! ### Tower records -/

variable (s : State)

theorem State.mem_members {k : Nat} : k ∈ s.members ↔ 1 ≤ k ∧ k ≤ s.towerCount := mem_upTo

theorem State.tower_of_not_mem {k : Nat} (h : ¬ (1 ≤ k ∧ k ≤ 16)) : s.tower k = ⟨.empty, .reset⟩ :=
  nth_of_not_mem _ h _

theorem State.setDyn_tower_self {k : Nat} (h1 : 1 ≤ k) (h2 : k ≤ 16) (f : TowerDynamic → TowerDynamic) :
    (s.setDyn k f).tower k = ⟨(s.tower k).cfg, f (s.tower k).dyn⟩ := nth_setNth_self _ h1 h2 _ _

theorem State.setDyn_tower_of_ne {j k : Nat} (h : j ≠ k) (f : TowerDynamic → TowerDynamic) :
    (s.setDyn k f).tower j = s.tower j := nth_setNth_of_ne _ h _ _

@[simp] theorem State.setDyn_tower_cfg (k j : Nat) (f : TowerDynamic → TowerDynamic) :
    ((s.setDyn k f).tower j).cfg = (s.tower j).cfg := by
  by_cases h : j = k
  · subst h
    by_cases hj : 1 ≤ j ∧ j ≤ 16
    · rw [s.setDyn_tower_self hj.1 hj.2]
    · rw [tower_of_not_mem _ hj, s.tower_of_not_mem hj]
  · rw [s.setDyn_tower_of_ne h]

@[simp] theorem State.setDyn_machine (k : Nat) (f : TowerDynamic → TowerDynamic) :
    (s.setDyn k f).table.machine = s.table.machine := rfl

@[simp] theorem State.setDyn_staged (k : Nat) (f : TowerDynamic → TowerDynamic) :
    (s.setDyn k f).table.pending = s.table.pending := rfl

/-! ### What is kept: the core of the table and of the store -/

/-- A tower's dynamic fields that only its reports, its misses and its membership write: report record, link state, miss
count and status. The others stand at their reset values. -/
def TowerDynamic.core (d : TowerDynamic) : TowerDynamic :=
  { TowerDynamic.reset with report := d.report, link := d.link, misses := d.misses, status := d.status }

/-- A tower record with its configuration and the core of its dynamic fields. -/
def TowerRecord.core (r : TowerRecord) : TowerRecord := ⟨r.cfg, r.dyn.core⟩

/-- The tower table with the core of each of its records. -/
def TowerTable.core (t : TowerTable) : TowerTable := { t with towers := t.towers.map TowerRecord.core }

/-- The store but for its retained run record. -/
def ConfigStore.core (c : ConfigStore) : ConfigStore := { c with record := .invalid }

@[simp] theorem TowerTable.core_machine (t : TowerTable) : t.core.machine = t.machine := rfl
@[simp] theorem TowerTable.core_pending (t : TowerTable) : t.core.pending = t.pending := rfl

variable {s} in
theorem State.tower_core_of_eq {t : State} (h : t.table.core = s.table.core) (k : Nat) :
    (t.tower k).core = (s.tower k).core := by
  have towers : t.table.towers.map TowerRecord.core = s.table.towers.map TowerRecord.core :=
    congrArg TowerTable.towers h
  calc (t.tower k).core = nth (t.table.towers.map TowerRecord.core) k _ := (nth_map ..).symm
    _ = nth (s.table.towers.map TowerRecord.core) k _ := by rw [towers]
    _ = (s.tower k).core := nth_map ..

/-- What follows for a tower from a table that keeps its core. -/
theorem TowerRecord.core_inj {r q : TowerRecord} (h : r.core = q.core) :
    r.cfg = q.cfg ∧ r.dyn.report = q.dyn.report ∧ r.dyn.link = q.dyn.link ∧ r.dyn.misses = q.dyn.misses ∧
      r.dyn.status = q.dyn.status := by
  simp only [core, TowerDynamic.core, TowerRecord.mk.injEq, TowerDynamic.mk.injEq] at h
  obtain ⟨cfg, report, link, misses, status, -⟩ := h
  exact ⟨cfg, report, link, misses, status⟩

theorem TowerTable.core_inj {t u : TowerTable} (h : t.core = u.core) : t.machine = u.machine ∧ t.pending = u.pending :=
  ⟨(congrArg TowerTable.machine h :), (congrArg TowerTable.pending h :)⟩

theorem ConfigStore.core_inj {c e : ConfigStore} (h : c.core = e.core) :
    c.stored = e.stored ∧ c.writing = e.writing ∧ c.settings = e.settings :=
  ⟨(congrArg ConfigStore.stored h :), (congrArg ConfigStore.writing h :), (congrArg ConfigStore.settings h :)⟩

/-- Rewriting fields outside the core of one record keeps the table's core. -/
theorem State.setDyn_core {k : Nat} {f : TowerDynamic → TowerDynamic}
    (h : (f (s.tower k).dyn).core = (s.tower k).dyn.core) : (s.setDyn k f).table.core = s.table.core := by
  have record : TowerRecord.core { s.tower k with dyn := f (s.tower k).dyn } = (s.tower k).core := by
    simp only [TowerRecord.core, h]
  have towers : (s.setDyn k f).table.towers.map TowerRecord.core = s.table.towers.map TowerRecord.core := by
    change (setNth s.table.towers k _).map TowerRecord.core = _
    rw [map_setNth, record, State.tower, ← nth_map _ TowerRecord.core, setNth_nth]
  change { s.table with towers := (s.setDyn k f).table.towers.map TowerRecord.core } = s.table.core
  rw [towers]
  rfl

theorem State.setDyns_core {ks : List Nat} {f : TowerDynamic → TowerDynamic} (h : ∀ d, (f d).core = d.core) :
    (s.setDyns ks f).table.core = s.table.core := by
  unfold State.setDyns
  induction ks generalizing s with
  | nil => rfl
  | cons k ks ih => rw [List.foldl_cons, ih, s.setDyn_core (h _)]

end Sys2Proof.Machine
end

section
/-! SUPPORT. The shared operations keep the core of the table and of the store (a change of machine state, a raising, a hold
and a trip write neither configuration nor link states). -/

namespace Sys2Proof.Machine

variable (s : State)

/-! ### The shared operations keep the core of the table and of the store -/

@[simp] theorem State.rewriteRecord_core (c : Option (Nat × Bool)) :
    (s.rewriteRecord c).store.core = s.store.core := rfl

@[simp] theorem State.recordFollows_core : s.recordFollows.store.core = s.store.core := by
  unfold State.recordFollows; split <;> rfl

@[simp] theorem State.enterWith_core (a : Bool) (m : MState) (d : Option Destination) (r : Option PassEnd)
    (o : Option Origin) : (s.enterWith a m d r o).store.core = s.store.core := by
  unfold State.enterWith; dsimp only; split <;> simp

@[simp] theorem State.enter_core (m : MState) (d : Option Destination) (r : Option PassEnd) (o : Option Origin) :
    (s.enter m d r o).store.core = s.store.core := s.enterWith_core true m d r o

@[simp] theorem State.redirect_core (d : Destination) (r : Option PassEnd) :
    (s.redirect d r).store.core = s.store.core := by simp [State.redirect]

@[simp] theorem State.prestartTest_core : s.prestartTest.store.core = s.store.core := by
  unfold State.prestartTest; split <;> simp

@[simp] theorem State.enterPrestart_core (o : Origin) : (s.enterPrestart o).store.core = s.store.core := by
  simp [State.enterPrestart]

@[simp] theorem State.stoppingTest_core : s.stoppingTest.store.core = s.store.core := by
  unfold State.stoppingTest; dsimp only; repeat' split
  all_goals simp

@[simp] theorem State.enterStopping_core (d : Destination) (r : Option PassEnd) :
    (s.enterStopping d r).store.core = s.store.core := by simp [State.enterStopping]

@[simp] theorem State.holdRequest_core : s.holdRequest.store.core = s.store.core := by
  unfold State.holdRequest; repeat' split
  all_goals simp

@[simp] theorem State.zeroOrders_core : s.zeroOrders.table.core = s.table.core ∧ s.zeroOrders.store = s.store := by
  have orders : ∀ d : TowerDynamic, ({ d with lastOrder := 0, stall := .idle } : TowerDynamic).core = d.core := fun _ => rfl
  simp [State.zeroOrders, s.setDyns_core orders]

@[simp] theorem State.tripRequest_core (k : FaultKind) :
    (s.tripRequest k).table.core = s.table.core ∧ (s.tripRequest k).store.core = s.store.core := by
  unfold State.tripRequest; split <;> simp

@[simp] theorem State.unfreeze_core (r : FaultRecord) : (s.unfreeze r).table.core = s.table.core := by
  unfold State.unfreeze; split
  · exact s.setDyn_core rfl
  · rfl

@[simp] theorem State.removeRecords_core (sel : FaultRecord → Bool) :
    (s.removeRecords sel).table.core = s.table.core := by
  have fold : ∀ (rs : List FaultRecord) (u : State), (rs.foldl State.unfreeze u).table.core = u.table.core := by
    intro rs
    induction rs with
    | nil => intro u; rfl
    | cons r rs ih => intro u; rw [List.foldl_cons, ih, u.unfreeze_core]
  exact fold _ _

@[simp] theorem State.recordRaising_core (k : FaultKind) (t : Option Nat) :
    (s.recordRaising k t).1.table.core = s.table.core := by
  unfold State.recordRaising; dsimp only; repeat' split
  all_goals simp

@[simp] theorem State.freezeSlip_core (k : FaultKind) (t : Option Nat) (r : Raising) :
    (s.freezeSlip k t r).table.core = s.table.core := by
  unfold State.freezeSlip; repeat' split
  · exact s.setDyn_core rfl
  all_goals rfl

@[simp] theorem State.actOnRaising_core (k : FaultKind) (r : Raising) :
    (s.actOnRaising k r).table.core = s.table.core ∧ (s.actOnRaising k r).store.core = s.store.core := by
  unfold State.actOnRaising; repeat' split
  all_goals simp

@[simp] theorem State.raise_core (k : FaultKind) (t : Option Nat) :
    (s.raise k t).table.core = s.table.core ∧ (s.raise k t).store.core = s.store.core := by
  simp [State.raise]

/-! ### Steering a pass -/

theorem State.takeStop_core {r : PassEnd} {t : State} (h : s.takeStop r = some t) :
    t.table = s.table ∧ t.store.core = s.store.core := by
  unfold State.takeStop at h
  repeat' split at h
  all_goals cases h <;> simp

theorem State.takeReverse_core {t : State} (h : s.takeReverse = some t) :
    t.table = s.table ∧ t.store.core = s.store.core := by
  unfold State.takeReverse at h
  split at h <;> cases h <;> simp

theorem State.takePace_core {v : Nat} {t : State} (h : s.takePace v = some t) :
    t.table = s.table ∧ t.store.core = s.store.core := by
  unfold State.takePace at h
  split at h <;> cases h <;> simp

end Sys2Proof.Machine
end

section
/-! SUPPORT. What the configuration's fields hold after writes (R9, R10, R18): the last value written to each, or the
value before. -/

namespace Sys2Proof.Machine

/-! ### Fields of the configuration read after writes -/

theorem MachineRecord.get_put_self (r : MachineRecord) (f : MachineField) (v : Nat) : (r.put f v).get f = some v := by
  cases f <;> rfl

theorem MachineRecord.get_put_of_ne (r : MachineRecord) {f g : MachineField} (v : Nat) (h : g ≠ f) :
    (r.put f v).get g = r.get g := by
  cases f <;> cases g
  any_goals rfl
  all_goals exact absurd rfl h

theorem TowerConfig.get_put_self (c : TowerConfig) (f : TowerField) (v : Nat) : (c.put f v).get f = some v := by
  cases f <;> rfl

theorem TowerConfig.get_put_of_ne (c : TowerConfig) {f g : TowerField} (v : Nat) (h : g ≠ f) :
    (c.put f v).get g = c.get g := by
  cases f <;> cases g
  any_goals rfl
  all_goals exact absurd rfl h

/-- The key names a field that a record of the table holds. -/
def FieldKey.real : FieldKey → Prop
  | .machine _ => True
  | .tower k _ => 1 ≤ k ∧ k ≤ 16

/-- What a field holds once writes have been made in order: the last value written to it, or the value before. -/
def lastWritten (ws : List FieldWrite) (key : FieldKey) (before : Option Nat) : Option Nat :=
  match (ws.filter fun w => w.1 == key).getLast? with
  | some w => some w.2
  | none => before

@[simp] theorem lastWritten_nil (key : FieldKey) (before : Option Nat) : lastWritten [] key before = before := rfl

theorem lastWritten_append (ws vs : List FieldWrite) (key : FieldKey) (before : Option Nat) :
    lastWritten (ws ++ vs) key before = lastWritten vs key (lastWritten ws key before) := by
  simp only [lastWritten, List.filter_append, List.getLast?_append]
  cases (vs.filter fun w => w.1 == key).getLast? <;> simp

theorem lastWritten_singleton (w : FieldWrite) (key : FieldKey) (before : Option Nat) :
    lastWritten [w] key before = if w.1 = key then some w.2 else before := by
  by_cases h : w.1 = key <;> simp [lastWritten, h]

theorem lastWritten_cons (w : FieldWrite) (ws : List FieldWrite) (key : FieldKey) (before : Option Nat) :
    lastWritten (w :: ws) key before = lastWritten ws key (if w.1 = key then some w.2 else before) := by
  rw [← lastWritten_singleton, ← lastWritten_append, List.singleton_append]

theorem lastWritten_of_not_mem {ws : List FieldWrite} {key : FieldKey} (h : ∀ w ∈ ws, key ≠ w.1) (before : Option Nat) :
    lastWritten ws key before = before := by
  have none : ws.filter (fun w => w.1 == key) = [] := by
    simpa [List.filter_eq_nil_iff] using fun k v hw => (h (k, v) hw).symm
  simp [lastWritten, none]

/-- A key written once takes the value written to it. -/
theorem lastWritten_of_mem {ws : List FieldWrite} (nodup : (ws.map (·.1)).Nodup) {w : FieldWrite} (hw : w ∈ ws)
    (before : Option Nat) : lastWritten ws w.1 before = some w.2 := by
  induction ws generalizing before with
  | nil => cases hw
  | cons v ws ih =>
    obtain ⟨fresh, nodup⟩ := List.nodup_cons.1 nodup
    rw [lastWritten_cons]
    rcases List.mem_cons.1 hw with rfl | later
    · rw [if_pos rfl]
      exact lastWritten_of_not_mem (fun u hu eq => fresh (List.mem_map.2 ⟨u, hu, eq.symm⟩)) _
    · exact ih nodup later _

variable (s : State)

theorem State.setting_eq (key : FieldKey) : s.setting key = lastWritten s.table.pending key (s.held key) := rfl

/-! ### One field written -/

@[simp] theorem State.writeField_staged (w : FieldWrite) : (s.writeField w).table.pending = s.table.pending := by
  unfold State.writeField; split <;> rfl

theorem State.writeField_tower_self {k : Nat} (h1 : 1 ≤ k) (h2 : k ≤ 16) (f : TowerField) (v : Nat) :
    (s.writeField (.tower k f, v)).tower k = ⟨(s.tower k).cfg.put f v, (s.tower k).dyn⟩ := nth_setNth_self _ h1 h2 _ _

theorem State.writeField_tower_of_ne {j k : Nat} (h : k ≠ j) (f : TowerField) (v : Nat) :
    (s.writeField (.tower j f, v)).tower k = s.tower k := nth_setNth_of_ne _ h _ _

@[simp] theorem State.writeField_dyn (w : FieldWrite) (k : Nat) : ((s.writeField w).tower k).dyn = (s.tower k).dyn := by
  obtain ⟨_ | ⟨j, f⟩, v⟩ := w
  · rfl
  by_cases h : k = j
  · subst h
    by_cases hk : 1 ≤ k ∧ k ≤ 16
    · rw [s.writeField_tower_self hk.1 hk.2]
    · rw [State.tower_of_not_mem _ hk, State.tower_of_not_mem _ hk]
  · rw [s.writeField_tower_of_ne h]

theorem State.writeField_held (w : FieldWrite) {key : FieldKey} (real : key.real) :
    (s.writeField w).held key = if w.1 = key then some w.2 else s.held key := by
  obtain ⟨f | ⟨j, f⟩, v⟩ := w
  · rcases key with g | ⟨k, g⟩
    · by_cases h : f = g
      · subst h; simp [State.writeField, State.held, MachineRecord.get_put_self]
      · simp [State.writeField, State.held, h, MachineRecord.get_put_of_ne _ _ (Ne.symm h)]
    · simp [State.writeField, State.held, State.tower]
  · rcases key with g | ⟨k, g⟩
    · simp [State.writeField, State.held]
    · obtain ⟨h1, h2⟩ := real
      by_cases hk : k = j
      · subst hk
        by_cases h : f = g
        · subst h; simp [State.held, s.writeField_tower_self h1 h2, TowerConfig.get_put_self]
        · simp [State.held, s.writeField_tower_self h1 h2, h, TowerConfig.get_put_of_ne _ _ (Ne.symm h)]
      · simp [State.held, s.writeField_tower_of_ne hk, Ne.symm hk]

/-- A field that the write does not name stands, whatever number its record has. -/
theorem State.writeField_held_of_ne (w : FieldWrite) {key : FieldKey} (h : key ≠ w.1) :
    (s.writeField w).held key = s.held key := by
  by_cases real : key.real
  · rw [s.writeField_held w real, if_neg (Ne.symm h)]
  · rcases key with g | ⟨k, g⟩
    · exact absurd trivial real
    · simp only [State.held, State.tower_of_not_mem _ real]

/-! ### Several fields written -/

@[simp] theorem State.writeFields_nil : s.writeFields [] = s := rfl

@[simp] theorem State.writeFields_cons (w : FieldWrite) (ws : List FieldWrite) :
    s.writeFields (w :: ws) = (s.writeField w).writeFields ws := rfl

theorem State.writeFields_append (ws vs : List FieldWrite) :
    s.writeFields (ws ++ vs) = (s.writeFields ws).writeFields vs := List.foldl_append

@[simp] theorem State.writeFields_staged (ws : List FieldWrite) : (s.writeFields ws).table.pending = s.table.pending := by
  induction ws generalizing s with
  | nil => rfl
  | cons w ws ih => simp [ih]

@[simp] theorem State.writeFields_dyn (ws : List FieldWrite) (k : Nat) :
    ((s.writeFields ws).tower k).dyn = (s.tower k).dyn := by
  induction ws generalizing s with
  | nil => rfl
  | cons w ws ih => simp [ih]

theorem State.writeFields_held (ws : List FieldWrite) {key : FieldKey} (real : key.real) :
    (s.writeFields ws).held key = lastWritten ws key (s.held key) := by
  induction ws generalizing s with
  | nil => rfl
  | cons w ws ih => rw [State.writeFields_cons, ih, s.writeField_held w real, lastWritten_cons]

theorem State.writeFields_held_of_not_mem {ws : List FieldWrite} {key : FieldKey} (h : ∀ w ∈ ws, key ≠ w.1) :
    (s.writeFields ws).held key = s.held key := by
  induction ws generalizing s with
  | nil => rfl
  | cons w ws ih =>
    rw [State.writeFields_cons, ih _ fun v hv => h v (.tail _ hv), s.writeField_held_of_ne w (h w (.head _))]

/-- Reading the pending values in place is reading the table as it would stand without a further request (R10, R18). -/
theorem State.candidate_held (ws : List FieldWrite) {key : FieldKey} (real : key.real) :
    (s.candidate ws).held key = lastWritten ws key (s.setting key) := by
  rw [State.candidate, State.writeFields_held _ _ real, lastWritten_append, State.setting_eq]

/-- The pending list has no part in what the fields hold. -/
theorem State.held_of_table {t : State} (machine : t.table.machine = s.table.machine)
    (towers : t.table.towers = s.table.towers) (key : FieldKey) : t.held key = s.held key := by
  rcases key with f | ⟨k, f⟩
  · simp only [State.held, machine]
  · simp only [State.held, State.tower, towers]

theorem State.held_of_core {t : State} (h : t.table.core = s.table.core) (key : FieldKey) : t.held key = s.held key := by
  rcases key with f | ⟨k, f⟩
  · exact congrArg (·.machine.get f) h
  · exact congrArg (·.cfg.get f) (State.tower_core_of_eq h k)

end Sys2Proof.Machine
end

section
/-! SUPPORT. The operations of the single blocks that keep the core of the table and of the store. -/

namespace Sys2Proof.Machine

variable (s : State)

/-! ### The blocks' operations that keep the core -/

@[simp] theorem State.stallExpires_core (k : Nat) :
    (s.stallExpires k).table.core = s.table.core ∧ (s.stallExpires k).store.core = s.store.core := by
  unfold State.stallExpires; split
  · exact ⟨by rw [(State.raise_core _ _ _).1]; exact s.setDyn_core rfl, by simp⟩
  · simp

@[simp] theorem State.restartInterval_core : s.restartInterval.table = s.table ∧ s.restartInterval.store = s.store := by
  simp

@[simp] theorem State.fieldApplied_core (w : FieldWrite) :
    (s.fieldApplied w).table.core = s.table.core ∧ (s.fieldApplied w).store.core = s.store.core := by
  unfold State.fieldApplied; repeat' split
  all_goals simp

theorem State.fieldsApplied_core (ws : List FieldWrite) :
    (ws.foldl State.fieldApplied s).table.core = s.table.core ∧
      (ws.foldl State.fieldApplied s).store.core = s.store.core := by
  induction ws generalizing s with
  | nil => simp
  | cons w ws ih => simp [ih]

@[simp] theorem State.warnCheck_core (k a : Nat) :
    (s.warnCheck k a).table.core = s.table.core ∧ (s.warnCheck k a).store.core = s.store.core := by
  have count : ∀ c, (s.setDyn k fun d => { d with warnCount := c }).table.core = s.table.core :=
    fun c => s.setDyn_core rfl
  unfold State.warnCheck; dsimp only; repeat' split
  all_goals simp [count]

@[simp] theorem State.tripCheck_core (k a : Nat) :
    (s.tripCheck k a).table.core = s.table.core ∧ (s.tripCheck k a).store.core = s.store.core := by
  unfold State.tripCheck; dsimp only; repeat' split
  all_goals simp

@[simp] theorem State.switchCheck_core (k : Nat) (r : Report) :
    (s.switchCheck k r).table.core = s.table.core ∧ (s.switchCheck k r).store.core = s.store.core := by
  unfold State.switchCheck; split <;> simp

@[simp] theorem State.faultExamine_core (k : Nat) (r : Report) :
    (s.faultExamine k r).table.core = s.table.core ∧ (s.faultExamine k r).store.core = s.store.core := by
  unfold State.faultExamine; dsimp only; split <;> simp

@[simp] theorem State.closeWindow_core (k : Nat) (w : SlipWindow) (wheel : U16) :
    (s.closeWindow k w wheel).table.core = s.table.core ∧ (s.closeWindow k w wheel).store.core = s.store.core := by
  have factor : (s.setDyn k fun d => if d.slipFrozen then d else
      { d with slip := nextSlip d.slip (s.windowSlip k w wheel) }).table.core = s.table.core :=
    s.setDyn_core (by split <;> rfl)
  unfold State.closeWindow; dsimp only; repeat' split
  all_goals simp [factor]

@[simp] theorem State.slipExamine_core (k : Nat) (r : Report) :
    (s.slipExamine k r).table.core = s.table.core ∧ (s.slipExamine k r).store.core = s.store.core := by
  unfold State.slipExamine; repeat' split
  all_goals simp

@[simp] theorem State.stallExamine_core (k : Nat) (p : Option Report) (r : Report) :
    (s.stallExamine k p r).table.core = s.table.core ∧ (s.stallExamine k p r).store.core = s.store.core := by
  have timer : (s.setDyn k fun d =>
      { d with stall := stallAfter s.clock d.lastOrder r d.stall }).table.core = s.table.core := s.setDyn_core rfl
  unfold State.stallExamine; dsimp only; repeat' split
  all_goals simp [timer]

@[simp] theorem State.haltExamine_core (k : Nat) (r : Report) :
    (s.haltExamine k r).1.table.core = s.table.core ∧ (s.haltExamine k r).1.store.core = s.store.core := by
  have count : (s.setDyn k fun d =>
      { d with haltWheel := haltAfter d.lastOrder r d.haltWheel }).table.core = s.table.core := s.setDyn_core rfl
  unfold State.haltExamine; dsimp only; repeat' split
  · exact ⟨by rw [State.setDyn_core _ rfl, (State.raise_core _ _ _).1, count], by simp⟩
  all_goals simp [count]

@[simp] theorem State.angleExamine_core (k : Nat) (p : Option Report) (r : Report) :
    (s.angleExamine k p r).1.table.core = s.table.core ∧ (s.angleExamine k p r).1.store.core = s.store.core := by
  simp [State.angleExamine]

@[simp] theorem State.judgeReport_core (kind : SlotKind) (d : TowerDynamic) (r : Report) (b : Bool) :
    (s.judgeReport kind d r b).table = s.table ∧ (s.judgeReport kind d r b).store = s.store := by
  unfold State.judgeReport; repeat' split
  all_goals simp

@[simp] theorem State.powerReturn_core (a : Bool) :
    (s.powerReturn a).table = s.table ∧ (s.powerReturn a).store.core = s.store.core := by
  have restore : ∀ k, (s.restoreTrip k).table = s.table ∧ (s.restoreTrip k).store = s.store := by
    intro k; unfold State.restoreTrip; dsimp only; split <;> simp
  unfold State.powerReturn; dsimp only; repeat' split
  all_goals simp [restore]

@[simp] theorem State.powerFails_core :
    s.powerFails.table.core = s.table.core ∧ s.powerFails.store.core = s.store.core := by
  unfold State.powerFails; dsimp only; split <;> simp

@[simp] theorem State.recoveryExpires_core :
    s.recoveryExpires.table = s.table ∧ s.recoveryExpires.store.core = s.store.core := by
  unfold State.recoveryExpires; dsimp only; repeat' split
  all_goals simp

@[simp] theorem State.chainChanged_core :
    s.chainChanged.table.core = s.table.core ∧ s.chainChanged.store.core = s.store.core := by
  unfold State.chainChanged; repeat' split
  all_goals simp

@[simp] theorem State.silenceExpires_core :
    s.silenceExpires.table.core = s.table.core ∧ s.silenceExpires.store.core = s.store.core := by
  unfold State.silenceExpires; dsimp only; split <;> simp

@[simp] theorem State.stallTimerExpires_core (k : Nat) :
    (s.stallTimerExpires k).table.core = s.table.core ∧ (s.stallTimerExpires k).store.core = s.store.core := by
  unfold State.stallTimerExpires; split <;> simp

@[simp] theorem State.runExpiries_core :
    (s.prestartExpires.table = s.table ∧ s.prestartExpires.store.core = s.store.core) ∧
    (s.startFails.table = s.table ∧ s.startFails.store.core = s.store.core) ∧
    (s.stopTimesOut.table.core = s.table.core ∧ s.stopTimesOut.store.core = s.store.core) := by
  refine ⟨?_, ?_, ?_⟩
  · unfold State.prestartExpires; split <;> simp
  · unfold State.startFails; dsimp only; split <;> simp
  · unfold State.stopTimesOut; split <;> simp

/-! ### A sample -/

@[simp] theorem State.invalidSample_core :
    s.invalidSample.table.core = s.table.core ∧ s.invalidSample.store.core = s.store.core := by
  unfold State.invalidSample; dsimp only; split <;> simp

@[simp] theorem State.passCheck_core (p : Nat) (delta : Int) :
    (s.passCheck p delta).table = s.table ∧ (s.passCheck p delta).store.core = s.store.core := by
  unfold State.passCheck; repeat' split
  all_goals simp

@[simp] theorem State.barrierAct_core (c : Sector) :
    (s.barrierAct c).table = s.table ∧ (s.barrierAct c).store.core = s.store.core := by
  unfold State.barrierAct; split <;> simp

@[simp] theorem State.sectorSample_core (d : Option Direction) (q : Nat) :
    (s.sectorSample d q).table.core = s.table.core ∧ (s.sectorSample d q).store.core = s.store.core := by
  unfold State.sectorSample; dsimp only; split
  · unfold State.approachCheck State.overrunCheck; repeat' split
    all_goals simp
  · simp

@[simp] theorem State.watchAct_core (a : WatchAction) :
    (s.watchAct a).1.table = s.table ∧ (s.watchAct a).1.store.core = s.store.core := by
  have taken : ∀ o : Option State, (∀ t, o = some t → t.table = s.table ∧ t.store.core = s.store.core) →
      (s.orRefused o).1.table = s.table ∧ (s.orRefused o).1.store.core = s.store.core := by
    intro o h
    cases o with
    | none => simp [State.orRefused]
    | some t => exact h t rfl
  cases a with
  | stop => exact taken _ fun t => s.takeStop_core
  | reverse => exact taken _ fun t => s.takeReverse_core
  | pace v => exact taken _ fun t => s.takePace_core
  | _ => simp [State.watchAct]

@[simp] theorem State.fire_core (n : Nat) (c : Crossing) (d : Direction) :
    (s.fire n c d).table = s.table ∧ (s.fire n c d).store.core = s.store.core := by
  simp [State.fire]

@[simp] theorem State.testCrossing_core (n : Nat) (d : Direction) (c : Crossing) :
    (State.testCrossing n d s c).table = s.table ∧ (State.testCrossing n d s c).store.core = s.store.core := by
  unfold State.testCrossing; dsimp only; split <;> simp

@[simp] theorem State.watchSample_core (p q : Nat) (delta : Int) :
    (s.watchSample p q delta).table = s.table ∧ (s.watchSample p q delta).store.core = s.store.core := by
  have crossings : ∀ n d (cs : List Crossing) (u : State), (cs.foldl (State.testCrossing n d) u).table = u.table ∧
      (cs.foldl (State.testCrossing n d) u).store.core = u.store.core := by
    intro n d cs
    induction cs with
    | nil => simp
    | cons c cs ih => intro u; simp [ih]
  have entries : ∀ d (ns : List Nat) (u : State),
      let t := ns.foldl (fun s n => ((s.watchEntry n).cfg.crossings p q delta).foldl (State.testCrossing n d) s) u
      t.table = u.table ∧ t.store.core = u.store.core := by
    intro d ns
    induction ns with
    | nil => simp
    | cons n ns ih =>
      intro u
      obtain ⟨table, store⟩ := ih (((u.watchEntry n).cfg.crossings p q delta).foldl (State.testCrossing n d) u)
      exact ⟨table.trans (crossings ..).1, store.trans (crossings ..).2⟩
  unfold State.watchSample; split
  · simp
  · exact entries _ _ _

@[simp] theorem State.handOver_core (o : SampleOrder) (d : Direction) (p q : Nat) (delta : Int) :
    (s.handOver o d p q delta).table.core = s.table.core ∧ (s.handOver o d p q delta).store.core = s.store.core := by
  cases o <;> simp [State.handOver]

@[simp] theorem State.pivotDrift_core (delta : Option Int) (q : Nat) :
    (s.pivotDrift delta q).table.core = s.table.core ∧ (s.pivotDrift delta q).store.core = s.store.core := by
  unfold State.pivotDrift; dsimp only; repeat' split
  all_goals simp

@[simp] theorem State.validSample_core (q : Nat) (o : SampleOrder) :
    (s.validSample q o).table.core = s.table.core ∧ (s.validSample q o).store.core = s.store.core := by
  unfold State.validSample; dsimp only; split <;> simp

@[simp] theorem State.takeSample_core (q : Nat) (e : Bool) (o : SampleOrder) :
    (s.takeSample q e o).table.core = s.table.core ∧ (s.takeSample q e o).store.core = s.store.core := by
  unfold State.takeSample; split <;> simp

end Sys2Proof.Machine
end

section
/-! SUPPORT. The two invariants of O8 as one predicate on the table and the store: values in range (R2, R4, R9, R11),
Law 10 (R73). -/

namespace Sys2Proof.Machine

/-! ### Values in range, field by field -/

/-- Every set field of the table lies in its range, and the machine record's defaulted geometry is set. -/
def TowerTable.ranged (t : TowerTable) : Prop :=
  t.machine.ranged ∧ t.machine.defaulted ∧ ∀ r ∈ t.towers.toList, r.cfg.ranged

/-- Only tuning in range is pending. -/
def TowerTable.stagesTuning (t : TowerTable) : Prop := ∀ w ∈ t.pending, inRange w = true ∧ w.1.geometry = false

/-- Every image stored or being written lies in range. -/
def ConfigStore.ranged (c : ConfigStore) : Prop :=
  (∀ i k, c.stored = .written i k → i.ranged) ∧ ∀ i, c.writing = some i → i.ranged

variable (s : State)

theorem State.configRanged_iff : s.configRanged ↔ s.table.ranged ∧ s.table.stagesTuning ∧ s.store.ranged := by
  simp only [State.configRanged, TowerTable.ranged, TowerTable.stagesTuning, ConfigStore.ranged, and_assoc]

theorem mem_bank {α : Type} {n : Nat} (v : Vector α n) (d : α) {a : α} :
    a ∈ v.toList ↔ ∃ k, 1 ≤ k ∧ k ≤ n ∧ nth v k d = a := by
  constructor
  · intro h
    obtain ⟨i, hi, rfl⟩ := List.getElem_of_mem h
    have : i < n := by simpa using hi
    exact ⟨i + 1, by omega, by omega, by rw [nth_of_mem v (by omega) (by omega)]; simp⟩
  · rintro ⟨k, h1, h2, rfl⟩
    rw [nth_of_mem v h1 h2]
    simp

/-- A table is in range when every field it holds is. -/
theorem State.ranged_iff_held : s.table.ranged ↔
    s.table.machine.defaulted ∧ ∀ key v, key.real → s.held key = some v → inRange (key, v) = true := by
  constructor
  · rintro ⟨machine, defaulted, towers⟩
    refine ⟨defaulted, fun key v real h => ?_⟩
    rcases key with f | ⟨k, f⟩
    · exact machine f v h
    · exact towers _ ((mem_bank _ _).2 ⟨k, real.1, real.2, rfl⟩) f v h
  · rintro ⟨defaulted, held⟩
    refine ⟨fun f v h => held (.machine f) v trivial h, defaulted, fun r hr f v h => ?_⟩
    obtain ⟨k, h1, h2, rfl⟩ := (mem_bank _ ⟨.empty, .reset⟩).1 hr
    exact held (.tower k f) v ⟨h1, h2⟩ h

theorem lastWritten_eq_some {ws : List FieldWrite} {key : FieldKey} {before : Option Nat} {v : Nat}
    (h : lastWritten ws key before = some v) : (key, v) ∈ ws ∨ before = some v := by
  unfold lastWritten at h
  split at h
  next w last =>
    have mem := List.mem_of_getLast? last
    simp only [List.mem_filter, beq_iff_eq] at mem
    obtain ⟨mem, rfl⟩ := mem
    cases h
    exact .inl mem
  next => exact .inr h

theorem lastWritten_isSome {ws : List FieldWrite} {key : FieldKey} {before : Option Nat} (h : before.isSome = true) :
    (lastWritten ws key before).isSome = true := by
  unfold lastWritten; split
  · rfl
  · exact h

/-- Values in range, written to a table in range, leave it in range. -/
theorem State.writeFields_ranged {ws : List FieldWrite} (h : s.table.ranged) (hw : ∀ w ∈ ws, inRange w = true) :
    (s.writeFields ws).table.ranged := by
  obtain ⟨⟨limit, interval⟩, held⟩ := s.ranged_iff_held.1 h
  refine (State.ranged_iff_held _).2 ⟨⟨?_, ?_⟩, fun key v real hv => ?_⟩
  · have := s.writeFields_held ws (key := .machine .missLimit) trivial
    exact (congrArg Option.isSome this).trans (lastWritten_isSome limit)
  · have := s.writeFields_held ws (key := .machine .driveInterval) trivial
    exact (congrArg Option.isSome this).trans (lastWritten_isSome interval)
  · rw [s.writeFields_held ws real] at hv
    rcases lastWritten_eq_some hv with new | old
    · exact hw _ new
    · exact held key v real old

/-- The ranges of R2 that the counts of R73 rest on. -/
theorem TowerTable.ranged.missLimit_pos {s : State} (h : s.table.ranged) : 1 ≤ s.mval .missLimit := by
  obtain ⟨machine, ⟨limit, -⟩, -⟩ := h
  obtain ⟨n, hn⟩ := Option.isSome_iff_exists.1 limit
  have range := machine .missLimit n hn
  have value : s.mval .missLimit = n := congrArg (·.getD 0) hn
  simp only [MachineField.inRange, Bool.and_eq_true, decide_eq_true_eq] at range
  omega

theorem TowerTable.ranged.towerCount_le {s : State} (h : s.table.ranged) : s.towerCount ≤ 16 := by
  obtain ⟨machine, -, -⟩ := h
  cases hn : s.table.machine.towerCount with
  | none => simp [State.towerCount, hn]
  | some n =>
    have range := machine .towerCount n hn
    simp only [MachineField.inRange, Bool.and_eq_true, decide_eq_true_eq] at range
    simpa [State.towerCount, hn] using range.2

theorem TowerTable.ranged.real_of_mem {s : State} (h : s.table.ranged) {k : Nat} (hk : k ∈ s.members) :
    1 ≤ k ∧ k ≤ 16 := by
  have := h.towerCount_le
  have := s.mem_members.1 hk
  omega

/-! ### The two invariants of O8, told apart by whether the links are asked for -/

/-- The configuration lies in range and, if the links are asked for, Law 10 holds. -/
def State.sound (links : Prop) (s : State) : Prop := s.configRanged ∧ (links → s.linksAgree)

variable {s} {links : Prop}

theorem State.sound.table (h : s.sound links) : s.table.ranged := (s.configRanged_iff.1 h.1).1

theorem State.sound.staged (h : s.sound links) : s.table.stagesTuning := (s.configRanged_iff.1 h.1).2.1

theorem State.sound.store (h : s.sound links) : s.store.ranged := (s.configRanged_iff.1 h.1).2.2

theorem State.sound_of (table : s.table.ranged) (staged : s.table.stagesTuning) (store : s.store.ranged)
    (agree : links → s.linksAgree) : s.sound links := ⟨s.configRanged_iff.2 ⟨table, staged, store⟩, agree⟩

theorem State.towerCount_of_machine {t : State} (h : t.table.machine = s.table.machine) : t.towerCount = s.towerCount := by
  unfold State.towerCount; rw [h]

theorem State.members_of_machine {t : State} (h : t.table.machine = s.table.machine) : t.members = s.members := by
  unfold State.members; rw [State.towerCount_of_machine h]

theorem State.mval_of_machine {t : State} (h : t.table.machine = s.table.machine) (f : MachineField) :
    t.mval f = s.mval f := by
  unfold State.mval; rw [h]

theorem TowerDynamic.linkAgrees_of_core {limit : Nat} {d e : TowerDynamic} (h : d.core = e.core)
    (agrees : e.linkAgrees limit) : d.linkAgrees limit :=
  cast (congrArg (TowerDynamic.linkAgrees limit) h).symm agrees

theorem TowerTable.ranged_of_core {t u : TowerTable} (h : t.core = u.core) (ranged : u.ranged) : t.ranged := by
  obtain ⟨machine, -⟩ := TowerTable.core_inj h
  have towers : t.towers.map (·.cfg) = u.towers.map (·.cfg) := by
    have := congrArg (fun v => v.towers.map (·.cfg)) h
    simpa [TowerTable.core, Vector.map_map, Function.comp_def, TowerRecord.core] using this
  have list : t.towers.toList.map (·.cfg) = u.towers.toList.map (·.cfg) := by
    simpa [Vector.toList_map] using congrArg Vector.toList towers
  obtain ⟨m, d, cfgs⟩ := ranged
  have all : ∀ c ∈ u.towers.toList.map (·.cfg), c.ranged := by simpa using cfgs
  rw [← list] at all
  exact ⟨machine ▸ m, machine ▸ d, by simpa using all⟩

/-- Both invariants look at the core alone. -/
theorem State.sound.of_core {t : State} (h : s.sound links) (table : t.table.core = s.table.core)
    (store : t.store.core = s.store.core) : t.sound links := by
  obtain ⟨machine, pending⟩ := TowerTable.core_inj table
  obtain ⟨stored, writing, -⟩ := ConfigStore.core_inj store
  refine State.sound_of (TowerTable.ranged_of_core table h.table) ?_ ?_ fun l k hk => ?_
  · have := h.staged
    unfold TowerTable.stagesTuning at this ⊢
    rwa [pending]
  · have := h.store
    unfold ConfigStore.ranged at this ⊢
    rwa [stored, writing]
  · rw [State.members_of_machine machine] at hk
    rw [State.mval_of_machine machine]
    exact TowerDynamic.linkAgrees_of_core (congrArg TowerRecord.dyn (State.tower_core_of_eq table k)) (h.2 l k hk)

/-- What touches neither table nor store keeps both. -/
theorem State.sound.of_eq {t : State} (h : s.sound links) (table : t.table = s.table) (store : t.store = s.store) :
    t.sound links := h.of_core (congrArg _ table) (congrArg _ store)

/-- One tower's dynamic fields rewritten, so that it still agrees if it is a member. -/
theorem State.sound.setDyn {k : Nat} {f : TowerDynamic → TowerDynamic} (h : s.sound links)
    (agrees : links → k ∈ s.members → (f (s.tower k).dyn).linkAgrees (s.mval .missLimit)) :
    (s.setDyn k f).sound links := by
  have cfg : ∀ key, (s.setDyn k f).held key = s.held key := by
    rintro (g | ⟨j, g⟩)
    · rfl
    · exact congrArg (·.get g) (s.setDyn_tower_cfg k j f)
  refine State.sound_of ((State.ranged_iff_held _).2 ?_) h.staged h.store fun l j hj => ?_
  · obtain ⟨defaulted, held⟩ := s.ranged_iff_held.1 h.table
    exact ⟨defaulted, by simpa only [cfg] using held⟩
  · by_cases same : j = k
    · subst same
      obtain ⟨h1, h2⟩ := h.table.real_of_mem hj
      rw [s.setDyn_tower_self h1 h2]
      exact agrees l hj
    · rw [s.setDyn_tower_of_ne same]
      exact h.2 l j hj

theorem State.sound.raise (h : s.sound links) (k : FaultKind) (t : Option Nat) : (s.raise k t).sound links :=
  h.of_core (s.raise_core k t).1 (s.raise_core k t).2

end Sys2Proof.Machine
end

section
/-! SUPPORT. A change of the tower count, said once: which towers change membership, and what stands (R13, R81). -/

namespace Sys2Proof.Machine

variable (s : State)

/-! ### A change of N (R13, R81) -/

theorem nth_setNth {α : Type} {n : Nat} (v : Vector α n) (j k : Nat) (d : α) :
    nth (setNth v k d) j d = if j = k then d else nth v j d := by
  by_cases h : j = k
  · subst h
    by_cases hj : 1 ≤ j ∧ j ≤ n
    · rw [nth_setNth_self v hj.1 hj.2, if_pos rfl]
    · rw [nth_of_not_mem _ hj, if_pos rfl]
  · rw [nth_setNth_of_ne v h, if_neg h]

theorem State.resetMember_tower (k j : Nat) :
    (s.resetMember k).tower j = if j = k then ⟨(s.tower j).cfg, .reset⟩ else s.tower j := by
  change (s.setDyn k fun _ => .reset).tower j = _
  by_cases h : j = k
  · subst h
    by_cases hj : 1 ≤ j ∧ j ≤ 16
    · rw [s.setDyn_tower_self hj.1 hj.2, if_pos rfl]
    · rw [State.tower_of_not_mem _ hj, if_pos rfl, State.tower_of_not_mem _ hj]
  · rw [s.setDyn_tower_of_ne h, if_neg h]

/-- Several towers change membership: what the fold leaves alone. -/
theorem State.resetMembers_frame (ks : List Nat) :
    let t := ks.foldl State.resetMember s
    t = { s with
      table := t.table
      angle := { s.angle with windows := t.angle.windows, overLimit := t.angle.overLimit }
      faults := { s.faults with tripMarks := t.faults.tripMarks } } ∧
    t.table.machine = s.table.machine ∧ t.table.pending = s.table.pending := by
  induction ks generalizing s with
  | nil => exact ⟨rfl, rfl, rfl⟩
  | cons k ks ih =>
    obtain ⟨frame, machine, pending⟩ := ih (s.resetMember k)
    refine ⟨?_, machine.trans rfl, pending.trans rfl⟩
    rw [List.foldl_cons]
    exact frame

/-- Each tower named takes its reset values, and every other stands. -/
theorem State.resetMembers_nth (ks : List Nat) (j : Nat) :
    let t := ks.foldl State.resetMember s
    t.tower j = (if j ∈ ks then ⟨(s.tower j).cfg, .reset⟩ else s.tower j) ∧
    nth t.angle.windows j none = (if j ∈ ks then none else nth s.angle.windows j none) ∧
    nth t.angle.overLimit j 0 = (if j ∈ ks then 0 else nth s.angle.overLimit j 0) ∧
    nth t.faults.tripMarks j false = (if j ∈ ks then false else nth s.faults.tripMarks j false) := by
  induction ks generalizing s with
  | nil => simp
  | cons k ks ih =>
    obtain ⟨tower, window, count, mark⟩ := ih (s.resetMember k)
    have windows : nth (s.resetMember k).angle.windows j none = _ := nth_setNth s.angle.windows j k none
    have counts : nth (s.resetMember k).angle.overLimit j 0 = _ := nth_setNth s.angle.overLimit j k 0
    have marks : nth (s.resetMember k).faults.tripMarks j false = _ := nth_setNth s.faults.tripMarks j k false
    simp only [List.foldl_cons, tower, window, count, mark, s.resetMember_tower, windows, counts, marks, List.mem_cons]
    by_cases same : j = k <;> by_cases later : j ∈ ks <;> simp [same, later]

/-- The towers between the old and the new count. -/
def State.movers (s : State) (old : Nat) : List Nat :=
  (upTo 16).filter fun k => min old s.towerCount < k && k ≤ max old s.towerCount

theorem State.mem_movers {old k : Nat} :
    k ∈ s.movers old ↔ (1 ≤ k ∧ k ≤ 16) ∧ min old s.towerCount < k ∧ k ≤ max old s.towerCount := by
  simp [State.movers, mem_upTo]

/-- The table, and the slip windows and marks of the towers, that a change of N leaves. -/
theorem State.changeMembers_table (old : Nat) :
    (s.changeMembers old).table = ((s.movers old).foldl State.resetMember s).table ∧
    (s.changeMembers old).angle = ((s.movers old).foldl State.resetMember s).angle ∧
    (s.changeMembers old).faults.tripMarks = ((s.movers old).foldl State.resetMember s).faults.tripMarks := by
  unfold State.changeMembers; dsimp only; repeat' split
  all_goals exact ⟨rfl, rfl, rfl⟩

theorem State.changeMembers_tower (old k : Nat) : (s.changeMembers old).tower k =
    if k ∈ s.movers old then ⟨(s.tower k).cfg, .reset⟩ else s.tower k := by
  have tower : (s.changeMembers old).tower k = ((s.movers old).foldl State.resetMember s).tower k := by
    unfold State.tower; rw [(s.changeMembers_table old).1]
  exact tower.trans (s.resetMembers_nth _ k).1

@[simp] theorem State.changeMembers_machine (old : Nat) :
    (s.changeMembers old).table.machine = s.table.machine ∧ (s.changeMembers old).table.pending = s.table.pending := by
  rw [(s.changeMembers_table old).1]
  exact (s.resetMembers_frame _).2

/-- The records that a change of N from `old` latches: those of towers that leave (R13). -/
def FaultRecord.leaves (n old : Nat) (r : FaultRecord) : Bool :=
  match r.tower with
  | some k => n < k && k ≤ old
  | none => false

theorem FaultRecord.leaves_iff (n old : Nat) (r : FaultRecord) :
    r.leaves n old = true ↔ ∃ k, r.tower = some k ∧ n < k ∧ k ≤ old := by
  unfold FaultRecord.leaves; split <;> simp [*]

/-- Latching a record is giving it the condition LATCHED, whichever it had. -/
theorem latch_records (sel : FaultRecord → Bool) : (s.latch sel).faults.records =
    s.faults.records.map fun r => if sel r = true then { r with condition := .latched } else r := by
  refine List.map_congr_left fun r _ => ?_
  obtain ⟨kind, tower, mode, _ | _, a, b, n⟩ := r <;> simp

theorem State.changeMembers_slot (old : Nat) :
    let m := (s.movers old).foldl State.resetMember s
    s.changeMembers old = { m.latch (FaultRecord.leaves s.towerCount old) with
      span := { m.span with
        slot := m.span.slot.map fun sl => if s.towerCount < sl.tower then { sl with left := true } else sl } } := by
  dsimp only
  generalize hm : (s.movers old).foldl State.resetMember s = m
  have unfolded : s.changeMembers old = match m.span.slot with
      | some sl => if s.towerCount < sl.tower then
          { m.latch (FaultRecord.leaves s.towerCount old) with span := { m.span with slot := some { sl with left := true } } }
        else m.latch (FaultRecord.leaves s.towerCount old)
      | none => m.latch (FaultRecord.leaves s.towerCount old) := by rw [← hm]; rfl
  rw [unfolded]
  have same : ∀ sl, m.span.slot = sl → m.latch (FaultRecord.leaves s.towerCount old) =
      { m.latch (FaultRecord.leaves s.towerCount old) with span := { m.span with slot := sl } } := by
    rintro _ rfl; rfl
  cases slot : m.span.slot with
  | none => exact same _ slot
  | some sl =>
    by_cases h : s.towerCount < sl.tower
    · simp only [if_pos h, Option.map_some]
    · simp only [if_neg h, Option.map_some]; exact same _ slot

/-- A change of N, the whole of it. -/
theorem State.changeMembers_eq (old : Nat) :
    s.changeMembers old = { s with
      table := (s.changeMembers old).table
      angle := { s.angle with
        windows := (s.changeMembers old).angle.windows, overLimit := (s.changeMembers old).angle.overLimit }
      span := { s.span with
        slot := s.span.slot.map fun sl => if s.towerCount < sl.tower then { sl with left := true } else sl }
      faults := { s.faults with
        records := s.faults.records.map fun r =>
          if ∃ k, r.tower = some k ∧ s.towerCount < k ∧ k ≤ old then { r with condition := .latched } else r
        tripMarks := (s.changeMembers old).faults.tripMarks } } := by
  obtain ⟨frame, -, -⟩ := s.resetMembers_frame (s.movers old)
  have slot := s.changeMembers_slot old
  generalize (s.movers old).foldl State.resetMember s = m at frame slot
  have records : m.faults.records = s.faults.records := congrArg (·.faults.records) frame
  have latched := latch_records m (FaultRecord.leaves s.towerCount old)
  simp only [FaultRecord.leaves_iff, records] at latched
  rw [slot]
  apply State.ext
  case faults =>
    change FaultList.mk (m.latch _).faults.records m.faults.modes m.faults.tripMarks = _
    rw [latched, congrArg (·.faults.modes) frame]
    rfl
  case span => rw [congrArg State.span frame]
  case angle => exact (congrArg State.angle frame :)
  case table => rfl
  all_goals rw [frame]; rfl

end Sys2Proof.Machine
end

section
/-! SUPPORT. A new miss limit, tower by tower (R15): the three cases, and the agreement that they bring about. -/

namespace Sys2Proof.Machine

variable (s : State)

/-! ### A new miss limit (R15) -/

/-- Tower k's count and link state as a new miss limit leaves them. -/
def State.agreed (s : State) (k : Nat) (l : LinkState) (st : TowerStatus) : State :=
  s.setDyn k fun d => { d with misses := min (s.tower k).dyn.misses (s.mval .missLimit), link := l, status := st }

theorem State.setDyn_congr {k : Nat} {f g : TowerDynamic → TowerDynamic} (h : f (s.tower k).dyn = g (s.tower k).dyn) :
    s.setDyn k f = s.setDyn k g := by
  simp only [State.setDyn, h]

theorem State.agreeMisses_lost (k : Nat) (link : (s.tower k).dyn.link = .missing)
    (full : min (s.tower k).dyn.misses (s.mval .missLimit) = s.mval .missLimit) :
    s.agreeMisses k = (s.agreed k .lost .absent).raise .linkLost (some k) := by
  unfold State.agreeMisses; dsimp only; rw [if_pos ⟨link, full⟩]; rfl

theorem State.agreeMisses_missing (k : Nat) (link : (s.tower k).dyn.link = .lost)
    (room : min (s.tower k).dyn.misses (s.mval .missLimit) < s.mval .missLimit) :
    s.agreeMisses k = s.agreed k .missing (towerStatus .missing (s.tower k).dyn.report) := by
  unfold State.agreeMisses; dsimp only; rw [if_neg (by simp [link]), if_pos ⟨link, room⟩]
  exact s.setDyn_congr rfl

theorem State.agreeMisses_same (k : Nat)
    (missing : ¬ ((s.tower k).dyn.link = .missing ∧
      min (s.tower k).dyn.misses (s.mval .missLimit) = s.mval .missLimit))
    (lost : ¬ ((s.tower k).dyn.link = .lost ∧ min (s.tower k).dyn.misses (s.mval .missLimit) < s.mval .missLimit)) :
    s.agreeMisses k = s.agreed k (s.tower k).dyn.link (s.tower k).dyn.status := by
  unfold State.agreeMisses; dsimp only; rw [if_neg missing, if_neg lost]
  exact s.setDyn_congr rfl

/-- Whatever the case, tower k takes the count and some link state and status, and nothing else of the core changes. -/
theorem State.agreeMisses_core (k : Nat) : ∃ l st,
    (s.agreeMisses k).table.core = (s.agreed k l st).table.core ∧ (s.agreeMisses k).store.core = s.store.core ∧
    ∀ old, 1 ≤ old → 1 ≤ s.mval .missLimit → (s.tower k).dyn.linkAgrees old →
      ({ (s.tower k).dyn with misses := min (s.tower k).dyn.misses (s.mval .missLimit), link := l, status := st } :
        TowerDynamic).linkAgrees (s.mval .missLimit) := by
  by_cases missing : (s.tower k).dyn.link = .missing ∧
      min (s.tower k).dyn.misses (s.mval .missLimit) = s.mval .missLimit
  · obtain ⟨link, full⟩ := missing
    refine ⟨.lost, .absent, ?_, ?_, fun _ _ _ _ => full⟩
    all_goals rw [s.agreeMisses_lost k link full]
    · exact (State.raise_core ..).1
    · exact (State.raise_core ..).2
  by_cases lost : (s.tower k).dyn.link = .lost ∧
      min (s.tower k).dyn.misses (s.mval .missLimit) < s.mval .missLimit
  · obtain ⟨link, room⟩ := lost
    refine ⟨_, _, congrArg (·.table.core) (s.agreeMisses_missing k link room),
      congrArg (·.store.core) (s.agreeMisses_missing k link room), fun old hold _ agrees => ?_⟩
    simp only [TowerDynamic.linkAgrees, link] at agrees ⊢
    omega
  · refine ⟨_, _, congrArg (·.table.core) (s.agreeMisses_same k missing lost),
      congrArg (·.store.core) (s.agreeMisses_same k missing lost), fun old hold hnew agrees => ?_⟩
    cases link : (s.tower k).dyn.link
    all_goals
      simp only [TowerDynamic.linkAgrees, link, true_and] at agrees missing lost ⊢
      omega

/-- What of the table a new miss limit leaves alone. -/
theorem State.agreeMisses_kept (k : Nat) :
    (s.agreeMisses k).table.machine = s.table.machine ∧ (s.agreeMisses k).table.pending = s.table.pending ∧
    (∀ j, ((s.agreeMisses k).tower j).cfg = (s.tower j).cfg) ∧
    (∀ j, j ≠ k → ((s.agreeMisses k).tower j).core = (s.tower j).core) := by
  obtain ⟨l, st, table, -, -⟩ := s.agreeMisses_core k
  obtain ⟨machine, pending⟩ := TowerTable.core_inj table
  refine ⟨machine, pending, fun j => ?_, fun j hj => ?_⟩
  · exact (TowerRecord.core_inj (State.tower_core_of_eq table j)).1.trans (s.setDyn_tower_cfg k j _)
  · exact (State.tower_core_of_eq table j).trans (congrArg TowerRecord.core (s.setDyn_tower_of_ne hj _))

/-- Tower k agrees with the miss limit in force once it has been brought into agreement with it. -/
theorem State.agreeMisses_agrees {k old : Nat} (hk : 1 ≤ k ∧ k ≤ 16) (hold : 1 ≤ old)
    (limit : 1 ≤ s.mval .missLimit) (agrees : (s.tower k).dyn.linkAgrees old) :
    ((s.agreeMisses k).tower k).dyn.linkAgrees (s.mval .missLimit) := by
  obtain ⟨l, st, table, -, settled⟩ := s.agreeMisses_core k
  have tower := State.tower_core_of_eq table k
  rw [State.agreed, s.setDyn_tower_self hk.1 hk.2] at tower
  exact TowerDynamic.linkAgrees_of_core (congrArg TowerRecord.dyn tower) (settled old hold limit agrees)

/-- Members that agree with the old limit, taken one by one, agree with the new one at the end. -/
theorem State.agreeAll_agrees (ks : List Nat) {old : Nat} (hold : 1 ≤ old) (limit : 1 ≤ s.mval .missLimit) {j : Nat}
    (hj : 1 ≤ j ∧ j ≤ 16)
    (agrees : (s.tower j).dyn.linkAgrees (s.mval .missLimit) ∨ (j ∈ ks ∧ (s.tower j).dyn.linkAgrees old)) :
    ((ks.foldl State.agreeMisses s).tower j).dyn.linkAgrees (s.mval .missLimit) := by
  induction ks generalizing s with
  | nil => simpa using agrees
  | cons k ks ih =>
    obtain ⟨machine, -, -, others⟩ := s.agreeMisses_kept k
    have value := State.mval_of_machine machine .missLimit
    rw [List.foldl_cons, ← value]
    refine ih (s.agreeMisses k) (value ▸ limit) ?_
    rw [value]
    by_cases same : j = k
    · subst same
      refine .inl ?_
      rcases agrees with new | ⟨-, before⟩
      · exact s.agreeMisses_agrees hj limit limit new
      · exact s.agreeMisses_agrees hj hold limit before
    · have dyn := congrArg TowerRecord.dyn (others j same)
      refine agrees.imp (TowerDynamic.linkAgrees_of_core dyn) fun ⟨mem, before⟩ =>
        ⟨(List.mem_cons.1 mem).resolve_left same, TowerDynamic.linkAgrees_of_core dyn before⟩

theorem State.agreeAll_kept (ks : List Nat) :
    let t := ks.foldl State.agreeMisses s
    t.table.machine = s.table.machine ∧ t.table.pending = s.table.pending ∧
    (∀ j, (t.tower j).cfg = (s.tower j).cfg) ∧ t.store.core = s.store.core := by
  induction ks generalizing s with
  | nil => simp
  | cons k ks ih =>
    obtain ⟨machine, pending, cfg, store⟩ := ih (s.agreeMisses k)
    obtain ⟨machine', pending', cfg', -⟩ := s.agreeMisses_kept k
    obtain ⟨-, -, -, store', -⟩ := s.agreeMisses_core k
    exact ⟨machine.trans machine', pending.trans pending', fun j => (cfg j).trans (cfg' j), store.trans store'⟩

end Sys2Proof.Machine
end

section
/-! SUPPORT. Writes with their effects: what the fields hold afterwards, and that the invariants of O8 survive them (R11 to
R17). -/

namespace Sys2Proof.Machine

variable (s : State)

/-! ### Writes applied with their effects: what is held afterwards -/

theorem writes_iff {ws : List FieldWrite} {key : FieldKey} : writes ws key = true ↔ ∃ w ∈ ws, w.1 = key := by
  simp [writes]

/-- The effects of writes keep what the fields hold: the configuration is that of the plain writing. -/
theorem State.applyWrites_kept (ws : List FieldWrite) :
    let t := s.applyWrites ws
    t.table.machine = (s.writeFields ws).table.machine ∧ t.table.pending = s.table.pending ∧
    (∀ k, (t.tower k).cfg = ((s.writeFields ws).tower k).cfg) ∧ t.store.core = s.store.core := by
  unfold State.applyWrites
  dsimp only
  generalize ha : (if (s.writeFields ws).towerCount = s.towerCount then s.writeFields ws else
    (s.writeFields ws).changeMembers s.towerCount) = a
  have kept_a : a.table.machine = (s.writeFields ws).table.machine ∧ a.table.pending = s.table.pending ∧
      (∀ k, (a.tower k).cfg = ((s.writeFields ws).tower k).cfg) ∧ a.store.core = s.store.core := by
    subst ha
    split
    · simp
    · refine ⟨by simp, by simp, fun k => ?_, ?_⟩
      · rw [State.changeMembers_tower]; split <;> rfl
      · rw [State.changeMembers_eq]; simp
  generalize hb : (if writes ws (.machine .driveInterval) then a.restartInterval else a) = b
  have kept_b : b.table = a.table ∧ b.store = a.store := by subst hb; split <;> simp
  generalize hc : (if writes ws (.machine .missLimit) then b.members.foldl State.agreeMisses b else b) = c
  have kept_c : c.table.machine = b.table.machine ∧ c.table.pending = b.table.pending ∧
      (∀ k, (c.tower k).cfg = (b.tower k).cfg) ∧ c.store.core = b.store.core := by
    subst hc
    split
    · exact b.agreeAll_kept _
    · simp
  obtain ⟨table, store⟩ := c.fieldsApplied_core ws
  obtain ⟨machine, pending⟩ := TowerTable.core_inj table
  obtain ⟨machine_a, pending_a, cfg_a, store_a⟩ := kept_a
  obtain ⟨table_b, store_b⟩ := kept_b
  obtain ⟨machine_c, pending_c, cfg_c, store_c⟩ := kept_c
  have tower_b : ∀ k, b.tower k = a.tower k := fun k => by unfold State.tower; rw [table_b]
  refine ⟨?_, ?_, fun k => ?_, ?_⟩
  · rw [machine, machine_c, table_b, machine_a]
  · rw [pending, pending_c, table_b, pending_a]
  · rw [(TowerRecord.core_inj (State.tower_core_of_eq table k)).1, cfg_c, tower_b, cfg_a]
  · rw [store, store_c, store_b, store_a]

theorem State.held_of_cfg {s t : State} (machine : t.table.machine = s.table.machine)
    (cfg : ∀ k, (t.tower k).cfg = (s.tower k).cfg) (key : FieldKey) : t.held key = s.held key := by
  rcases key with f | ⟨k, f⟩
  · simp only [State.held, machine]
  · simp only [State.held, cfg]

theorem TowerTable.ranged_of_cfg {s t : State} (machine : t.table.machine = s.table.machine)
    (cfg : ∀ k, (t.tower k).cfg = (s.tower k).cfg) (h : s.table.ranged) : t.table.ranged := by
  obtain ⟨defaulted, held⟩ := s.ranged_iff_held.1 h
  exact t.ranged_iff_held.2 ⟨machine ▸ defaulted, by simpa only [State.held_of_cfg machine cfg] using held⟩

@[simp] theorem State.applyWrites_held (ws : List FieldWrite) (key : FieldKey) :
    (s.applyWrites ws).held key = (s.writeFields ws).held key :=
  State.held_of_cfg (s.applyWrites_kept ws).1 (s.applyWrites_kept ws).2.2.1 key

/-! ### Law 10 through a write -/

/-- A tower with its reset values agrees with every miss limit. -/
theorem TowerDynamic.reset_agrees (limit : Nat) : TowerDynamic.reset.linkAgrees limit := rfl

/-- After the writing and a change of N, every member agrees with the old miss limit. -/
theorem State.changeMembers_agrees {s w : State} (small : w.towerCount ≤ 16)
    (dyn : ∀ k, (w.tower k).dyn = (s.tower k).dyn) (agree : s.linksAgree) {k : Nat} (hk : k ∈ w.members) :
    let a := if w.towerCount = s.towerCount then w else w.changeMembers s.towerCount
    (a.tower k).dyn.linkAgrees (s.mval .missLimit) := by
  obtain ⟨h1, h2⟩ := w.mem_members.1 hk
  have member : k ≤ s.towerCount → (s.tower k).dyn.linkAgrees (s.mval .missLimit) := fun h =>
    agree k (s.mem_members.2 ⟨h1, h⟩)
  dsimp only
  split
  next same => rw [dyn]; exact member (by omega)
  next changed =>
    rw [State.changeMembers_tower]
    split
    · exact TowerDynamic.reset_agrees _
    next stays =>
      rw [w.mem_movers] at stays
      rw [dyn]
      exact member (by omega)

/-- A write leaves the miss limit or says that it wrote it. -/
theorem State.missLimit_of_not_written {ws : List FieldWrite} (h : ¬ writes ws (.machine .missLimit) = true) :
    (s.writeFields ws).mval .missLimit = s.mval .missLimit := by
  have held := s.writeFields_held_of_not_mem (ws := ws) (key := .machine .missLimit)
    fun w hw eq => h (writes_iff.2 ⟨w, hw, eq.symm⟩)
  exact congrArg (·.getD 0) held

theorem State.applyWrites_linksAgree {ws : List FieldWrite} (ranged : s.table.ranged)
    (hw : ∀ w ∈ ws, inRange w = true) (agree : s.linksAgree) : (s.applyWrites ws).linksAgree := by
  have written := s.writeFields_ranged ranged hw
  obtain ⟨machine, -, -, -⟩ := s.applyWrites_kept ws
  intro k hk
  rw [State.members_of_machine machine] at hk
  rw [State.mval_of_machine machine]
  have real := written.real_of_mem hk
  have before := State.changeMembers_agrees written.towerCount_le (s.writeFields_dyn ws) agree hk
  dsimp only at before
  unfold State.applyWrites
  dsimp only
  generalize ha : (if (s.writeFields ws).towerCount = s.towerCount then s.writeFields ws else
    (s.writeFields ws).changeMembers s.towerCount) = a at before ⊢
  have machine_a : a.table.machine = (s.writeFields ws).table.machine := by subst ha; split <;> simp
  generalize hb : (if writes ws (.machine .driveInterval) then a.restartInterval else a) = b
  have table_b : b.table = a.table := by subst hb; split <;> simp
  have tower_b : b.tower k = a.tower k := by unfold State.tower; rw [table_b]
  have machine_b : b.table.machine = (s.writeFields ws).table.machine := table_b ▸ machine_a
  have limit_b := State.mval_of_machine machine_b .missLimit
  refine TowerDynamic.linkAgrees_of_core
    (congrArg TowerRecord.dyn (State.tower_core_of_eq (State.fieldsApplied_core _ ws).1 k)) ?_
  rw [← tower_b] at before
  split
  next => 
    rw [← limit_b]
    refine State.agreeAll_agrees b _ ranged.missLimit_pos (limit_b ▸ written.missLimit_pos) real (.inr ⟨?_, before⟩)
    rwa [State.members_of_machine machine_b]
  next unwritten => rwa [s.missLimit_of_not_written unwritten]

variable {s} {links : Prop}

theorem State.sound.applyWrites (h : s.sound links) {ws : List FieldWrite} (hw : ∀ w ∈ ws, inRange w = true) :
    (s.applyWrites ws).sound links := by
  obtain ⟨machine, pending, cfg, store⟩ := s.applyWrites_kept ws
  obtain ⟨stored, writing, -⟩ := ConfigStore.core_inj store
  refine State.sound_of (TowerTable.ranged_of_cfg machine cfg (s.writeFields_ranged h.table hw)) ?_ ?_
    fun l => s.applyWrites_linksAgree h.table hw (h.2 l)
  · have := h.staged
    unfold TowerTable.stagesTuning at this ⊢
    rwa [pending]
  · have := h.store
    unfold ConfigStore.ranged at this ⊢
    rwa [stored, writing]

/-- What is pending may be replaced by other tuning in range. -/
theorem State.sound.stage (h : s.sound links) {p : List FieldWrite}
    (hp : ∀ w ∈ p, inRange w = true ∧ w.1.geometry = false) :
    State.sound links { s with table := { s.table with pending := p } } :=
  State.sound_of h.table hp h.store h.2

theorem State.sound.applyPending (h : s.sound links) : s.applyPending.sound links :=
  (h.stage (p := []) (by simp)).applyWrites fun w hw => (h.staged w hw).1

theorem State.sound.settleCompleteness (h : s.sound links) : s.settleCompleteness.sound links := by
  unfold State.settleCompleteness
  dsimp only
  split
  · exact h.of_core (by simp) (by simp)
  split
  · exact State.sound.applyPending (h.of_core (by simp) (by simp))
  · exact h

theorem mem_stage {p : List FieldWrite} {w v : FieldWrite} (h : v ∈ stage p w) : v ∈ p ∨ v = w := by
  unfold stage at h
  split at h
  · obtain ⟨u, hu, eq⟩ := List.mem_map.1 h
    split at eq
    · exact .inr eq.symm
    · exact .inl (eq ▸ hu)
  · simpa using h

theorem mem_stages {p ws : List FieldWrite} {v : FieldWrite} (h : v ∈ ws.foldl stage p) : v ∈ p ∨ v ∈ ws := by
  induction ws generalizing p with
  | nil => exact .inl h
  | cons w ws ih =>
    rcases ih h with mem | mem
    · exact (mem_stage mem).imp_right fun eq => by simp [eq]
    · exact .inr (.tail _ mem)

theorem State.sound.applyOrStage (h : s.sound links) {ws : List FieldWrite} (hw : ∀ w ∈ ws, inRange w = true) :
    (s.applyOrStage ws).sound links := by
  unfold State.applyOrStage
  split
  · refine State.sound.settleCompleteness ((h.stage (p := []) (by simp)).applyWrites fun w mem => ?_)
    exact (List.mem_append.1 mem).elim (fun old => (h.staged w old).1) (hw w)
  next staging =>
    have tuning : ∀ w ∈ ws, w.1.geometry = false := by
      simpa using (not_or.1 staging).2
    exact h.stage fun w mem => (mem_stages mem).elim (h.staged w) fun new => ⟨hw w new, tuning w new⟩

theorem State.sound.takeWrite (h : s.sound links) (ws : List FieldWrite) (stray : Bool) (consistent : State → Bool) :
    (s.takeWrite ws stray consistent).1.sound links := by
  unfold State.takeWrite
  split
  · exact h
  split
  · exact h
  next accepted =>
    split
    · exact h
    · exact h.applyOrStage (by simpa using (not_or.1 accepted).2)

end Sys2Proof.Machine
end

section
/-! SUPPORT. The invariants of O8 through the requests, the resets, the store, the span line and the order engine. -/

namespace Sys2Proof.Machine

variable {s : State} {links : Prop}

/-! ### The requests -/

/-- The run requests answer through `runCheck`: what they do where they are taken is what has to keep the core. -/
theorem State.runCheck_core {taken : Option (State × Answer)}
    (h : ∀ p, taken = some p → p.1.table.core = s.table.core ∧ p.1.store.core = s.store.core) :
    (s.runCheck taken).1.table.core = s.table.core ∧ (s.runCheck taken).1.store.core = s.store.core := by
  unfold State.runCheck
  split
  · simp
  · cases taken with
    | none => simp
    | some p => exact h p rfl

theorem State.takeStartPass_core (d : Byte) (p : U16) (pr : Byte) (sa : U16) (c : Byte) :
    (s.takeStartPass d p pr sa c).1.table.core = s.table.core ∧
      (s.takeStartPass d p pr sa c).1.store.core = s.store.core := by
  refine State.runCheck_core fun q hq => ?_
  dsimp only at hq
  repeat' split at hq
  all_goals cases hq
  all_goals simp

theorem State.takeSetPace_core (p : U16) :
    (s.takeSetPace p).1.table.core = s.table.core ∧ (s.takeSetPace p).1.store.core = s.store.core := by
  refine State.runCheck_core fun q hq => ?_
  obtain ⟨t, ht, rfl⟩ := Option.map_eq_some_iff.1 hq
  exact (s.takePace_core ht).imp_left (congrArg _)

theorem State.takeStopPass_core :
    s.takeStopPass.1.table.core = s.table.core ∧ s.takeStopPass.1.store.core = s.store.core := by
  refine State.runCheck_core fun q hq => ?_
  obtain ⟨t, ht, rfl⟩ := Option.map_eq_some_iff.1 hq
  exact (s.takeStop_core ht).imp_left (congrArg _)

theorem State.takeReverseRequest_core :
    s.takeReverseRequest.1.table.core = s.table.core ∧ s.takeReverseRequest.1.store.core = s.store.core := by
  refine State.runCheck_core fun q hq => ?_
  obtain ⟨t, ht, rfl⟩ := Option.map_eq_some_iff.1 hq
  exact (s.takeReverse_core ht).imp_left (congrArg _)

theorem State.takeHold_core :
    s.takeHold.1.table.core = s.table.core ∧ s.takeHold.1.store.core = s.store.core := by
  refine State.runCheck_core fun q hq => ?_
  split at hq <;> cases hq
  simp

theorem State.takeResume_core :
    s.takeResume.1.table.core = s.table.core ∧ s.takeResume.1.store.core = s.store.core := by
  refine State.runCheck_core fun q hq => ?_
  repeat' split at hq
  all_goals cases hq
  all_goals simp

theorem State.takeTripReset_core :
    s.takeTripReset.1.table.core = s.table.core ∧ s.takeTripReset.1.store.core = s.store.core := by
  refine State.runCheck_core fun q hq => ?_
  dsimp only at hq
  repeat' split at hq
  all_goals cases hq
  all_goals simp

theorem State.changeMode_core (k : FaultKind) (deferred : Bool) :
    (s.changeMode k deferred).table.core = s.table.core ∧ (s.changeMode k deferred).store.core = s.store.core := by
  have frozen : ∀ u : State, u.freezeHeld.table.core = u.table.core ∧ u.freezeHeld.store = u.store :=
    fun u => ⟨u.setDyns_core fun _ => rfl, u.setDyns_store _ _⟩
  unfold State.changeMode
  dsimp only
  repeat' split
  all_goals simp [frozen]

theorem State.takeSetFaultMode_core (k m : Byte) :
    (s.takeSetFaultMode k m).1.table.core = s.table.core ∧ (s.takeSetFaultMode k m).1.store.core = s.store.core := by
  unfold State.takeSetFaultMode
  repeat' split
  all_goals simp [State.changeMode_core]

theorem State.takeFaultClear_core (sel k t : Byte) :
    (s.takeFaultClear sel k t).1.table.core = s.table.core ∧ (s.takeFaultClear sel k t).1.store.core = s.store.core := by
  unfold State.takeFaultClear
  split <;> simp

/-- The requests of the sector table, the watch unit and the port, and the reading requests, touch neither table nor store. -/
theorem State.otherRequests_core :
    (∀ k, (s.takeReadTower k).1 = s) ∧ s.takeReadMachine.1 = s ∧
    (∀ m es, (s.takeSetSectors m es).1.table = s.table ∧ (s.takeSetSectors m es).1.store = s.store) ∧
    (∀ c n, (s.takeReadSectors c n).1 = s) ∧
    (∀ n en r h d c st a g rp, (s.takeSetWatch n en r h d c st a g rp).1.table = s.table ∧
      (s.takeSetWatch n en r h d c st a g rp).1.store = s.store) ∧
    (∀ o m, (s.takeSetAux o m).1.table = s.table ∧ (s.takeSetAux o m).1.store = s.store) ∧
    (∀ p, (s.takeFaultList p).1 = s) ∧
    (∀ k p, (s.takeSetNoticePriority k p).1.table = s.table ∧ (s.takeSetNoticePriority k p).1.store = s.store) ∧
    (∀ l, (s.takeSetNoticeMask l).1.table = s.table ∧ (s.takeSetNoticeMask l).1.store = s.store) ∧
    (s.takeNoticeFetch.1.table = s.table ∧ s.takeNoticeFetch.1.store = s.store) ∧
    (∀ n u k sub p, (s.takeSetWakeFilter n u k sub p).1.table = s.table ∧
      (s.takeSetWakeFilter n u k sub p).1.store = s.store) := by
  refine ⟨fun k => ?_, rfl, fun m es => ?_, fun c n => ?_, fun n en r h d c st a g rp => ?_, fun o m => ?_, fun p => ?_,
    fun k p => ?_, fun l => ?_, ?_, fun n u k sub p => ?_⟩
  · unfold State.takeReadTower; dsimp only; repeat' split
    all_goals rfl
  · unfold State.takeSetSectors State.abandonBuild; dsimp only; repeat' split
    all_goals exact ⟨rfl, rfl⟩
  · unfold State.takeReadSectors; dsimp only; repeat' split
    all_goals rfl
  · unfold State.takeSetWatch; dsimp only; repeat' split
    all_goals exact ⟨rfl, rfl⟩
  · unfold State.takeSetAux; dsimp only; repeat' split
    all_goals exact ⟨rfl, rfl⟩
  · unfold State.takeFaultList; dsimp only; split <;> rfl
  · unfold State.takeSetNoticePriority; repeat' split
    all_goals exact ⟨rfl, rfl⟩
  · unfold State.takeSetNoticeMask; split <;> exact ⟨rfl, rfl⟩
  · unfold State.takeNoticeFetch; dsimp only; split <;> exact ⟨rfl, rfl⟩
  · unfold State.takeSetWakeFilter; dsimp only; repeat' split
    all_goals exact ⟨rfl, rfl⟩

/-- The image written is the table as it stands with its pending values in place (R170). -/
theorem State.sound.snapshot_ranged (h : s.sound links) : s.snapshot.ranged := by
  obtain ⟨machine, defaulted, towers⟩ :=
    s.writeFields_ranged (ws := s.table.pending ++ []) h.table (by simpa using fun w v hw => (h.staged (w, v) hw).1)
  refine ⟨machine, defaulted, ?_⟩
  simpa [State.snapshot, State.candidate] using towers

theorem State.sound.takeStoreConfig (h : s.sound links) (pr po : Byte) (d t : U16) :
    (s.takeStoreConfig pr po d t).1.sound links := by
  unfold State.takeStoreConfig
  split
  · exact h
  split
  · exact h
  next settings _ =>
    refine State.sound_of h.table h.staged ⟨h.store.1, fun i hi => ?_⟩ h.2
    cases hi
    have kept : State.sound links { s with store := { s.store with settings := settings } } :=
      State.sound_of h.table h.staged h.store h.2
    exact kept.snapshot_ranged

/-- Every request leaves the table and the store as the two invariants ask. -/
theorem State.sound.serve (h : s.sound links) (wake : Bool) (r : Request) : (s.serve wake r).1.sound links := by
  obtain ⟨readTower, readMachine, setSectors, readSectors, setWatch, setAux, faultList, priority, mask, fetch, filter⟩ :=
    State.otherRequests_core (s := s)
  cases r with
  | configMachine p vs =>
    change (s.takeConfigMachine p vs).1.sound links
    unfold State.takeConfigMachine
    exact h.takeWrite _ _ _
  | configTower k p vs =>
    change (s.takeConfigTower k p vs).1.sound links
    unfold State.takeConfigTower
    dsimp only
    split
    · exact h
    · exact h.takeWrite _ _ _
  | storeConfig pr po d t => exact h.takeStoreConfig pr po d t
  | startPass d p pr sa c => exact h.of_core (State.takeStartPass_core ..).1 (State.takeStartPass_core ..).2
  | setPace p => exact h.of_core (State.takeSetPace_core p).1 (State.takeSetPace_core p).2
  | stopPass => exact h.of_core State.takeStopPass_core.1 State.takeStopPass_core.2
  | hold => exact h.of_core State.takeHold_core.1 State.takeHold_core.2
  | resume => exact h.of_core State.takeResume_core.1 State.takeResume_core.2
  | reverse => exact h.of_core State.takeReverseRequest_core.1 State.takeReverseRequest_core.2
  | tripReset => exact h.of_core State.takeTripReset_core.1 State.takeTripReset_core.2
  | setFaultMode k m => exact h.of_core (State.takeSetFaultMode_core k m).1 (State.takeSetFaultMode_core k m).2
  | faultClear sel k t => exact h.of_core (State.takeFaultClear_core ..).1 (State.takeFaultClear_core ..).2
  | readTower k => exact (readTower k).symm ▸ h
  | readMachine => exact readMachine.symm ▸ h
  | readSectors c n => exact (readSectors c n).symm ▸ h
  | faultList p => exact (faultList p).symm ▸ h
  | setSectors m es => exact h.of_eq (setSectors m es).1 (setSectors m es).2
  | setWatch n en r w d c st a g rp => exact h.of_eq (setWatch ..).1 (setWatch ..).2
  | setAux o m => exact h.of_eq (setAux o m).1 (setAux o m).2
  | setNoticePriority k p => exact h.of_eq (priority k p).1 (priority k p).2
  | setNoticeMask l => exact h.of_eq (mask l).1 (mask l).2
  | noticeFetch => exact h.of_eq fetch.1 fetch.2
  | setWakeFilter n u k sub p => exact h.of_eq (filter ..).1 (filter ..).2
  | panelSleep => exact h.of_eq rfl rfl
  | readWatches | resetDevice | panelAwake | readPort | unknown | badLength => exact h

/-! ### The port and the resets -/

theorem State.sound.setPanel (h : s.sound links) (p : PanelPort) : State.sound links { s with panel := p } :=
  h.of_eq rfl rfl

theorem State.sound.setSpan (h : s.sound links) (l : SpanMaster) : State.sound links { s with span := l } :=
  h.of_eq rfl rfl

theorem State.sound.take (h : s.sound links) (f : PanelFrame) : (s.take f).sound links := by
  have heard : (s.noteTaken (parseRequest f)).sound links := h.of_eq (by simp) (by simp)
  exact (heard.serve s.panel.wakeLine (parseRequest f)).of_eq rfl rfl

theorem State.sound.arrive (h : s.sound links) (f : PanelFrame) : (s.arrive f).sound links := by
  unfold State.arrive
  split
  · exact h.of_eq rfl rfl
  split
  · exact h.take f
  · exact h.of_eq rfl rfl

theorem State.sound.takeNext (h : s.sound links) : s.takeNext.sound links := by
  unfold State.takeNext
  split
  · exact (h.setPanel _).take _
  · exact h

theorem State.sound.transmit (h : s.sound links) : s.transmit.sound links := h.of_eq (by simp) (by simp)

theorem State.sound.panelByte (h : s.sound links) (b : Byte) : (s.panelByte b).sound links := by
  have received := h.setPanel { s.panel with rx := (panelRxByte s.panel.rx b).1 }
  unfold State.panelByte
  dsimp only
  split
  · exact (received.arrive _).transmit
  · exact received

theorem ConfigImage.empty_ranged : ConfigImage.empty.ranged := by
  refine ⟨MachineRecord.empty_ranged, MachineRecord.empty_defaulted, fun c hc => ?_⟩
  have : c = .empty := by simpa [ConfigImage.empty] using hc
  exact this ▸ TowerConfig.empty_ranged

/-- A load gives an image in range: a stored one, or the empty configuration. -/
theorem ConfigStore.ranged.load {c : ConfigStore} (h : c.ranged) : c.stored.load.ranged := by
  unfold StoredCopy.load
  split
  next i k stored =>
    split
    · exact h.1 i k stored
    · exact ConfigImage.empty_ranged
  · exact ConfigImage.empty_ranged

theorem State.sound.loseWrite (h : s.sound links) : s.loseWrite.sound links := by
  unfold State.loseWrite
  split
  · exact State.sound_of h.table h.staged ⟨by simp, by simp⟩ h.2
  · exact h

/-- After a load every block has the image's values, and every tower its reset values. -/
theorem State.sound.fresh (h : s.sound links) : s.fresh.sound links := by
  obtain ⟨machine, defaulted, cfgs⟩ := h.store.load
  refine State.sound_of ⟨machine, defaulted, ?_⟩ (by simp [State.fresh, TowerTable.stagesTuning]) ⟨h.store.1, h.store.2⟩
    fun _ k _ => ?_
  · simpa [State.fresh] using cfgs
  · have tower : s.fresh.tower k = ⟨nth s.store.stored.load.towers k .empty, .reset⟩ :=
      nth_map s.store.stored.load.towers (fun c => (⟨c, .reset⟩ : TowerRecord)) k .empty
    rw [tower]
    exact TowerDynamic.reset_agrees _

theorem State.decide_core : s.decide.table = s.table ∧ s.decide.store.core = s.store.core := by
  unfold State.decide State.stoppedAtReset
  dsimp only
  repeat' split
  all_goals simp
  all_goals rfl

theorem State.sound.resetPart (h : s.sound links) (device : Bool) : (s.resetPart device).sound links := by
  have fresh := h.loseWrite.fresh
  unfold State.resetPart
  dsimp only
  refine State.sound.of_core ?_ (congrArg _ State.decide_core.1) State.decide_core.2
  split
  all_goals exact fresh.of_eq (by simp [State.startTimers]) (by simp [State.startTimers])

theorem State.sound.invalidateRecord (h : s.sound links) : s.invalidateRecord.sound links := h.of_core rfl rfl

theorem State.sound.deviceReset (h : s.sound links) : s.deviceReset.sound links := h.invalidateRecord.resetPart true

theorem State.sound.replyEnds (h : s.sound links) : s.replyEnds.sound links := by
  unfold State.replyEnds
  split
  · split
    · exact h.deviceReset
    · exact (h.setPanel _).takeNext
  · exact h

/-- The image whose write completes is the one that was being written. -/
theorem State.sound.writeCompletes (h : s.sound links) (verified : Bool) : (s.writeCompletes verified).sound links := by
  unfold State.writeCompletes
  split
  next image writing =>
    have stored : State.sound links { s with store := { s.store with
        writing := none, stored := if verified then .written image (u32Bytes image.check) else .failing } } := by
      refine State.sound_of h.table h.staged ⟨fun i k hi => ?_, by simp⟩ h.2
      dsimp only at hi
      split at hi <;> cases hi
      exact h.store.2 _ writing
    exact stored.of_eq (by simp) (by simp)
  · exact h

/-! ### The span line -/

/-- All that a report taken writes of the core is its own tower's record (R69). -/
theorem State.takeReport_core (s : State) (kind : SlotKind) (k : Nat) (f : ReportFrame) :
    (s.takeReport kind k f).table.core =
      (s.setDyn k fun d => d.takeReport (reportOf k s.towerCount s.clock f)).table.core ∧
    (s.takeReport kind k f).store.core = s.store.core := by
  unfold State.takeReport
  dsimp only
  generalize ha : s.setDyn k _ = a
  have store_a : a.store = s.store := by subst ha; rfl
  generalize hb : (if (s.tower k).dyn.link = .missing ∨ (s.tower k).dyn.link = .lost then _ else a) = b
  have kept_b : b.table = a.table ∧ b.store = a.store := by subst hb; split <;> simp
  generalize hc : (if (reportOf k s.towerCount s.clock f).driveState = .fault ∧ 0 < (b.tower k).dyn.lastOrder then
    b.raise .driveFault (some k) else b) = c
  have kept_c : c.table.core = b.table.core ∧ c.store.core = b.store.core := by subst hc; split <;> simp
  simp [kept_c, kept_b, store_a]

theorem State.sound.takeReport (h : s.sound links) (kind : SlotKind) (k : Nat) (f : ReportFrame) :
    (s.takeReport kind k f).sound links := by
  have taken := h.setDyn (k := k) (f := fun d => d.takeReport (reportOf k s.towerCount s.clock f)) fun _ _ => rfl
  obtain ⟨table, store⟩ := s.takeReport_core kind k f
  exact taken.of_core table store

theorem State.sound.spanByte (h : s.sound links) (b : Byte) : (s.spanByte b).sound links := by
  have received := h.setSpan { s.span with rx := (spanRxByte s.span.rx b).1 }
  unfold State.spanByte
  split
  · exact h
  dsimp only
  split
  · unfold State.examineReport
    split
    · split
      · exact (received.setSpan _).takeReport _ _ _
      · exact received
    · exact received
  · exact received

/-- A miss moves the count of its tower and its link state together (R73). -/
theorem State.sound.countMiss (h : s.sound links) (k : Nat) : (s.countMiss k).sound links := by
  have limit := h.table.missLimit_pos
  have agrees : links → k ∈ s.members → (s.tower k).dyn.linkAgrees (s.mval .missLimit) := fun l hk => h.2 l k hk
  have rewritten : ∀ d : TowerDynamic, (links → k ∈ s.members → d.linkAgrees (s.mval .missLimit)) →
      (s.setDyn k fun _ => d).sound links := fun d hd => h.setDyn hd
  unfold State.countMiss
  dsimp only
  split
  case h_1 => exact h
  case h_2 =>
    split
    next one =>
      have lost : (s.setDyn k fun d => { d with misses := 1, link := .lost, status := .absent }).sound links :=
        h.setDyn fun _ _ => show 1 = _ by omega
      exact (lost.raise _ _).raise _ _
    next more =>
      have missing : (s.setDyn k fun d => { d with misses := 1, link := .missing }).sound links :=
        h.setDyn fun _ _ => show 1 ≤ 1 ∧ 1 < _ by omega
      exact missing.raise _ _
  case h_3 link =>
    split
    next full =>
      have lost : (s.setDyn k fun d =>
          { d with misses := s.mval .missLimit, link := .lost, status := .absent }).sound links :=
        h.setDyn fun _ _ => rfl
      exact lost.raise _ _
    next room =>
      refine h.setDyn fun l hk => ?_
      have := agrees l hk
      simp only [TowerDynamic.linkAgrees, link] at this ⊢
      omega
  case h_4 link =>
    refine h.setDyn fun l hk => ?_
    simp only [TowerDynamic.linkAgrees, link]

theorem State.sound.leaveQuiet (h : s.sound links) : s.leaveQuiet.sound links := h.of_eq (by simp) (by simp)

theorem State.sound.windowExpires (h : s.sound links) : s.windowExpires.sound links := by
  unfold State.windowExpires
  split
  · split
    · dsimp only
      have waiting : ∀ sl : Slot, ((s.runTo (sl.windowAt + 10)).setPhase sl .waiting).sound links :=
        fun sl => h.of_eq rfl rfl
      split
      · exact waiting _
      · exact ((waiting _).countMiss _).leaveQuiet
    · exact h
  · exact h

/-- The span line's other events touch neither table nor store. -/
theorem State.slotEvents_core :
    (s.spanFrameEnds.table = s.table ∧ s.spanFrameEnds.store = s.store) ∧
    (s.slotEnds.table = s.table ∧ s.slotEnds.store = s.store) ∧
    (s.quietExpires.table = s.table ∧ s.quietExpires.store = s.store) ∧
    (s.surveyExpires.table = s.table ∧ s.surveyExpires.store = s.store) := by
  refine ⟨?_, ?_, ?_, ?_⟩
  · unfold State.spanFrameEnds; repeat' split
    all_goals simp
  · unfold State.slotEnds State.afterSlot; dsimp only; repeat' split
    all_goals simp
  · unfold State.quietExpires; repeat' split
    all_goals simp
  · unfold State.surveyExpires; dsimp only; repeat' split
    all_goals simp

/-! ### The order engine -/

theorem TowerDynamic.takeOrder_core (d : TowerDynamic) (v : Nat) (dir : Direction) : (d.takeOrder v dir).core = d.core := rfl

theorem State.handSet_core (os : OrderSet) :
    (s.handSet os).table.core = s.table.core ∧ (s.handSet os).store = s.store := by
  have fold : ∀ (orders : List (Nat × Nat)) (u : State),
      let t := orders.foldl (fun s p => s.setDyn p.1 fun d => d.takeOrder p.2 os.direction) u
      t.table.core = u.table.core ∧ t.store = u.store := by
    intro orders
    induction orders with
    | nil => simp
    | cons p orders ih =>
      intro u
      obtain ⟨table, store⟩ := ih (u.setDyn p.1 fun d => d.takeOrder p.2 os.direction)
      exact ⟨table.trans (u.setDyn_core rfl), store⟩
  unfold State.handSet
  dsimp only
  split
  all_goals simp [fold]

theorem State.sound.intervalExpires (h : s.sound links) : s.intervalExpires.sound links := by
  unfold State.intervalExpires
  split
  next t _ =>
    have applied : (s.runOut t).applyPending.sound links := State.sound.applyPending (h.of_eq rfl rfl)
    exact applied.of_core (by simp [State.handSet_core]) (by simp [State.handSet_core])
  · exact h

/-! ### Every command -/

theorem foldl_sound {α : Type} {f : State → α → State}
    (step : ∀ {u : State} (a : α), u.sound links → (f u a).sound links)
    (as : List α) {u : State} (h : u.sound links) : (as.foldl f u).sound links := by
  induction as generalizing u with
  | nil => exact h
  | cons a as ih => exact ih (step a h)

theorem event_sound {f : State → State} {t : State} (h : s.sound links) (hf : (f s).sound links)
    (ht : event f s = .next t) : t.sound links := by
  cases ht
  split
  · exact hf.transmit
  · exact h

/-- A request command is the arrival of its frame. -/
theorem exec_of_frame {c : Instr} {f : PanelFrame} (h : c.frame = some f) (s : State) :
    exec c s = event (State.submitFrame f) s := by
  cases c <;> cases h <;> rfl

theorem State.sound.submitFrame (h : s.sound links) (f : PanelFrame) : (s.submitFrame f).sound links := by
  unfold State.submitFrame
  split
  · exact (h.setPanel _).arrive f
  · exact h

end Sys2Proof.Machine
end

section
/-! SUPPORT. Every command keeps the invariants of O8. -/

namespace Sys2Proof.Machine

variable {s : State} {links : Prop}

theorem State.sound.setInputs (h : s.sound links) (i : Inputs) : State.sound links { s with inputs := i } :=
  h.of_eq rfl rfl

/-- An event whose work keeps the core of table and store. -/
theorem event_sound_of_core {f : State → State} {t : State} (h : s.sound links)
    (hf : (f s).table.core = s.table.core ∧ (f s).store.core = s.store.core) (ht : event f s = .next t) :
    t.sound links :=
  event_sound h (h.of_core hf.1 hf.2) ht

theorem event_sound_of_eq {f : State → State} {t : State} (h : s.sound links)
    (hf : (f s).table = s.table ∧ (f s).store = s.store) (ht : event f s = .next t) : t.sound links :=
  event_sound h (h.of_eq hf.1 hf.2) ht

theorem event_sound_of_table {f : State → State} {t : State} (h : s.sound links)
    (hf : (f s).table = s.table ∧ (f s).store.core = s.store.core) (ht : event f s = .next t) : t.sound links :=
  event_sound_of_core h (hf.imp_left (congrArg _)) ht

/-- Every command keeps both invariants. -/
theorem exec_sound (c : Instr) {t : State} (h : s.sound links) (ht : exec c s = .next t) : t.sound links := by
  cases frame : c.frame with
  | some f =>
    rw [exec_of_frame frame] at ht
    exact event_sound h (h.submitFrame f) ht
  | none =>
    cases c with
    | panelFrameComplete bytes =>
      exact event_sound (f := fun s => bytes.foldl State.panelByte s) h
        (foldl_sound (fun b hu => hu.panelByte b) bytes h) ht
    | panelFrameGap b =>
      exact event_sound (f := fun s => ({ s with panel := { s.panel with rx := [] } } : State).panelByte b) h
        ((h.setPanel _).panelByte b) ht
    | panelFrameLengthAbove120 b =>
      refine event_sound h ?_ ht
      split
      · exact h.panelByte b
      · exact h
    | replySent => exact event_sound h h.replyEnds ht
    | noticeFrameSent =>
      refine event_sound_of_eq h ?_ ht
      unfold State.noticeEnds
      split <;> simp
    | panelSilenceExpiry => exact event_sound_of_core h s.silenceExpires_core ht
    | driveIntervalExpiry => exact event_sound h h.intervalExpires ht
    | slotEnd => exact event_sound_of_eq h State.slotEvents_core.2.1 ht
    | spanFrameSent => exact event_sound_of_eq h State.slotEvents_core.1 ht
    | quietTimerExpiry => exact event_sound_of_eq h State.slotEvents_core.2.2.1 ht
    | surveyTimerExpiry => exact event_sound_of_eq h State.slotEvents_core.2.2.2 ht
    | replyWindowExpiry => exact event_sound h h.windowExpires ht
    | reportReceived bytes =>
      exact event_sound (f := fun s => bytes.foldl State.spanByte s) h
        (foldl_sound (fun b hu => hu.spanByte b) bytes h) ht
    | spanFrameGap b =>
      exact event_sound (f := fun s => ({ s with span := { s.span with rx := [] } } : State).spanByte b) h
        ((h.setSpan _).spanByte b) ht
    | spanFrameKindNotReport b =>
      refine event_sound h ?_ ht
      split
      · exact h.spanByte b
      · exact h
    | stallTimerExpiry k => exact event_sound_of_core h (s.stallTimerExpires_core k) ht
    | sampleTimerExpiry => exact event_sound_of_eq h ⟨rfl, rfl⟩ ht
    | encoderReadComplete q e o =>
      refine event_sound_of_core h ?_ ht
      unfold State.readCompletes
      split <;> simp
    | encoderReadTimeout =>
      refine event_sound_of_core h ?_ ht
      unfold State.readTimesOut
      split <;> simp
    | prestartTimerExpiry => exact event_sound_of_table h s.runExpiries_core.1 ht
    | startFailTimerExpiry => exact event_sound_of_table h s.runExpiries_core.2.1 ht
    | stopTimerExpiry => exact event_sound_of_core h s.runExpiries_core.2.2 ht
    | recoveryTimerExpiry => exact event_sound_of_table h s.recoveryExpires_core ht
    | chainSenseChange closed =>
      change execChainSenseChange closed s = _ at ht
      unfold execChainSenseChange at ht
      split at ht
      · cases ht; exact h
      · exact event_sound_of_core (h.setInputs _) (State.chainChanged_core _) ht
    | powerFailAssert =>
      change execPowerFailAssert s = _ at ht
      unfold execPowerFailAssert at ht
      split at ht
      · cases ht; exact h
      · exact event_sound_of_core (h.setInputs _) (State.powerFails_core _) ht
    | powerFailDeassert =>
      change execPowerFailDeassert s = _ at ht
      unfold execPowerFailDeassert at ht
      split at ht
      · refine event_sound_of_table (f := State.powerReturns) (h.setInputs _) ?_ ht
        unfold State.powerReturns
        split <;> simp
      · cases ht; exact h
    | powerOnReset check =>
      cases ht
      refine State.sound.transmit (State.sound.resetPart ?_ false)
      split
      · exact h
      · exact h.invalidateRecord
    | deviceReset => exact event_sound h h.deviceReset ht
    | supplyLoss => cases ht; exact h.loseWrite.of_eq rfl rfl
    | storeWriteComplete verified => exact event_sound h (h.writeCompletes verified) ht
    | _ => cases frame

theorem step_sound {t : State} (h : s.sound links) (ht : step s = .next t) : t.sound links := by
  unfold step at ht
  split at ht
  next c rest _ =>
    have popped : State.sound links { s with pending := rest } := h.of_eq rfl rfl
    exact exec_sound c popped ht
  · cases ht
    unfold State.tick
    split
    · exact h.of_eq rfl rfl
    · exact h

/-- Settles O8: what every command keeps is said once, with and without the links asked for. The cases are the writes, a
change of N or of the miss limit, a report taken, a miss, a store's write and the resets; all else keeps the core. -/
theorem configurationAndLinkStatesStayConsistent : Obligations.ConfigurationAndLinkStatesStayConsistent :=
  ⟨fun _ _ ranged ht => (step_sound (links := False) ⟨ranged, False.elim⟩ ht).1,
    fun _ _ ranged agree ht => (step_sound (links := True) ⟨ranged, fun _ => agree⟩ ht).2 trivial⟩

end Sys2Proof.Machine
end

section
/-! SUPPORT. A request command at a part that is ready for it (R155 to R157): its frame says the request again, and its owner
answers it as the part stands once what every request taken does is done. -/

namespace Sys2Proof.Machine

variable {s : State}

/-! ### From the command to its owner -/

theorem u16_loByte_hiByte (w : U16) : u16 (loByte w) (hiByte w) = w := by
  apply BitVec.eq_of_getLsbD_eq
  intro i hi
  simp only [u16, loByte, hiByte, BitVec.getLsbD_append, BitVec.getLsbD_extractLsb']
  grind

/-- Two-byte quantities read again from the bytes they travel as. -/
theorem pairs_flatMap_u16Bytes (vs : List U16) : pairs (vs.flatMap u16Bytes) = some vs := by
  induction vs with
  | nil => rfl
  | cons v vs ih =>
    change (pairs (vs.flatMap u16Bytes)).map (u16 (loByte v) (hiByte v) :: ·) = _
    rw [ih, u16_loByte_hiByte]
    rfl

theorem parseRequest_configMachine {presence : U16} {values : List U16} (h : values.length = bitsSet presence) :
    parseRequest (frameOf (.configMachine presence values)) = .configMachine presence values := by
  change (match pairs (values.flatMap u16Bytes) with
    | some vs => if vs.length = bitsSet (u16 (loByte presence) (hiByte presence)) then
        Request.configMachine (u16 (loByte presence) (hiByte presence)) vs else .badLength 0x01
    | none => .badLength 0x01) = _
  rw [pairs_flatMap_u16Bytes, u16_loByte_hiByte]
  exact if_pos h

theorem parseRequest_configTower {tower : Byte} {presence : U16} {values : List U16}
    (h : values.length = bitsSet presence) :
    parseRequest (frameOf (.configTower tower presence values)) = .configTower tower presence values := by
  change (match pairs (values.flatMap u16Bytes) with
    | some vs => if vs.length = bitsSet (u16 (loByte presence) (hiByte presence)) then
        Request.configTower tower (u16 (loByte presence) (hiByte presence)) vs else .badLength 0x02
    | none => .badLength 0x02) = _
  rw [pairs_flatMap_u16Bytes, u16_loByte_hiByte]
  exact if_pos h

/-- A frame taken: its owner's answer stands ready as the reply. -/
theorem State.take_of_served {f : PanelFrame} {u : State} {a : Answer}
    (served : (s.noteTaken (parseRequest f)).serve s.panel.wakeLine (parseRequest f) = (u, some a)) :
    s.take f = u.replying f.type a := by
  unfold State.take
  dsimp only
  rw [served]
  rfl

/-- A frame that fits is taken at once by a part that serves no request and has none waiting. -/
theorem State.submitFrame_of_receptive (ready : s.receptive) {f : PanelFrame} (fits : f.payload.length ≤ 120) :
    s.submitFrame f = ({ s with panel := { s.panel with rx := [] } } : State).take f := by
  obtain ⟨-, service, intake⟩ := ready
  unfold State.submitFrame State.arrive
  rw [if_pos fits, if_neg (by simp [intake]), if_pos (by simp [service, intake])]

/-- A request whose frame fits is taken at once by a receptive part, and its owner's answer is its reply. -/
theorem exec_answered (ready : s.receptive) {c : Instr} {f : PanelFrame} (frame : c.frame = some f)
    (fits : f.payload.length ≤ 120) {r : Request} (parsed : parseRequest f = r) {u : State} {a : Answer}
    (served : ∀ wake, (s.heard r).serve wake r = (u, some a)) :
    exec c s = .next (u.replying f.type a).transmit := by
  subst parsed
  rw [exec_of_frame frame, event, if_pos ready.1, State.submitFrame_of_receptive ready fits,
    State.take_of_served (served _)]

/-- CONFIG_MACHINE is answered by the tower table. -/
theorem exec_configMachine (ready : s.receptive) {presence : U16} {values : List U16}
    (h : values.length = bitsSet presence) {u : State} {a : Answer}
    (taken : (s.heard (.configMachine presence values)).takeConfigMachine presence values = (u, a)) :
    exec (.configMachine presence values) s = .next (u.replying 0x01 a).transmit := by
  obtain ⟨fits, -⟩ := Laws.FrameFits.configMachine presence values _ rfl (by simpa [WellFormed] using h)
  exact exec_answered ready rfl fits (parseRequest_configMachine h) fun _ => congrArg (Prod.map id some) taken

/-- CONFIG_TOWER is answered by the tower table. -/
theorem exec_configTower (ready : s.receptive) {tower : Byte} {presence : U16} {values : List U16}
    (h : values.length = bitsSet presence) {u : State} {a : Answer}
    (taken : (s.heard (.configTower tower presence values)).takeConfigTower tower presence values = (u, a)) :
    exec (.configTower tower presence values) s = .next (u.replying 0x02 a).transmit := by
  obtain ⟨fits, -⟩ := Laws.FrameFits.configTower tower presence values _ rfl (by simpa [WellFormed] using h)
  exact exec_answered ready rfl fits (parseRequest_configTower h) fun _ => congrArg (Prod.map id some) taken

/-- READ_TOWER is answered by the tower table. -/
theorem exec_readTower (ready : s.receptive) {tower : Byte} {u : State} {a : Answer}
    (taken : (s.heard (.readTower tower)).takeReadTower tower = (u, a)) :
    exec (.readTower tower) s = .next (u.replying 0x03 a).transmit := by
  obtain ⟨fits, -⟩ := Laws.FrameFits.readTower tower _ rfl rfl
  exact exec_answered ready rfl fits rfl fun _ => congrArg (Prod.map id some) taken

/-! ### What depends on the table alone -/

theorem State.tower_of_table {t : State} (h : t.table = s.table) (k : Nat) : t.tower k = s.tower k := by
  unfold State.tower; rw [h]

theorem State.held_of_eq {t : State} (h : t.table = s.table) (key : FieldKey) : t.held key = s.held key :=
  State.held_of_core _ (congrArg _ h) key

theorem State.setting_of_table {t : State} (h : t.table = s.table) (key : FieldKey) : t.setting key = s.setting key := by
  rw [State.setting_eq, State.setting_eq, State.held_of_eq h, h]

theorem State.complete_of_table {t : State} (h : t.table = s.table) : t.complete = s.complete := by
  unfold State.complete State.members State.towerCount State.tower; rw [h]

theorem State.writeField_table {t : State} (h : t.table = s.table) (w : FieldWrite) :
    (t.writeField w).table = (s.writeField w).table := by
  unfold State.writeField State.tower; split <;> simp only [h]

theorem State.writeFields_table {s t : State} (h : t.table = s.table) (ws : List FieldWrite) :
    (t.writeFields ws).table = (s.writeFields ws).table := by
  induction ws generalizing s t with
  | nil => exact h
  | cons w ws ih => exact ih (State.writeField_table h w)

theorem State.candidate_table {t : State} (h : t.table = s.table) (ws : List FieldWrite) :
    (t.candidate ws).table = (s.candidate ws).table := by
  unfold State.candidate; rw [h]; exact State.writeFields_table h _

/-! ### READ_TOWER (R18, R19) -/

/-- A machine record is the table's, field by field, with the pending values in place. -/
theorem State.candidate_machine (s : State) (f : MachineField) :
    (s.candidate []).table.machine.get f = s.setting (.machine f) :=
  s.candidate_held [] (key := .machine f) trivial

theorem State.candidate_tower (s : State) {k : Nat} (h1 : 1 ≤ k) (h2 : k ≤ 16) (f : TowerField) :
    ((s.candidate []).tower k).cfg.get f = s.setting (.tower k f) :=
  s.candidate_held [] (key := .tower k f) ⟨h1, h2⟩

/-- A tower counts as untouched while none of its fields without a default has a value, pending ones included. -/
theorem State.candidate_untouched (s : State) {k : Nat} (h1 : 1 ≤ k) (h2 : k ≤ 16) :
    ((s.candidate []).tower k).cfg.untouched = true ↔ ∀ f ∈ undefaulted, s.setting (.tower k f) = none := by
  simp only [TowerConfig.untouched, List.all_eq_true, Option.isNone_iff_eq_none, s.candidate_tower h1 h2]

theorem State.members_contains (s : State) {k : Nat} (h : 1 ≤ k) :
    s.members.contains k = Decidable.decide (k ≤ s.towerCount) := by
  rw [Bool.eq_iff_iff]
  simp [s.mem_members, h]

/-- READ_TOWER's answer depends on the tower table and the clock alone. -/
theorem State.takeReadTower_of_table {h : State} (table : h.table = s.table) (clock : h.clock = s.clock) (tower : Byte) :
    h.takeReadTower tower = (h, (s.takeReadTower tower).2) := by
  have candidate : (h.candidate []).table = (s.candidate []).table := State.candidate_table table []
  have view : h.towerView tower.toNat = s.towerView tower.toNat := by
    unfold State.towerView State.reportAge
    rw [State.tower_of_table table, State.tower_of_table candidate, State.members_of_machine (congrArg _ table), table,
      clock]
  unfold State.takeReadTower
  dsimp only
  rw [candidate, State.tower_of_table candidate, State.complete_of_table table, view, table]
  repeat' split
  all_goals rfl

/-- Settles O22: the four clauses are the branches of `State.takeReadTower`, whose answer does not depend on what hearing the
request has done. -/
theorem readTowerReportsTheTable : Obligations.ReadTowerReportsTheTable := by
  intro s tower ready
  dsimp only
  have answers {a : Answer} (branch : (s.takeReadTower tower).2 = a) :=
    exec_readTower (a := a) ready (branch ▸ State.takeReadTower_of_table (s.heard_table _) (s.heard_clock _) tower)
  refine ⟨fun above => answers ?_, fun zero => ⟨_, s.candidate_machine, answers ?_⟩, fun h1 h2 unset => answers ?_,
    fun h1 h2 set => ⟨_, s.candidate_tower h1 h2, answers ?_⟩⟩
  · simp [State.takeReadTower, above]
  · simp only [State.takeReadTower, zero, Nat.not_lt_zero, if_false, if_true]
    congr 3
    funext ⟨key, v⟩
    cases key <;> rfl
  · have untouched := (s.candidate_untouched h1 h2).2 unset
    simp [State.takeReadTower, untouched, show ¬ 16 < tower.toNat by omega, show tower.toNat ≠ 0 by omega]
  · have touched : ((s.candidate []).tower tower.toNat).cfg.untouched = false := by
      rw [Bool.eq_false_iff, Ne, s.candidate_untouched h1 h2]
      simpa using set
    simp only [State.takeReadTower, touched, show ¬ 16 < tower.toNat by omega, show tower.toNat ≠ 0 by omega,
      if_false, State.towerView, s.members_contains h1, Bool.false_eq_true]
    congr 4
    funext ⟨key, v⟩
    cases key <;> rfl

end Sys2Proof.Machine
end

section
/-! SUPPORT. CONFIG_MACHINE and CONFIG_TOWER: the four checks (R9, R10, R183), and the staging of accepted tuning (R11). -/

namespace Sys2Proof.Machine

variable {s : State}

/-! ### The writes a request carries -/

/-- The fields a presence word marks come in the order of their bits, none of them twice. -/
theorem presentFields_sublist {α : Type} (fields : List α) (presence : U16) (values : List U16) :
    ((presentFields fields presence values).map (·.1)).Sublist fields := by
  unfold presentFields
  generalize 0 = i
  induction fields generalizing i values with
  | nil => simp [presentFields.go]
  | cons f fs ih =>
    unfold presentFields.go
    split
    · split
      · exact (ih _ _).cons_cons f
      · simp
    · exact (ih _ _).cons f

/-- The writes of CONFIG_MACHINE. -/
def machineWrites (presence : U16) (values : List U16) : List FieldWrite :=
  (presentFields machineFields presence values).map fun w => (.machine w.1, w.2)

/-- The writes of CONFIG_TOWER to tower k. -/
def towerWrites (k : Nat) (presence : U16) (values : List U16) : List FieldWrite :=
  (presentFields towerFields presence values).map fun w => (.tower k w.1, w.2)

theorem forall_machineWrites {presence : U16} {values : List U16} {P : FieldWrite → Prop} :
    (∀ w ∈ machineWrites presence values, P w) ↔
      ∀ w ∈ presentFields machineFields presence values, P (.machine w.1, w.2) :=
  List.forall_mem_map

theorem forall_towerWrites {k : Nat} {presence : U16} {values : List U16} {P : FieldWrite → Prop} :
    (∀ w ∈ towerWrites k presence values, P w) ↔
      ∀ w ∈ presentFields towerFields presence values, P (.tower k w.1, w.2) :=
  List.forall_mem_map

theorem machineWrites_nodup (presence : U16) (values : List U16) :
    ((machineWrites presence values).map (·.1)).Nodup := by
  have fields := (presentFields_sublist machineFields presence values).nodup (by decide)
  have keys : (machineWrites presence values).map (·.1) =
      ((presentFields machineFields presence values).map (·.1)).map FieldKey.machine := by
    simp [machineWrites]
  exact keys ▸ fields.map fun _ _ h => FieldKey.machine.inj h

theorem towerWrites_nodup (k : Nat) (presence : U16) (values : List U16) :
    ((towerWrites k presence values).map (·.1)).Nodup := by
  have fields := (presentFields_sublist towerFields presence values).nodup (by decide)
  have keys : (towerWrites k presence values).map (·.1) =
      ((presentFields towerFields presence values).map (·.1)).map (FieldKey.tower k) := by
    simp [towerWrites]
  exact keys ▸ fields.map fun _ _ h => (FieldKey.tower.inj h).2

theorem namesNoField_machine (presence : U16) : namesNoField 12 presence = true ↔ 4096 ≤ presence.toNat := by
  simp [namesNoField]

theorem namesNoField_tower (presence : U16) : namesNoField 16 presence = false := by
  simp [namesNoField]

theorem State.takeConfigMachine_eq (presence : U16) (values : List U16) : s.takeConfigMachine presence values =
    s.takeWrite (machineWrites presence values) (namesNoField 12 presence) fun c => c.radiiIncrease && c.roundFits := rfl

theorem State.takeConfigTower_eq {tower : Byte} (h1 : 1 ≤ tower.toNat) (h2 : tower.toNat ≤ 16) (presence : U16)
    (values : List U16) : s.takeConfigTower tower presence values =
    s.takeWrite (towerWrites tower.toNat presence values) (namesNoField 16 presence)
      fun c => c.radiiIncrease && c.towerConsistent tower.toNat := by
  unfold State.takeConfigTower
  dsimp only
  rw [if_neg (by omega)]
  rfl

/-! ### The branches of a write (R9) -/

section Checks

variable {ws : List FieldWrite} {stray : Bool} {consistent : State → Bool}

/-- Check 2: geometry outside UNCONFIGURED and STOPPED. -/
theorem State.takeWrite_wrongState (geometry : ∃ w ∈ ws, w.1.geometry = true)
    (fixed : s.run.mstate ≠ .unconfigured ∧ s.run.mstate ≠ .stopped) :
    s.takeWrite ws stray consistent = (s, .fail .wrongState) := by
  unfold State.takeWrite
  rw [if_pos ⟨by simpa using geometry, fixed⟩]

/-- Check 2 is passed at rest, or by tuning alone. -/
def State.permits (s : State) (ws : List FieldWrite) : Prop :=
  ¬ (s.run.mstate ≠ .unconfigured ∧ s.run.mstate ≠ .stopped) ∨ ∀ w ∈ ws, w.1.geometry = false

theorem State.permits.not_refused (h : s.permits ws) :
    ¬ (ws.any (·.1.geometry) = true ∧ s.run.mstate ≠ .unconfigured ∧ s.run.mstate ≠ .stopped) := by
  rintro ⟨geometry, fixed⟩
  obtain ⟨w, hw, set⟩ := List.any_eq_true.1 geometry
  rcases h with rests | tuning
  · exact rests fixed
  · simp [tuning w hw] at set

/-- Check 3: a bit that names no field, or a value out of its range. -/
theorem State.takeWrite_badValue (permitted : s.permits ws) (bad : stray = true ∨ ∃ w ∈ ws, inRange w = false) :
    s.takeWrite ws stray consistent = (s, .fail .badValue) := by
  unfold State.takeWrite
  rw [if_neg permitted.not_refused, if_pos (bad.imp_right (by simp))]

/-- Check 4: the table as it would stand is not consistent. -/
theorem State.takeWrite_inconsistent (permitted : s.permits ws) (named : stray = false)
    (ranged : ∀ w ∈ ws, inRange w = true) (fails : consistent (s.candidate ws) = false) :
    s.takeWrite ws stray consistent = (s, .fail .badValue) := by
  unfold State.takeWrite
  rw [if_neg permitted.not_refused, if_neg (by simpa [named] using ranged), if_pos (by simp [fails])]

/-- All checks passed: the write is applied or staged. -/
theorem State.takeWrite_accepted (permitted : s.permits ws) (named : stray = false)
    (ranged : ∀ w ∈ ws, inRange w = true) (holds : consistent (s.candidate ws) = true) :
    s.takeWrite ws stray consistent = (s.applyOrStage ws, .ok) := by
  unfold State.takeWrite
  rw [if_neg permitted.not_refused, if_neg (by simpa [named] using ranged), if_neg (by simp [holds])]

end Checks

/-! ### The consistency checks on what the table would hold (R10) -/

theorem State.radius_eq (s : State) (k : Nat) : (s.tower k).cfg.radius = s.held (.tower k .radius) := rfl

theorem pairwise_upTo {n j k : Nat} {R : Nat → Nat → Prop} (h : (upTo n).Pairwise R) (h1 : 1 ≤ j) (hjk : j < k)
    (hk : k ≤ n) : R j k := by
  have := List.pairwise_iff_getElem.1 h (j - 1) (k - 1) (by simp [upTo]; omega) (by simp [upTo]; omega) (by omega)
  simpa [upTo, show j - 1 + 1 = j by omega, show k - 1 + 1 = k by omega] using this

/-- Two set radii of checked towers that do not increase fail the check. -/
theorem State.radiiIncrease_false {j k a b : Nat} (h1 : 1 ≤ j) (hjk : j < k) (hk : k ≤ 16)
    (within : ∀ n, s.held (.machine .towerCount) = some n → k ≤ n) (hj : s.held (.tower j .radius) = some a)
    (hb : s.held (.tower k .radius) = some b) (clash : b ≤ a) : s.radiiIncrease = false := by
  have ascending : ∀ n, k ≤ n →
      ¬ ((upTo n).filterMap fun k => (s.tower k).cfg.radius).Pairwise (· < ·) := by
    intro n hn increase
    rw [List.pairwise_filterMap] at increase
    have below := pairwise_upTo increase h1 hjk hn a hj b hb
    omega
  unfold State.radiiIncrease
  dsimp only
  rw [decide_eq_false_iff_not]
  split
  next n count => exact ascending n (within n count)
  next => exact ascending 16 hk

theorem State.roundFits_false {n i : Nat} (hn : s.held (.machine .towerCount) = some n)
    (hi : s.held (.machine .driveInterval) = some i) (short : i < (n + 2) * 15) : s.roundFits = false := by
  have count : s.table.machine.towerCount = some n := hn
  have interval : s.table.machine.driveInterval = some i := hi
  simp [State.roundFits, count, interval, short]

theorem State.towerConsistent_false {k lo hi : Nat}
    (clash : (s.held (.tower k .minRun) = some lo ∧ s.held (.tower k .maxOrder) = some hi ∧ hi ≤ lo) ∨
      (s.held (.tower k .jointWarn) = some lo ∧ s.held (.tower k .jointTrip) = some hi ∧ hi ≤ lo)) :
    s.towerConsistent k = false := by
  rcases clash with ⟨hlo, hhi, clash⟩ | ⟨hlo, hhi, clash⟩
  · have low : (s.tower k).cfg.minRun = some lo := hlo
    have high : (s.tower k).cfg.maxOrder = some hi := hhi
    simp [State.towerConsistent, low, high, belowIfSet, clash]
  · have low : (s.tower k).cfg.jointWarn = some lo := hlo
    have high : (s.tower k).cfg.jointTrip = some hi := hhi
    simp [State.towerConsistent, low, high, belowIfSet, clash]

/-- The table as it would stand after the request, read field by field. -/
theorem State.candidate_eq (s : State) (ws : List FieldWrite) {key : FieldKey} (real : key.real) {v : Option Nat}
    (h : lastWritten ws key (s.setting key) = v) : (s.candidate ws).held key = v := (s.candidate_held ws real).trans h

/-- Two set radii do not increase on the table as it would stand (R10). -/
def State.radiiClash (s : State) (ws : List FieldWrite) : Prop :=
  let after (key : FieldKey) := lastWritten ws key (s.setting key)
  ∃ j k a b, 1 ≤ j ∧ j < k ∧ k ≤ 16 ∧ (∀ n, after (.machine .towerCount) = some n → k ≤ n) ∧
    after (.tower j .radius) = some a ∧ after (.tower k .radius) = some b ∧ b ≤ a

theorem State.radiiClash.fails {ws : List FieldWrite} (h : s.radiiClash ws) : (s.candidate ws).radiiIncrease = false := by
  obtain ⟨j, k, a, b, h1, hjk, hk, within, ha, hb, clash⟩ := h
  refine State.radiiIncrease_false h1 hjk hk (fun n hn => within n ?_)
    (s.candidate_eq ws (key := .tower j .radius) ⟨h1, by omega⟩ ha)
    (s.candidate_eq ws (key := .tower k .radius) ⟨by omega, hk⟩ hb) clash
  rwa [s.candidate_held ws (key := .machine .towerCount) trivial] at hn

/-! ### The checks see only the tower table and the machine state -/

theorem State.radiiIncrease_of_table {t : State} (h : t.table = s.table) : t.radiiIncrease = s.radiiIncrease := by
  unfold State.radiiIncrease State.tower; rw [h]

theorem State.roundFits_of_table {t : State} (h : t.table = s.table) : t.roundFits = s.roundFits := by
  unfold State.roundFits; rw [h]

theorem State.towerConsistent_of_table {t : State} (h : t.table = s.table) (k : Nat) :
    t.towerConsistent k = s.towerConsistent k := by
  unfold State.towerConsistent State.tower; rw [h]

theorem State.permits_of_run {h : State} {ws : List FieldWrite} (run : h.run = s.run) (permitted : s.permits ws) :
    h.permits ws := by
  unfold State.permits
  rwa [run]

theorem State.permits_of_rests {ws : List FieldWrite}
    (h : (s.run.mstate = .unconfigured ∨ s.run.mstate = .stopped) ∨ ∀ w ∈ ws, w.1.geometry = false) : s.permits ws :=
  h.imp_left fun rests fixed => rests.elim fixed.1 fixed.2

/-! ### The two requests refused -/

section Refused

variable {tower : Byte} {presence : U16} {values : List U16}

/-- The writes of either request, refused with a status by `takeWrite` as the part stands on hearing it: nothing is applied. -/
theorem exec_configMachine_refused (ready : s.receptive) (count : values.length = bitsSet presence) {st : Status}
    (taken : ∀ h : State, h.table = s.table → h.run = s.run → h.takeWrite (machineWrites presence values)
      (namesNoField 12 presence) (fun c => c.radiiIncrease && c.roundFits) = (h, .fail st)) :
    exec (.configMachine presence values) s =
      .next ((s.heard (.configMachine presence values)).replying 0x01 (.fail st)).transmit :=
  exec_configMachine ready count (taken _ (s.heard_table _) (s.heard_run _))

theorem exec_configTower_refused (ready : s.receptive) (count : values.length = bitsSet presence)
    (h1 : 1 ≤ tower.toNat) (h2 : tower.toNat ≤ 16) {st : Status}
    (taken : ∀ h : State, h.table = s.table → h.run = s.run → h.takeWrite (towerWrites tower.toNat presence values)
      (namesNoField 16 presence) (fun c => c.radiiIncrease && c.towerConsistent tower.toNat) = (h, .fail st)) :
    exec (.configTower tower presence values) s =
      .next ((s.heard (.configTower tower presence values)).replying 0x02 (.fail st)).transmit :=
  exec_configTower ready count ((State.takeConfigTower_eq h1 h2 ..).trans (taken _ (s.heard_table _) (s.heard_run _)))

/-- Check 1 of R9: the tower number. -/
theorem exec_configTower_noTower (ready : s.receptive) (count : values.length = bitsSet presence)
    (outside : tower.toNat < 1 ∨ 16 < tower.toNat) : exec (.configTower tower presence values) s =
      .next ((s.heard (.configTower tower presence values)).replying 0x02 (.fail .badValue)).transmit :=
  exec_configTower ready count (by unfold State.takeConfigTower; exact if_pos outside)

/-- Check 4 of R9, for CONFIG_MACHINE. -/
theorem exec_configMachine_inconsistent (ready : s.receptive) (count : values.length = bitsSet presence)
    (permitted : s.permits (machineWrites presence values)) (named : presence.toNat < 4096)
    (ranged : ∀ w ∈ machineWrites presence values, inRange w = true)
    (fails : (s.candidate (machineWrites presence values)).radiiIncrease = false ∨
      (s.candidate (machineWrites presence values)).roundFits = false) :
    exec (.configMachine presence values) s =
      .next ((s.heard (.configMachine presence values)).replying 0x01 (.fail .badValue)).transmit := by
  refine exec_configMachine_refused ready count fun h table run => ?_
  have named : namesNoField 12 presence = false := by
    rw [Bool.eq_false_iff, Ne, namesNoField_machine]
    omega
  refine State.takeWrite_inconsistent (State.permits_of_run run permitted) named ranged ?_
  have candidate := State.candidate_table table (machineWrites presence values)
  rw [State.radiiIncrease_of_table candidate, State.roundFits_of_table candidate]
  rcases fails with fails | fails <;> simp [fails]

/-- Check 4 of R9, for CONFIG_TOWER. -/
theorem exec_configTower_inconsistent (ready : s.receptive) (count : values.length = bitsSet presence)
    (h1 : 1 ≤ tower.toNat) (h2 : tower.toNat ≤ 16) (permitted : s.permits (towerWrites tower.toNat presence values))
    (ranged : ∀ w ∈ towerWrites tower.toNat presence values, inRange w = true)
    (fails : (s.candidate (towerWrites tower.toNat presence values)).radiiIncrease = false ∨
      (s.candidate (towerWrites tower.toNat presence values)).towerConsistent tower.toNat = false) :
    exec (.configTower tower presence values) s =
      .next ((s.heard (.configTower tower presence values)).replying 0x02 (.fail .badValue)).transmit := by
  refine exec_configTower_refused ready count h1 h2 fun h table run => ?_
  refine State.takeWrite_inconsistent (State.permits_of_run run permitted) (namesNoField_tower presence) ranged ?_
  have candidate := State.candidate_table table (towerWrites tower.toNat presence values)
  rw [State.radiiIncrease_of_table candidate, State.towerConsistent_of_table candidate]
  rcases fails with fails | fails <;> simp [fails]

end Refused

/-- Settles O23: each clause is one branch of `State.takeWrite`, on the writes that the presence word marks. -/
theorem configurationRequestsAreChecked : Obligations.ConfigurationRequestsAreChecked := by
  refine ⟨fun s tower presence values ready count => ⟨⟨fun fixed geometry => ?_, fun permitted bad => ?_⟩,
      exec_configTower_noTower ready count, fun h1 h2 => ⟨fun fixed geometry => ?_, fun permitted bad => ?_⟩⟩,
    fun s tower presence values ready count => ⟨fun permitted named ranged clash => ?_,
      fun h1 h2 permitted ranged clash => ?_⟩⟩
  · obtain ⟨w, hw, set⟩ := geometry
    exact exec_configMachine_refused ready count fun h _ run =>
      State.takeWrite_wrongState ⟨_, List.mem_map_of_mem hw, set⟩ (run ▸ fixed)
  · exact exec_configMachine_refused ready count fun h _ run =>
      State.takeWrite_badValue (State.permits_of_run run (permitted.imp_right forall_machineWrites.2))
        (bad.imp (namesNoField_machine presence).2 fun ⟨w, hw, out⟩ => ⟨_, List.mem_map_of_mem hw, out⟩)
  · obtain ⟨w, hw, set⟩ := geometry
    exact exec_configTower_refused ready count h1 h2 fun h _ run =>
      State.takeWrite_wrongState ⟨_, List.mem_map_of_mem hw, set⟩ (run ▸ fixed)
  · obtain ⟨w, hw, out⟩ := bad
    exact exec_configTower_refused ready count h1 h2 fun h _ run =>
      State.takeWrite_badValue (State.permits_of_run run (permitted.imp_right forall_towerWrites.2))
        (.inr ⟨_, List.mem_map_of_mem hw, out⟩)
  · refine exec_configMachine_inconsistent ready count (State.permits_of_rests permitted) named ranged
      (clash.imp State.radiiClash.fails fun ⟨n, i, hn, hi, short⟩ => ?_)
    exact State.roundFits_false (s.candidate_eq _ (key := .machine .towerCount) trivial hn)
      (s.candidate_eq _ (key := .machine .driveInterval) trivial hi) short
  · refine exec_configTower_inconsistent ready count h1 h2 (State.permits_of_rests permitted) ranged
      (clash.imp State.radiiClash.fails fun below => ?_)
    have reads (f : TowerField) {v : Option Nat} := s.candidate_eq (towerWrites tower.toNat presence values)
      (key := .tower tower.toNat f) (v := v) ⟨h1, h2⟩
    rcases below with ⟨lo, hi, hlo, hhi, clash⟩ | ⟨lo, hi, hlo, hhi, clash⟩
    · exact State.towerConsistent_false (.inl ⟨reads _ hlo, reads _ hhi, clash⟩)
    · exact State.towerConsistent_false (.inr ⟨reads _ hlo, reads _ hhi, clash⟩)

end Sys2Proof.Machine
end

section
/-! SUPPORT. Accepted tuning outside UNCONFIGURED is staged (R11): what the pending list gives for each field afterwards. -/

namespace Sys2Proof.Machine

variable {s : State}

/-- In a list that replaces a key's values by one value, every value of that key is the one. -/
theorem lastWritten_map_replace (p : List FieldWrite) (w : FieldWrite) (key : FieldKey) (before : Option Nat) :
    lastWritten (p.map fun v => if v.1 == w.1 then w else v) key before =
      if w.1 = key ∧ writes p key = true then some w.2 else lastWritten p key before := by
  induction p generalizing before with
  | nil => simp [writes]
  | cons v p ih =>
    have absent : writes p key = false → ∀ b, lastWritten p key b = b := fun none =>
      lastWritten_of_not_mem fun u hu eq => by simpa [none] using (writes_iff (ws := p)).2 ⟨u, hu, eq.symm⟩
    rw [List.map_cons, lastWritten_cons, ih, lastWritten_cons]
    have first : writes (v :: p) key = (v.1 == key || writes p key) := rfl
    by_cases hw : w.1 = key
    · subst hw
      cases later : writes p w.1 <;> by_cases same : v.1 = w.1 <;> simp [first, later, same, absent]
    · by_cases same : v.1 = w.1
      · have hv : v.1 ≠ key := same ▸ hw
        simp [hw, same]
      · simp [hw, same]

/-- A value staged is what its field is set to; every other field keeps its pending value. -/
theorem lastWritten_stage (p : List FieldWrite) (w : FieldWrite) (key : FieldKey) (before : Option Nat) :
    lastWritten (stage p w) key before = if w.1 = key then some w.2 else lastWritten p key before := by
  unfold stage
  split
  next replaced =>
    rw [lastWritten_map_replace]
    by_cases h : w.1 = key
    · subst h
      simp [replaced]
    · simp [h]
  next =>
    rw [lastWritten_append, lastWritten_singleton]

theorem lastWritten_stages (ws p : List FieldWrite) (key : FieldKey) (before : Option Nat) :
    lastWritten (ws.foldl stage p) key before = lastWritten ws key (lastWritten p key before) := by
  induction ws generalizing p with
  | nil => rfl
  | cons w ws ih => rw [List.foldl_cons, ih, lastWritten_stage, lastWritten_cons]

/-- What a table whose pending list has been staged upon is set to, field by field. -/
theorem State.setting_staged (s : State) (ws : List FieldWrite) (key : FieldKey) :
    State.setting { s with table := { s.table with pending := ws.foldl stage s.table.pending } } key =
      lastWritten ws key (s.setting key) := by
  rw [State.setting_eq, lastWritten_stages, s.setting_eq]
  exact congrArg (fun b => lastWritten ws key (lastWritten s.table.pending key b)) (s.held_of_table rfl rfl key)

/-- Accepted tuning is staged: the four checks passed, and the branch of R11 that stages. -/
theorem State.takeWrite_staged {ws : List FieldWrite} {stray : Bool} {consistent : State → Bool}
    (configured : s.run.mstate ≠ .unconfigured) (tuning : ∀ w ∈ ws, w.1.geometry = false ∧ inRange w = true)
    (named : stray = false) (holds : consistent (s.candidate ws) = true) :
    s.takeWrite ws stray consistent =
      ({ s with table := { s.table with pending := ws.foldl stage s.table.pending } }, .ok) := by
  rw [State.takeWrite_accepted (.inr fun w hw => (tuning w hw).1) named (fun w hw => (tuning w hw).2) holds]
  have staging : ¬ (s.run.mstate = .unconfigured ∨ ws.any (·.1.geometry) = true) := by
    simpa [configured] using fun k v hw => (tuning (k, v) hw).1
  unfold State.applyOrStage
  rw [if_neg staging]

/-- Settles O24: the pending list that the request leaves is read field by field; no field is written twice by one request. -/
theorem acceptedTuningIsStaged : Obligations.AcceptedTuningIsStaged := by
  intro s tower presence values ready count configured
  refine ⟨fun named tuning radii fits => ?_, fun h1 h2 tuning radii order => ?_⟩
  · refine ⟨(machineWrites presence values).foldl stage s.table.pending, exec_configMachine ready count ?_,
      fun w hw => ?_, fun key unnamed => ?_⟩
    · have candidate := State.candidate_table (s.heard_table (.configMachine presence values)) (machineWrites presence values)
      have named : namesNoField 12 presence = false := by
        rw [Bool.eq_false_iff, Ne, namesNoField_machine]
        omega
      rw [State.takeConfigMachine_eq, State.takeWrite_staged (by rwa [s.heard_run]) (forall_machineWrites.2 tuning) named,
        s.heard_table]
      rw [State.radiiIncrease_of_table candidate, State.roundFits_of_table candidate]
      exact Bool.and_eq_true_iff.2 ⟨radii, fits⟩
    · rw [s.setting_staged]
      exact lastWritten_of_mem (machineWrites_nodup presence values) (List.mem_map_of_mem hw) _
    · rw [s.setting_staged]
      exact lastWritten_of_not_mem (forall_machineWrites.2 unnamed) _
  · refine ⟨(towerWrites tower.toNat presence values).foldl stage s.table.pending, exec_configTower ready count ?_,
      fun w hw => ?_, fun key unnamed => ?_⟩
    · have candidate := State.candidate_table (s.heard_table (.configTower tower presence values))
        (towerWrites tower.toNat presence values)
      rw [State.takeConfigTower_eq h1 h2, State.takeWrite_staged (by rwa [s.heard_run]) (forall_towerWrites.2 tuning)
        (namesNoField_tower presence), s.heard_table]
      rw [State.radiiIncrease_of_table candidate, State.towerConsistent_of_table candidate]
      exact Bool.and_eq_true_iff.2 ⟨radii, order⟩
    · rw [s.setting_staged]
      exact lastWritten_of_mem (towerWrites_nodup tower.toNat presence values) (List.mem_map_of_mem hw) _
    · rw [s.setting_staged]
      exact lastWritten_of_not_mem (forall_towerWrites.2 unnamed) _

end Sys2Proof.Machine
end

section
/-! SUPPORT. A reset (R173, R174, R177): the load of the image, and the decision of the machine state. -/

namespace Sys2Proof.Machine

variable {s : State}

/-! ### A notice that finds no entry of its key -/

/-- A new entry goes behind the others of a queue with room; the wake line stands while the panel is awake. -/
theorem State.queueNotice_new {subject : Subject} {data : NoticeData} (awake : s.panel.asleep = false)
    (fresh : ∀ n ∈ s.panel.notices, n.data.kind ≠ data.kind) (room : s.panel.notices.length < 32) :
    s.queueNotice subject data =
      { s with panel := { s.panel with notices := s.panel.notices ++ [⟨subject, data, 1, none⟩] } } := by
  have absent : s.panel.notices.any (·.isFor data.kind subject) = false := by
    simp only [List.any_eq_false, Notice.isFor, Bool.and_eq_true, beq_iff_eq, not_and]
    exact fun n hn kind => absurd kind (fresh n hn)
  unfold State.queueNotice
  simp [absent, room, awake]

/-! ### The image that a load gives (R174, R181) -/

theorem StoredCopy.contents_eq (c : StoredCopy) : c.contents = if c.passes then some c.load else none := by
  cases c with
  | failing => rfl
  | written image check =>
    have bytes : u32Bytes image.check = [image.check.extractLsb' 0 8, image.check.extractLsb' 8 8,
      image.check.extractLsb' 16 8, image.check.extractLsb' 24 8] := rfl
    by_cases h : check = u32Bytes image.check
    · have passes : (StoredCopy.written image check).passes = true := by simp [StoredCopy.passes, h]
      have contents : (StoredCopy.written image check).contents = some image := if_pos (h.trans bytes)
      simp [contents, passes, StoredCopy.load]
    · have passes : (StoredCopy.written image check).passes = false := by simp [StoredCopy.passes, h]
      have contents : (StoredCopy.written image check).contents = none := if_neg fun eq => h (eq.trans bytes.symm)
      simp [contents, passes]

theorem StoredCopy.contents_getD (c : StoredCopy) : c.contents.getD .empty = c.load := by
  rw [c.contents_eq]
  cases h : c.passes with
  | true => rfl
  | false => cases c <;> simp_all [StoredCopy.load]

theorem StoredCopy.contents_eq_none (c : StoredCopy) : c.contents = none ↔ c.passes = false := by
  rw [c.contents_eq]
  cases c.passes <;> simp

theorem State.loseWrite_eq (s : State) : s.loseWrite.store =
    { s.store with writing := none, stored := if s.store.writing = none then s.store.stored else .failing } := by
  unfold State.loseWrite
  cases writing : s.store.writing with
  | none =>
    simp only [Option.isSome_none, Bool.false_eq_true, if_false, if_true]
    rw [← writing]
  | some i => simp

/-! ### The part between the load and the decision -/

/-- The part once the image is loaded, the notices of the reset are queued and its timers started (R174). -/
def State.loaded (device : Bool) (s : State) : State :=
  let u := s.loseWrite.fresh.queueNotice .machine (.restarted device)
  (if u.store.stored.passes then u else u.queueNotice .machine .configInvalid).startTimers

theorem State.resetPart_eq (device : Bool) (s : State) : s.resetPart device = (s.loaded device).decide := rfl

/-- The notices of a reset before the machine state is decided. -/
def resetNotices (device passes : Bool) : List Notice :=
  ⟨.machine, .restarted device, 1, none⟩ :: if passes then [] else [⟨.machine, .configInvalid, 1, none⟩]

theorem resetNotices_spec (device passes : Bool) :
    (∀ n ∈ resetNotices device passes, n.data.kind ≠ .recovery) ∧ (resetNotices device passes).length < 32 := by
  cases passes <;> simp [resetNotices, NoticeData.kind]

/-- The loaded part: every block with its reset values and what the image holds for it. -/
theorem State.loaded_eq (device : Bool) (s : State) : s.loaded device =
    ({ s.loseWrite.fresh with panel := { s.loseWrite.fresh.panel with
        notices := resetNotices device s.loseWrite.store.stored.passes } } : State).startTimers := by
  have restarted : s.loseWrite.fresh.queueNotice .machine (.restarted device) =
      { s.loseWrite.fresh with panel := { s.loseWrite.fresh.panel with
        notices := [⟨.machine, .restarted device, 1, none⟩] } } :=
    State.queueNotice_new rfl (by simp [State.fresh]) (by simp [State.fresh])
  unfold State.loaded
  dsimp only
  rw [restarted]
  have stored : s.loseWrite.fresh.store.stored = s.loseWrite.store.stored := rfl
  rw [stored]
  cases s.loseWrite.store.stored.passes with
  | true => rfl
  | false =>
    rw [if_neg (by simp), State.queueNotice_new rfl (by simp [NoticeData.kind]) (by simp)]
    rfl

/-! ### The machine state decided (R174, R177) -/

/-- What the decision finds: a machine with its reset values, the quiet timer started where the configuration is complete,
and a notice queue with room and without a RECOVERY notice. -/
structure State.AtLoad (u : State) : Prop where
  run : u.run = State.reset.run
  records : u.faults.records = []
  windows : u.angle.windows = Vector.replicate 16 none
  overLimit : u.angle.overLimit = Vector.replicate 16 0
  haltAngle : u.angle.haltAngle = none
  heldValid : u.angle.heldValid = false
  active : u.span.mode = .active
  quiet : u.complete = true → u.span.quietTimer = some ⟨u.mval .quietDelay * 1000, u.clock⟩
  awake : u.panel.asleep = false
  notices : ∀ n ∈ u.panel.notices, n.data.kind ≠ .recovery
  room : u.panel.notices.length < 32
  service : u.panel.service = none
  lost : u.panel.lost = false

theorem State.loaded_atLoad (device : Bool) (s : State) : (s.loaded device).AtLoad := by
  rw [s.loaded_eq]
  constructor
  case quiet =>
    intro complete
    exact if_pos complete
  case notices => exact (resetNotices_spec device _).1
  case room => exact (resetNotices_spec device _).2
  all_goals rfl

/-- The states in which a machine can stand after a reset with a complete configuration and power. -/
def MState.returned (m : MState) : Prop := m = .stopped ∨ m = .held ∨ m = .tripped ∨ m = .recovering

/-- The run controller in a state that a return of power gives: everything else has its reset value. -/
def RunController.inState (r : RunController) (m : MState) : RunController :=
  { r with mstate := m, dest := none, reason := none, origin := none, contactor := false, warning := false }

theorem State.leaveQuiet_active (active : s.span.mode = .active) : s.leaveQuiet = s := by
  unfold State.leaveQuiet
  rw [if_neg (by simp [active])]

/-- A quiet timer restarted at the moment it was started stands as it stood. -/
theorem State.restartQuiet_same (quiet : s.span.quietTimer = some ⟨s.mval .quietDelay * 1000, s.clock⟩) :
    s.restartQuiet = s := by
  unfold State.restartQuiet State.startTimer
  rw [← quiet]
  split <;> rfl

/-- At a reset a machine state is entered without a word: the line, the angle unit, the watch levels and the marks stand
already as the entry would leave them. -/
theorem State.enterWith_atLoad {m : MState} (hm : m.returned) (was : s.run.mstate.moving = false)
    (windows : s.angle.windows = Vector.replicate 16 none) (overLimit : s.angle.overLimit = Vector.replicate 16 0)
    (haltAngle : s.angle.haltAngle = none) (heldValid : s.angle.heldValid = false) (active : s.span.mode = .active)
    (quiet : s.span.quietTimer = some ⟨s.mval .quietDelay * 1000, s.clock⟩) :
    s.enterWith false m none none none = { s with
      run := s.run.inState m
      store := { s.store with record := ⟨true, lossClass m none, s.run.pass,
        if m = .tripped then s.run.tripKind else none, if m = .recovering then s.store.record.captured else none⟩ } } := by
  generalize hw : ({ s with
      run := s.run.inState m
      store := { s.store with record := ⟨true, lossClass m none, s.run.pass,
        if m = .tripped then s.run.tripKind else none,
        if m = .recovering then s.store.record.captured else none⟩ } } : State) = w
  have mstate : w.run.mstate = m := by rw [← hw]; rfl
  have angle : w.angle = s.angle := by rw [← hw]
  have span : w.span = s.span := by rw [← hw]
  have record : (s.setMachine m none none none).recordFollows = w := by
    rw [← hw]
    rcases hm with rfl | rfl | rfl | rfl <;> rfl
  have line : w.lineFollows = w := by
    have quiet : w.span.quietTimer = some ⟨w.mval .quietDelay * 1000, w.clock⟩ := by rw [← hw]; exact quiet
    have configured : w.run.mstate ≠ .unconfigured := by rw [mstate]; rcases hm with rfl | rfl | rfl | rfl <;> decide
    unfold State.lineFollows
    rw [State.restartQuiet_same quiet, if_neg configured, State.leaveQuiet_active (span ▸ active)]
    split <;> rfl
  have follows : w.angleFollows = w := by
    have rests : w.run.mstate.moving = false := by rw [mstate]; rcases hm with rfl | rfl | rfl | rfl <;> rfl
    have discarded : w.discardWindows = w := by
      unfold State.discardWindows
      rw [← windows, ← overLimit, ← angle]
    have halt : (if (w.run.mstate = .stopped ∨ w.run.mstate = .held) ∧ w.angle.heldValid = true then some w.angle.held
        else none) = w.angle.haltAngle := by simp [angle, heldValid, haltAngle]
    unfold State.angleFollows
    simp only [rests, discarded, Bool.false_eq_true, if_false, halt]
  have levels : w.levelsFollow s.run.mstate = w := by
    unfold State.levelsFollow
    simp [was]
  have marks : w.marksFollow = w := by
    unfold State.marksFollow
    rw [if_neg (by rw [mstate]; rcases hm with rfl | rfl | rfl | rfl <;> decide)]
  unfold State.enterWith
  simp only [Bool.false_eq_true, if_false]
  rw [record, line, follows, levels, marks]

/-- An incomplete configuration: UNCONFIGURED, the record invalid, and the refusal of a recovery that it had promised. -/
theorem State.AtLoad.decide_incomplete (h : s.AtLoad) (incomplete : s.complete = false) : s.decide = { s with
    store := { s.store with record := { s.store.record with valid := false } }
    panel := { s.panel with notices := s.panel.notices ++
      if s.store.record.valid = true ∧ s.store.record.cls ≠ .other then
        [⟨.machine, .recovery (.refused .config), 1, none⟩] else [] } } := by
  have matters : s.store.record.cls.matters = true ↔ s.store.record.cls ≠ .other := by
    cases s.store.record.cls <;> simp [LossClass.matters]
  unfold State.decide
  simp only [incomplete, if_true, Bool.and_eq_true, matters]
  split
  · exact State.queueNotice_new h.awake h.notices h.room
  · simp

/-- Power is failing at the reset: POWER_WAIT, and nothing else. -/
theorem State.decide_powerFail (complete : s.complete = true) (failing : s.inputs.powerFail = true) :
    s.decide = { s with run := { s.run with mstate := .powerWait } } := by
  unfold State.decide
  simp only [complete, failing, Bool.true_eq_false, if_false, if_true]
  rfl

/-- The run controller after a return of power. -/
def returnedRun (m : MState) (pass : Option Pass) (trip : Option FaultKind) (timer : Option Timer) : RunController :=
  ⟨m, none, none, none, pass, trip, none, none, none, timer, false, false⟩

/-- The record placed at a TRIPPED return (R177). -/
def returnedRecords (r : RetainedRecord) (m : MState) : List FaultRecord :=
  match m, r.tripKind with
  | .tripped, some k =>
    let a := match r.captured with | some c => c.1 | none => 0
    [⟨k, none, .hard, .latched, a, a, 1⟩]
  | _, _ => []

/-- The RECOVERY notice of a return (R174, R177). -/
def returnNotices (r : RetainedRecord) (m : MState) : List Notice :=
  if r.valid = false then []
  else if m = .recovering then [⟨.machine, .recovery .pending, 1, none⟩]
  else if m = .stopped ∧ r.cls ≠ .other then [⟨.machine, .recovery (.refused .policy), 1, none⟩] else []

/-- A state entered at a return of power, with the pass, trip kind, timer and fault list prepared for it. -/
theorem State.AtLoad.enters (h : s.AtLoad) (complete : s.complete = true) {m : MState} (hm : m.returned)
    (pass : Option Pass) (trip : Option FaultKind) (timer : Option Timer) (f : FaultList) :
    ∃ record, ({ s with run := returnedRun .unconfigured pass trip timer, faults := f } : State).enterWith false m
      none none none = { s with
        run := returnedRun m pass trip timer, faults := f, store := { s.store with record := record } } :=
  ⟨_, State.enterWith_atLoad hm rfl h.windows h.overLimit h.haltAngle h.heldValid h.active (h.quiet complete)⟩

theorem State.AtLoad.queues (h : s.AtLoad) {u : State} (same : u.panel = s.panel) (d : RecoveryData) :
    u.queueNotice .machine (.recovery d) =
      { u with panel := { s.panel with notices := s.panel.notices ++ [⟨.machine, .recovery d, 1, none⟩] } } := by
  rw [State.queueNotice_new (same ▸ h.awake) (same ▸ h.notices) (same ▸ h.room), same]

/-- The part after a return of power at a reset, from what the table of R177 gives. -/
def State.returned (s : State) (m : MState) (pass : Option Pass) (record : RetainedRecord) : State :=
  { s with
    run := returnedRun m pass (if m = .tripped then s.store.record.tripKind else none)
      (if m = .recovering then some ⟨s.store.settings.delay * 1000, s.clock⟩ else none)
    faults := { s.faults with records := returnedRecords s.store.record m }
    panel := { s.panel with notices := s.panel.notices ++ returnNotices s.store.record m }
    store := { s.store with record := record } }

/-- The run controller of a loaded part, with the pass, trip kind and timer of a return in place. -/
theorem State.AtLoad.run_eq (h : s.AtLoad) : s.run = returnedRun .unconfigured none none none := h.run

theorem State.AtLoad.records_eq (h : s.AtLoad) : ({ s.faults with records := [] } : FaultList) = s.faults := by
  rw [← h.records]

/-- The stored trip kind placed in an empty list. -/
theorem State.AtLoad.restoreTrip (h : s.AtLoad) {k : FaultKind} (trip : s.store.record.tripKind = some k) :
    s.restoreTrip k = { s with faults := { s.faults with records := returnedRecords s.store.record .tripped } } := by
  unfold State.restoreTrip State.faultRecord returnedRecords
  rw [h.records, trip]
  cases captured : s.store.record.captured <;> simp

theorem State.AtLoad.enters_stopped (h : s.AtLoad) (complete : s.complete = true) :
    ∃ record, s.enterWith false .stopped none none none =
      { s with run := returnedRun .stopped none none none, store := { s.store with record := record } } := by
  obtain ⟨record, stopped⟩ := h.enters complete (.inl rfl) none none none s.faults
  rw [← h.run_eq] at stopped
  exact ⟨record, stopped⟩

theorem State.AtLoad.enters_held (h : s.AtLoad) (complete : s.complete = true) (pass : Option Pass) :
    ∃ record, (s.setRun fun c => { c with pass := pass }).enterWith false .held none none none =
      { s with run := returnedRun .held pass none none, store := { s.store with record := record } } := by
  have prepared : s.setRun (fun c => { c with pass := pass }) =
      { s with run := returnedRun .unconfigured pass none none, faults := s.faults } := by
    unfold State.setRun
    rw [h.run_eq]
    rfl
  exact prepared ▸ h.enters complete (.inr (.inl rfl)) pass none none s.faults

theorem State.AtLoad.enters_recovering (h : s.AtLoad) (complete : s.complete = true) (pass : Option Pass) (timer : Timer) :
    ∃ record, ((s.setRun fun c => { c with pass := pass }).setRun fun c => { c with recoveryTimer := some timer }).enterWith
        false .recovering none none none =
      { s with run := returnedRun .recovering pass none (some timer), store := { s.store with record := record } } := by
  have prepared : (s.setRun fun c => { c with pass := pass }).setRun (fun c => { c with recoveryTimer := some timer }) =
      { s with run := returnedRun .unconfigured pass none (some timer), faults := s.faults } := by
    unfold State.setRun
    rw [h.run_eq]
    rfl
  exact prepared ▸ h.enters complete (.inr (.inr (.inr rfl))) pass none (some timer) s.faults

theorem State.AtLoad.enters_tripped (h : s.AtLoad) (complete : s.complete = true) (trip : Option FaultKind)
    (f : FaultList) : ∃ record,
      (({ s with faults := f } : State).setRun fun c => { c with tripKind := trip }).enterWith false .tripped none none none =
      { s with run := returnedRun .tripped none trip none, faults := f, store := { s.store with record := record } } := by
  have prepared : ({ s with faults := f } : State).setRun (fun c => { c with tripKind := trip }) =
      { s with run := returnedRun .unconfigured none trip none, faults := f } := by
    unfold State.setRun
    dsimp only
    rw [h.run_eq]
    rfl
  exact prepared ▸ h.enters complete (.inr (.inr (.inl rfl))) none trip none f

/-- STOPPED with a pass or a trip that the policy gives up (R177). -/
theorem State.AtLoad.refuses (h : s.AtLoad) (complete : s.complete = true) : ∃ record,
    (s.enterWith false .stopped none none none).queueNotice .machine (.recovery (.refused .policy)) =
      { s with
        run := returnedRun .stopped none none none
        panel := { s.panel with notices := s.panel.notices ++ [⟨.machine, .recovery (.refused .policy), 1, none⟩] }
        store := { s.store with record := record } } := by
  obtain ⟨record, stopped⟩ := h.enters_stopped complete
  refine ⟨record, (h.queues (congrArg State.panel stopped :) _).trans ?_⟩
  rw [stopped]

/-- RECOVERING, with its promise to the panel computer (R177). -/
theorem State.AtLoad.promises (h : s.AtLoad) (complete : s.complete = true) (pass : Option Pass) (timer : Timer) :
    ∃ record, (((s.setRun fun c => { c with pass := pass }).setRun fun c => { c with recoveryTimer := some timer }).enterWith
        false .recovering none none none).queueNotice .machine (.recovery .pending) =
      { s with
        run := returnedRun .recovering pass none (some timer)
        panel := { s.panel with notices := s.panel.notices ++ [⟨.machine, .recovery .pending, 1, none⟩] }
        store := { s.store with record := record } } := by
  obtain ⟨record, recovering⟩ := h.enters_recovering complete pass timer
  refine ⟨record, (h.queues (congrArg State.panel recovering :) _).trans ?_⟩
  rw [recovering]

/-- A return of class TRIPPED: the stored kind, if there is one, placed and held (R177). -/
theorem State.AtLoad.returns_tripped (h : s.AtLoad) (complete : s.complete = true) (valid : s.store.record.valid = true)
    (cls : s.store.record.cls = .tripped) : ∃ record, s.powerReturn false = s.returned .tripped none record := by
  have noTrip : s.run.tripKind = none := by rw [h.run_eq]; rfl
  obtain ⟨record, tripped⟩ := h.enters_tripped complete s.store.record.tripKind
    { s.faults with records := returnedRecords s.store.record .tripped }
  refine ⟨record, ?_⟩
  unfold State.powerReturn
  cases trip : s.store.record.tripKind with
  | none =>
    have noRecords : returnedRecords s.store.record .tripped = [] := by unfold returnedRecords; rw [trip]
    rw [noRecords, h.records_eq, trip] at tripped
    simp [valid, cls, noTrip, trip, tripped, State.returned, returnNotices, noRecords, h.records_eq]
  | some k =>
    rw [trip] at tripped
    simp [valid, cls, noTrip, trip, h.restoreTrip trip, tripped, State.returned, returnNotices]

/-- A return of power at a reset: the state and the pass of the table of R177, with what belongs to them. -/
theorem State.AtLoad.returns (h : s.AtLoad) (complete : s.complete = true) (valid : s.store.record.valid = true) :
    let target := landing s.store.record s.store.settings.policy
    ∃ record, s.powerReturn false = s.returned target.1 target.2 record := by
  have refused {policy : RecoveryPolicy} (cls : s.store.record.cls ≠ .other)
      (target : landing s.store.record policy = (.stopped, none))
      (power : s.powerReturn false =
        (s.enterWith false .stopped none none none).queueNotice .machine (.recovery (.refused .policy))) :
      ∃ record, s.powerReturn false =
        s.returned (landing s.store.record policy).1 (landing s.store.record policy).2 record := by
    obtain ⟨record, refuses⟩ := h.refuses complete
    refine ⟨record, (power.trans refuses).trans ?_⟩
    simp [target, State.returned, returnNotices, returnedRecords, valid, cls, h.records_eq]
  have resumed {policy : RecoveryPolicy} (target : landing s.store.record policy = (.held, s.store.record.pass))
      (power : s.powerReturn false =
        (s.setRun fun c => { c with pass := s.store.record.pass }).enterWith false .held none none none) :
      ∃ record, s.powerReturn false =
        s.returned (landing s.store.record policy).1 (landing s.store.record policy).2 record := by
    obtain ⟨record, held⟩ := h.enters_held complete s.store.record.pass
    refine ⟨record, (power.trans held).trans ?_⟩
    simp [target, State.returned, returnNotices, returnedRecords, valid, h.records_eq]
  cases cls : s.store.record.cls with
  | other =>
    obtain ⟨record, stopped⟩ := h.enters_stopped complete
    refine ⟨record, ?_⟩
    simp [State.powerReturn, valid, cls, stopped, landing, returnNotices, returnedRecords, State.returned, h.records_eq]
  | tripped =>
    obtain ⟨record, tripped⟩ := h.returns_tripped complete valid cls
    exact ⟨record, by simpa [landing, valid, cls] using tripped⟩
  | held =>
    cases policy : s.store.settings.policy with
    | stayStopped =>
      exact refused (by simp [cls]) (by simp [landing, valid, cls]) (by simp [State.powerReturn, valid, cls, policy])
    | resumeHeld | resume =>
      exact resumed (by simp [landing, valid, cls]) (by simp [State.powerReturn, valid, cls, policy])
  | moving =>
    cases policy : s.store.settings.policy with
    | stayStopped =>
      exact refused (by simp [cls]) (by simp [landing, valid, cls]) (by simp [State.powerReturn, valid, cls, policy])
    | resumeHeld =>
      exact resumed (by simp [landing, valid, cls]) (by simp [State.powerReturn, valid, cls, policy])
    | resume =>
      obtain ⟨record, pending⟩ := h.promises complete s.store.record.pass (s.startTimer (s.store.settings.delay * 1000))
      refine ⟨record, ?_⟩
      have power : s.powerReturn false = (((s.setRun fun c => { c with pass := s.store.record.pass }).setRun fun c =>
          { c with recoveryTimer := some (s.startTimer (s.store.settings.delay * 1000)) }).enterWith false .recovering
            none none none).queueNotice .machine (.recovery .pending) := by
        simp only [State.powerReturn, valid, cls, policy]
        rfl
      rw [power, pending]
      simp [valid, cls, landing, returnNotices, returnedRecords, State.returned, h.records_eq, State.startTimer]

/-- Power and a complete configuration at a reset: the machine state is that of the table of R177. -/
theorem State.AtLoad.decide_returns (h : s.AtLoad) (complete : s.complete = true) (power : s.inputs.powerFail = false) :
    let target := landing s.store.record s.store.settings.policy
    ∃ record, s.decide = s.returned target.1 target.2 record := by
  unfold State.decide
  rw [if_neg (by simp [complete]), if_neg (by simp [power])]
  cases valid : s.store.record.valid with
  | true => exact h.returns complete valid
  | false =>
    obtain ⟨record, stopped⟩ := h.enters_stopped complete
    refine ⟨s.store.record, ?_⟩
    rw [if_neg (by simp)]
    simp [State.stoppedAtReset, stopped, landing, valid, State.returned, returnNotices, returnedRecords, h.records_eq]

/-- The decision changes the run controller, the fault records, the notices and the retained record alone. -/
theorem State.AtLoad.decide_frame (h : s.AtLoad) : ∃ run records notices record, s.decide = { s with
    run := run
    faults := { s.faults with records := records }
    panel := { s.panel with notices := notices }
    store := { s.store with record := record } } := by
  cases complete : s.complete with
  | false => exact ⟨_, _, _, _, h.decide_incomplete complete⟩
  | true =>
    cases power : s.inputs.powerFail with
    | true => exact ⟨_, _, _, _, s.decide_powerFail complete power⟩
    | false =>
      obtain ⟨record, eq⟩ := h.decide_returns complete power
      exact ⟨_, _, _, _, eq⟩

/-! ### The first frame after the reset (R162) -/

/-- What a notice says, and how often it was raised. -/
def Notice.content (n : Notice) : Subject × NoticeData × Nat := (n.subject, n.data, n.count)

/-- With no request in service, the transmitter begins a notice or nothing: no notice leaves the queue. -/
theorem State.transmit_idle (service : s.panel.service = none) (lost : s.panel.lost = false) : ∃ tx notices,
    s.transmit = { s with panel := { s.panel with tx := tx, notices := notices } } ∧
    notices.map Notice.content = s.panel.notices.map Notice.content := by
  unfold State.transmit
  simp only [service]
  split
  · split
    · exact ⟨s.panel.tx, s.panel.notices, by rw [← service], rfl⟩
    · split
      · exact ⟨s.panel.tx, s.panel.notices, by rw [← service], rfl⟩
      · refine ⟨_, _, by rw [← lost, ← service], ?_⟩
        rw [List.map_map]
        refine List.map_congr_left fun e _ => ?_
        simp only [Function.comp]
        split <;> rfl
  · exact ⟨s.panel.tx, s.panel.notices, by rw [← service], rfl⟩

/-! ### The reset as a whole -/

/-- The retained record as a reset reads it, where its own check passes or fails (R175). -/
def State.recordRead (check : Bool) (s : State) : State :=
  { s with store := { s.store with record := { s.store.record with valid := s.store.record.valid && check } } }

theorem exec_powerOnReset_eq (check : Bool) (s : State) :
    exec (.powerOnReset check) s = .next (((s.recordRead check).loaded false).decide).transmit := by
  have read : (if check then s else s.invalidateRecord) = s.recordRead check := by
    unfold State.recordRead State.invalidateRecord
    cases check <;> simp
  rw [← State.resetPart_eq, ← read]
  rfl

/-- A reset keeps of the loaded part all but the run controller, the fault records, the notices and the retained record. -/
theorem exec_powerOnReset_frame (check : Bool) (s : State) : ∃ run records tx notices record,
    let u := (s.recordRead check).loaded false
    exec (.powerOnReset check) s = .next { u with
      run := run
      faults := { u.faults with records := records }
      panel := { u.panel with tx := tx, notices := notices }
      store := { u.store with record := record } } := by
  rw [exec_powerOnReset_eq]
  obtain ⟨run, records, notices, record, decided⟩ := ((s.recordRead check).loaded_atLoad false).decide_frame
  obtain ⟨tx, sent, eq, -⟩ := State.transmit_idle (s := ((s.recordRead check).loaded false).decide)
    (by rw [decided, State.loaded_eq]; rfl) (by rw [decided, State.loaded_eq]; rfl)
  exact ⟨run, records, tx, sent, record, by rw [eq, decided]⟩

/-- The stored copy that a reset finds: a write in progress leaves one whose check fails (R173). -/
def State.keptCopy (s : State) : StoredCopy := if s.store.writing = none then s.store.stored else .failing

/-- What the reset of a part is computed from: its part with the kept copy and the record as read. -/
theorem State.recordRead_loseWrite (check : Bool) (s : State) : (s.recordRead check).loseWrite =
    { s with store := ⟨s.keptCopy, none, s.store.settings, (s.recordRead check).store.record⟩ } := by
  have frame : (s.recordRead check).loseWrite = { s with store := (s.recordRead check).loseWrite.store } := by
    unfold State.loseWrite State.recordRead
    split <;> rfl
  rw [frame, State.loseWrite_eq]
  rfl

theorem resetNotices_content (c : StoredCopy) : (resetNotices false c.passes).map Notice.content =
    ([NoticeData.restarted false] ++ if c.contents = none then [NoticeData.configInvalid] else []).map
      fun d => (Subject.machine, d, 1) := by
  simp only [c.contents_eq_none]
  cases c.passes <;> rfl

/-- What stands in the part after the decision and the first frame. -/
theorem State.AtLoad.sends (h : s.AtLoad) {run : RunController} {records : List FaultRecord} {notices : List Notice}
    {record : RetainedRecord} (decided : s.decide = { s with
      run := run
      faults := { s.faults with records := records }
      panel := { s.panel with notices := notices }
      store := { s.store with record := record } }) :
    let t := s.decide.transmit
    t.run = run ∧ t.faults.records = records ∧ t.panel.notices.map Notice.content = notices.map Notice.content ∧
      t.store.record = record ∧ t.store.settings = s.store.settings ∧ t.complete = s.complete := by
  obtain ⟨tx, sent, eq, content⟩ := s.decide.transmit_idle (by rw [decided]; exact h.service) (by rw [decided]; exact h.lost)
  dsimp only
  rw [decided] at content
  rw [eq, decided]
  exact ⟨rfl, rfl, content, rfl, rfl, rfl⟩

/-- What the decision reads of the loaded part. -/
theorem State.loaded_reads (check : Bool) (s : State) :
    let u := (s.recordRead check).loaded false
    u.run = returnedRun .unconfigured none none none ∧ u.faults.records = [] ∧ u.inputs = s.inputs ∧ u.clock = s.clock ∧
      u.store.record = { s.store.record with valid := s.store.record.valid && check } ∧
      u.panel.notices = resetNotices false s.keptCopy.passes := by
  dsimp only
  rw [State.loaded_eq, State.recordRead_loseWrite]
  exact ⟨rfl, rfl, rfl, rfl, rfl, rfl⟩

theorem returnNotices_content (r : RetainedRecord) (m : MState) : (returnNotices r m).map Notice.content =
    (if r.valid = false then []
      else if m = .recovering then [NoticeData.recovery .pending]
      else if m = .stopped ∧ r.cls ≠ .other then [.recovery (.refused .policy)] else []).map
      fun d => (Subject.machine, d, 1) := by
  unfold returnNotices
  repeat' split
  all_goals rfl

theorem returnedRecords_tripped {r : RetainedRecord} {k : FaultKind} (trip : r.tripKind = some k) :
    returnedRecords r .tripped =
      (let a := match r.captured with | some c => c.1 | none => 0
       [⟨k, none, .hard, .latched, a, a, 1⟩]) := by
  unfold returnedRecords
  rw [trip]

theorem returnedRecords_of_ne {r : RetainedRecord} {m : MState} (h : m ≠ .tripped) : returnedRecords r m = [] := by
  unfold returnedRecords
  split
  · exact absurd rfl h
  · rfl

/-- Settles O57: the loaded part (`State.loaded_eq`) holds what the image gives for each block, the decision
(`State.AtLoad.decide_returns` and its two sisters) gives the run, and the first frame after it takes no notice away. -/
theorem resetLoadsTheImageAndDecidesTheState : Obligations.ResetLoadsTheImageAndDecidesTheState := by
  refine ⟨fun s check => ?_, fun s check => ?_⟩
  · intro kept image silence
    obtain ⟨run, records, tx, notices, record, reset⟩ := exec_powerOnReset_frame check s
    have load : image = s.keptCopy.load := s.keptCopy.contents_getD
    refine ⟨_, reset, ?_⟩
    rw [State.loaded_eq, State.recordRead_loseWrite]
    clear_value image
    subst load
    exact ⟨rfl, rfl, rfl, rfl, rfl, rfl, rfl, rfl, rfl, rfl, rfl, rfl, rfl, rfl, rfl, rfl, rfl, rfl, rfl, rfl, rfl, rfl, rfl,
      rfl, rfl, rfl⟩
  · intro kept r
    obtain ⟨run, records, inputs, clock, record, notices⟩ := s.loaded_reads check
    have load := (s.recordRead check).loaded_atLoad false
    rw [exec_powerOnReset_eq]
    generalize (s.recordRead check).loaded false = u at *
    refine ⟨_, rfl, ?_⟩
    have begun := (congrArg (List.map Notice.content) notices).trans (resetNotices_content kept)
    replace record : u.store.record = r := record
    clear_value r
    cases complete : u.complete with
    | false =>
      obtain ⟨trun, trecords, tnotices, trecord, -, tcomplete⟩ := load.sends (run := u.run) (records := u.faults.records)
        (load.decide_incomplete complete)
      rw [run] at trun
      simp only [trun, trecords, trecord, tcomplete, complete]
      refine ⟨rfl, rfl, rfl, rfl, rfl, rfl, rfl, rfl, tnotices.trans ?_,
        fun _ => ⟨rfl, rfl, rfl, records, trivial⟩, nofun, nofun⟩
      rw [List.map_append, List.map_append, begun, record, if_pos trivial]
      congr 1
      split <;> rfl
    | true =>
      cases power : u.inputs.powerFail with
      | true =>
        obtain ⟨trun, trecords, tnotices, trecord, -, tcomplete⟩ := load.sends (records := u.faults.records)
          (notices := u.panel.notices) (record := u.store.record) (u.decide_powerFail complete power)
        rw [run] at trun
        simp only [trun, trecords, trecord, tcomplete, complete, ← inputs, power]
        refine ⟨rfl, rfl, rfl, rfl, rfl, rfl, rfl, rfl, tnotices.trans ?_, nofun,
          fun _ _ => ⟨trivial, rfl, rfl, records, record⟩, nofun⟩
        simp [begun]
      | false =>
        obtain ⟨kept, decided⟩ := load.decide_returns complete power
        obtain ⟨trun, trecords, tnotices, -, tsettings, tcomplete⟩ := load.sends decided
        rw [record] at trun trecords tnotices decided
        simp only [trun, trecords, tsettings, tcomplete, complete, ← inputs, power, ← clock]
        refine ⟨rfl, rfl, rfl, rfl, rfl, rfl, rfl, rfl, tnotices.trans ?_, nofun, nofun, fun _ _ => ?_⟩
        · rw [List.map_append, List.map_append, begun, returnNotices_content]
          simp
        · refine ⟨rfl, rfl, rfl, fun trip => ?_, fun trip => ?_⟩
          · replace trip : (landing r u.store.settings.policy).1 = .tripped := trip
            rw [trip]
            exact ⟨rfl, fun k kind => returnedRecords_tripped kind⟩
          · exact ⟨if_neg trip, returnedRecords_of_ne trip⟩

end Sys2Proof.Machine
end

section
/-! SUPPORT. Writes applied where the machine does not move (R11 to R17): what their effects cannot reach, and the settling of
completeness. -/

namespace Sys2Proof.Machine

variable {s : State}

/-! ### What the effects of a write cannot reach -/

/-- The parts of the state that a write applied in UNCONFIGURED leaves alone, whatever it writes. -/
structure Bystanders where
  run : RunController
  sectors : SectorTable
  held : Nat
  inputs : Inputs
  mode : LineMode
  clock : Nat
  timed : Bool

def State.bystanders (s : State) : Bystanders :=
  ⟨s.run, s.sectors, s.angle.held, s.inputs, s.span.mode, s.clock, s.engine.timer.isSome⟩

/-- A raising asks nothing of a machine whose contactor is open and that is not about to move. -/
theorem State.actOnRaising_unconfigured (h : s.run.mstate = .unconfigured) (k : FaultKind) (r : Raising) :
    s.actOnRaising k r = s := by
  have hold : s.holdRequest = s := by unfold State.holdRequest; rw [h]
  have trip : s.tripRequest k = s := by unfold State.tripRequest; rw [h]; rfl
  unfold State.actOnRaising
  split
  · rw [hold, ite_self]
  · rfl
  · exact trip

theorem State.raise_bystanders (h : s.run.mstate = .unconfigured) (k : FaultKind) (t : Option Nat) :
    (s.raise k t).bystanders = s.bystanders := by
  unfold State.raise
  dsimp only
  rw [State.actOnRaising_unconfigured (by simpa using h)]
  simp [State.bystanders]

theorem State.changeMembers_bystanders (old : Nat) : (s.changeMembers old).bystanders = s.bystanders := by
  rw [s.changeMembers_eq]
  rfl

theorem State.restartInterval_bystanders : s.restartInterval.bystanders = s.bystanders := by
  unfold State.restartInterval
  split
  next timer => simp [State.bystanders, timer]
  · rfl

theorem State.agreeMisses_bystanders (h : s.run.mstate = .unconfigured) (k : Nat) :
    (s.agreeMisses k).bystanders = s.bystanders := by
  unfold State.agreeMisses
  dsimp only
  repeat' split
  · exact (State.raise_bystanders (s := s.setDyn k _) h ..).trans rfl
  · rfl
  · rfl

theorem State.fieldApplied_bystanders (h : s.run.mstate = .unconfigured) (w : FieldWrite) :
    (s.fieldApplied w).bystanders = s.bystanders := by
  have stall (k : Nat) : (s.stallExpires k).bystanders = s.bystanders := by
    unfold State.stallExpires
    split
    · exact (State.raise_bystanders (s := s.setDyn k _) h ..).trans rfl
    · rfl
  unfold State.fieldApplied State.silenceApplied
  dsimp only
  repeat' split
  any_goals rfl
  exact stall _

/-- Operations that leave the bystanders alone in UNCONFIGURED do so one after the other. -/
theorem foldl_bystanders {α : Type} {f : State → α → State}
    (step : ∀ s a, s.run.mstate = .unconfigured → (f s a).bystanders = s.bystanders) (h : s.run.mstate = .unconfigured)
    (as : List α) : (as.foldl f s).bystanders = s.bystanders := by
  induction as generalizing s with
  | nil => rfl
  | cons a as ih =>
    have run : (f s a).run = s.run := congrArg Bystanders.run (step s a h)
    exact (ih (run ▸ h)).trans (step s a h)

theorem State.applyWrites_bystanders (h : s.run.mstate = .unconfigured) (ws : List FieldWrite) :
    (s.applyWrites ws).bystanders = s.bystanders := by
  have still {t u : State} (eq : u.bystanders = t.bystanders) (ht : t.run.mstate = .unconfigured) :
      u.run.mstate = .unconfigured := (congrArg (·.run.mstate) eq).trans ht
  unfold State.applyWrites
  dsimp only
  have written : (s.writeFields ws).bystanders = s.bystanders := by simp [State.bystanders]
  generalize s.writeFields ws = w at written ⊢
  generalize ha : (if w.towerCount = s.towerCount then w else w.changeMembers s.towerCount) = a
  have members : a.bystanders = s.bystanders := by
    subst ha
    split
    · exact written
    · exact State.changeMembers_bystanders _ |>.trans written
  generalize hb : (if writes ws (.machine .driveInterval) then a.restartInterval else a) = b
  have interval : b.bystanders = s.bystanders := by
    subst hb
    split
    · exact State.restartInterval_bystanders.trans members
    · exact members
  generalize hc : (if writes ws (.machine .missLimit) then b.members.foldl State.agreeMisses b else b) = c
  have limit : c.bystanders = s.bystanders := by
    subst hc
    split
    · exact (foldl_bystanders (fun _ k hs => State.agreeMisses_bystanders hs k) (still interval h) _).trans interval
    · exact interval
  exact (foldl_bystanders (fun _ w hs => State.fieldApplied_bystanders hs w) (still limit h) ws).trans limit

/-! ### Completeness settled (R17) -/

/-- STOPPED entered from UNCONFIGURED on an ACTIVE line: the quiet timer starts, and the sectors and the held angle stand. -/
theorem State.enter_stopped (active : s.span.mode = .active) :
    let t := s.enter .stopped
    t.run = s.run.inState .stopped ∧ t.span = { s.span with quietTimer := some ⟨s.mval .quietDelay * 1000, s.clock⟩ } ∧
      t.sectors = s.sectors ∧ t.angle.held = s.angle.held := by
  have line (u : State) (hu : u.run.mstate = .stopped) (active : u.span.mode = .active) : u.lineFollows.span =
      { u.span with quietTimer := some ⟨u.mval .quietDelay * 1000, u.clock⟩ } := by
    unfold State.lineFollows State.restartQuiet
    rw [if_pos hu, if_pos ⟨active, by rw [hu]; decide⟩]
    rfl
  have marks (u : State) (hu : u.run.mstate = .stopped) : u.marksFollow.sectors = u.sectors := by
    unfold State.marksFollow
    rw [if_neg (by rw [hu]; decide)]
  have angle (u : State) : u.angleFollows.angle.held = u.angle.held := by
    unfold State.angleFollows
    dsimp only
    split <;> rfl
  dsimp only
  unfold State.enter State.enterWith
  refine ⟨by simp; rfl, ?_, ?_, ?_⟩
  · simp [line, active, State.setMachine, State.mval]
  · rw [marks _ (by simp [State.setMachine])]
    simp
  · simp [angle]

/-! ### An accepted request (R9) -/

/-- A command that carries writes of the configuration which pass the checks of R9 other than those of ranges and radii. -/
def State.accepts (s : State) (i : Instr) (ws : List FieldWrite) : Prop :=
  ∃ presence values, values.length = bitsSet presence ∧
    ((i = .configMachine presence values ∧ presence.toNat < 4096 ∧ ws = machineWrites presence values ∧
        (s.candidate ws).roundFits = true) ∨
      (∃ tower : Byte, i = .configTower tower presence values ∧ 1 ≤ tower.toNat ∧ tower.toNat ≤ 16 ∧
        ws = towerWrites tower.toNat presence values ∧ (s.candidate ws).towerConsistent tower.toNat = true))

/-- An accepted request is written or staged, and answered OK. -/
theorem exec_accepted {i : Instr} {f : PanelFrame} {ws : List FieldWrite} (ready : s.receptive) (frame : i.frame = some f)
    (accepts : s.accepts i ws) (permits : s.permits ws) (ranged : ∀ w ∈ ws, inRange w = true)
    (radii : (s.candidate ws).radiiIncrease = true) :
    exec i s = .next (((s.heard (parseRequest f)).applyOrStage ws).replying f.type .ok).transmit := by
  obtain ⟨presence, values, count, ⟨rfl, named, rfl, fits⟩ | ⟨tower, rfl, h1, h2, rfl, order⟩⟩ := accepts
  · obtain rfl : frameOf (.configMachine presence values) = f := Option.some.inj frame
    have candidate := State.candidate_table (s.heard_table (.configMachine presence values)) (machineWrites presence values)
    have named : namesNoField 12 presence = false := by
      rw [Bool.eq_false_iff, Ne, namesNoField_machine]
      omega
    rw [parseRequest_configMachine count]
    refine exec_configMachine ready count ?_
    rw [State.takeConfigMachine_eq, State.takeWrite_accepted (State.permits_of_run (s.heard_run _) permits) named ranged]
    rw [State.radiiIncrease_of_table candidate, State.roundFits_of_table candidate]
    exact Bool.and_eq_true_iff.2 ⟨radii, fits⟩
  · obtain rfl : frameOf (.configTower tower presence values) = f := Option.some.inj frame
    have candidate := State.candidate_table (s.heard_table (.configTower tower presence values))
      (towerWrites tower.toNat presence values)
    rw [parseRequest_configTower count]
    refine exec_configTower ready count ?_
    rw [State.takeConfigTower_eq h1 h2, State.takeWrite_accepted (State.permits_of_run (s.heard_run _) permits)
      (namesNoField_tower presence) ranged]
    rw [State.radiiIncrease_of_table candidate, State.towerConsistent_of_table candidate]
    exact Bool.and_eq_true_iff.2 ⟨radii, order⟩

/-- A request writes each field at most once, and only fields that the table has. -/
theorem State.accepts.nodup {i : Instr} {ws : List FieldWrite} (h : s.accepts i ws) :
    (ws.map (·.1)).Nodup ∧ ∀ w ∈ ws, w.1.real := by
  obtain ⟨presence, values, -, ⟨-, -, rfl, -⟩ | ⟨tower, -, h1, h2, rfl, -⟩⟩ := h
  · exact ⟨machineWrites_nodup .., forall_machineWrites.2 fun _ _ => trivial⟩
  · exact ⟨towerWrites_nodup .., forall_towerWrites.2 fun _ _ => ⟨h1, h2⟩⟩

/-- An accepted request with a geometry field: everything written at once, with its effects in the order of R11. -/
theorem exec_geometry {i : Instr} {f : PanelFrame} {ws : List FieldWrite} (ready : s.receptive)
    (stopped : s.run.mstate = .stopped) (frame : i.frame = some f) (accepts : s.accepts i ws)
    (geometry : ∃ w ∈ ws, w.1.geometry = true) (ranged : ∀ w ∈ ws, inRange w = true)
    (radii : (s.candidate ws).radiiIncrease = true) :
    let written := s.table.pending ++ ws
    let has (f : MachineField) := ∃ w ∈ written, w.1 = .machine f
    ∃ w : State, w = { s.heard (parseRequest f) with table := w.table } ∧ w.table.pending = [] ∧
      (∀ key : FieldKey, key.real → w.held key = lastWritten written key (s.held key)) ∧
      (∀ k, (w.tower k).dyn = (s.tower k).dyn) ∧
      let a := if w.towerCount = s.towerCount then w else w.changeMembers s.towerCount
      let b := if has .driveInterval then a.restartInterval else a
      let c := if has .missLimit then b.members.foldl State.agreeMisses b else b
      let d := written.foldl State.fieldApplied c
      exec i s = .next (d.settleCompleteness.replying f.type .ok).transmit := by
  intro written has
  rw [exec_accepted ready frame accepts (State.permits_of_rests (.inl (.inr stopped))) ranged radii]
  have table := s.heard_table (parseRequest f)
  generalize s.heard (parseRequest f) = h at *
  have pending : h.table.pending = s.table.pending := by rw [table]
  have old : ({ h with table := { h.table with pending := [] } } : State).towerCount = s.towerCount :=
    State.towerCount_of_machine (by simp [table])
  have held (key : FieldKey) : ({ h with table := { h.table with pending := [] } } : State).held key = s.held key :=
    (h.held_of_table rfl rfl key).trans (State.held_of_eq table key)
  have choose (f : MachineField) (x y : State) :
      (if writes written (.machine f) = true then x else y) = if has f then x else y := if_congr writes_iff rfl rfl
  refine ⟨State.writeFields { h with table := { h.table with pending := [] } } written, State.writeFields_frame .., by simp,
    fun key real => ?_, fun k => ?_, ?_⟩
  · rw [State.writeFields_held _ _ real, held]
  · rw [State.writeFields_dyn]
    exact congrArg TowerRecord.dyn (State.tower_of_table table k)
  · have applied : h.applyOrStage ws = (State.applyWrites { h with table := { h.table with pending := [] } }
        written).settleCompleteness := by
      unfold State.applyOrStage
      rw [if_pos (.inr (by simpa using geometry)), pending]
    rw [applied]
    unfold State.applyWrites
    simp only [old, choose]

/-- Completeness settled in UNCONFIGURED: STOPPED where the configuration is complete, and nothing otherwise. -/
theorem State.settleCompleteness_complete (h : s.run.mstate = .unconfigured) (complete : s.complete = true) :
    s.settleCompleteness = { s.enter .stopped with
      engine := { (s.enter .stopped).engine with timer := some ⟨s.mval .driveInterval, s.clock⟩ } } := by
  unfold State.settleCompleteness
  rw [if_pos ⟨h, complete⟩]
  dsimp only
  unfold State.startTimer
  simp [State.mval]

theorem State.settleCompleteness_incomplete (h : s.run.mstate = .unconfigured) (incomplete : s.complete = false) :
    s.settleCompleteness = s := by
  unfold State.settleCompleteness
  rw [if_neg (by simp [incomplete]), if_neg (by simp [h])]

/-- Whichever it is, the table, the sectors, the held angle and the stored image stand. -/
theorem State.settleCompleteness_kept (h : s.run.mstate = .unconfigured) (active : s.span.mode = .active) :
    let t := s.settleCompleteness
    t.table = s.table ∧ t.sectors = s.sectors ∧ t.angle.held = s.angle.held ∧ t.inputs = s.inputs ∧ t.clock = s.clock ∧
      t.store.core = s.store.core := by
  cases complete : s.complete with
  | false =>
    rw [State.settleCompleteness_incomplete h complete]
    exact ⟨rfl, rfl, rfl, rfl, rfl, rfl⟩
  | true =>
    obtain ⟨-, -, sectors, held⟩ := s.enter_stopped active
    rw [State.settleCompleteness_complete h complete]
    simp [sectors, held]

/-- A request taken leaves the line ACTIVE (R79). -/
theorem State.heard_active (r : Request) : (s.heard r).span.mode = .active := by
  have round (u : State) : u.beginDriveRound.span.mode = u.span.mode := by
    unfold State.beginDriveRound
    split <;> rfl
  unfold State.heard State.noteTaken
  have line (u : State) (hu : u.span.mode = .active) :
      (let v := u.latchKind .panelSilent none; if r = .panelSleep then v else v.wakePanel).span.mode = .active := by
    dsimp only
    split <;> simpa using hu
  refine line _ ?_
  dsimp only
  split
  next active =>
    unfold State.restartQuiet
    split <;> exact active
  next quiet =>
    unfold State.leaveQuiet
    split
    · dsimp only
      split
      · rw [round]
        simp
      · simp
    · cases mode : s.span.mode <;> simp_all

theorem State.transmit_service : s.transmit.panel.service = s.panel.service := by
  unfold State.transmit
  dsimp only
  repeat' split
  all_goals simp_all

/-- An accepted request in UNCONFIGURED: its fields written at once, and STOPPED where that completes the configuration. -/
theorem exec_unconfigured {i : Instr} {f : PanelFrame} {ws : List FieldWrite} (ready : s.receptive)
    (unconfigured : s.run.mstate = .unconfigured) (noPending : s.table.pending = []) (frame : i.frame = some f)
    (accepts : s.accepts i ws) (ranged : ∀ w ∈ ws, inRange w = true) (radii : (s.candidate ws).radiiIncrease = true) :
    ∃ t, exec i s = .next t ∧ t.panel.service = some ⟨f.type, some ⟨f.type, .ok, none, .none⟩⟩ ∧
      t.table.pending = [] ∧
      (∀ w ∈ ws, t.held w.1 = some w.2) ∧ (∀ key, (∀ w ∈ ws, key ≠ w.1) → t.held key = s.held key) ∧
      t.angle.held = s.angle.held ∧ t.inputs = s.inputs ∧ t.sectors = s.sectors ∧ t.store.stored = s.store.stored ∧
      (t.complete = false → t.run = s.run ∧ t.engine.timer.isSome = s.engine.timer.isSome) ∧
      (t.complete = true → t.run.mstate = .stopped ∧ t.run.contactor = false ∧ t.run.warning = false ∧
        t.engine.timer = some ⟨t.mval .driveInterval, t.clock⟩ ∧
        t.span.mode = .active ∧ t.span.quietTimer = some ⟨t.mval .quietDelay * 1000, t.clock⟩) := by
  rw [exec_accepted ready frame accepts (State.permits_of_rests (.inl (.inl unconfigured))) ranged radii]
  obtain ⟨nodup, real⟩ := accepts.nodup
  have active := s.heard_active (parseRequest f)
  have store := s.heard_store (parseRequest f)
  have outline : (s.heard (parseRequest f)).bystanders = { s.bystanders with mode := .active } := by
    simp [State.bystanders, active]
  have table := s.heard_table (parseRequest f)
  generalize s.heard (parseRequest f) = h at *
  have run : h.run = s.run := congrArg Bystanders.run outline
  have pending : h.table.pending = [] := table ▸ noPending
  have applied : h.applyOrStage ws = (h.applyWrites ws).settleCompleteness := by
    have same : ({ h with table := { h.table with pending := [] } } : State) = h := by rw [← pending]
    unfold State.applyOrStage
    rw [if_pos (.inl (run ▸ unconfigured)), same, pending, List.nil_append]
  rw [applied]
  obtain ⟨-, noneLeft, -, core⟩ := h.applyWrites_kept ws
  have still := (State.applyWrites_bystanders (run ▸ unconfigured) ws).trans outline
  have held := h.applyWrites_held ws
  generalize h.applyWrites ws = a at *
  obtain ⟨runs, sectors, angle, inputs, mode, -, timed⟩ := Bystanders.mk.inj still
  have rests : a.run.mstate = .unconfigured := runs ▸ unconfigured
  obtain ⟨tables, sectors', angle', inputs', clocks, stored⟩ := State.settleCompleteness_kept rests mode
  have complete := State.complete_of_table tables
  have holds (key : FieldKey) : a.settleCompleteness.held key = (h.writeFields ws).held key :=
    (State.held_of_eq tables key).trans (held key)
  refine ⟨_, rfl, by rw [State.transmit_service]; rfl, ?_⟩
  have sent : ((a.settleCompleteness.replying f.type .ok).transmit).table = a.settleCompleteness.table := by
    simp [State.replying]
  refine ⟨?_, fun w hw => ?_, fun key unnamed => ?_, ?_, ?_, ?_, ?_, fun incomplete => ?_, fun whole => ?_⟩
  · rw [sent, tables, noneLeft, pending]
  · rw [State.held_of_eq sent, holds, State.writeFields_held _ _ (real w hw)]
    exact lastWritten_of_mem nodup hw _
  · rw [State.held_of_eq sent, holds, State.writeFields_held_of_not_mem _ unnamed, State.held_of_eq table]
  · simp [State.replying, angle', angle, State.bystanders]
  · simp [State.replying, inputs', inputs, State.bystanders]
  · simp [State.replying, sectors', sectors, State.bystanders]
  · obtain ⟨image, -, -⟩ := ConfigStore.core_inj (stored.trans core)
    simp [State.replying, image, store]
  · rw [State.complete_of_table sent, complete] at incomplete
    rw [State.settleCompleteness_incomplete rests incomplete]
    simp [State.replying, runs, timed, State.bystanders]
  · rw [State.complete_of_table sent, complete] at whole
    obtain ⟨run', span', -, -⟩ := a.enter_stopped mode
    rw [State.settleCompleteness_complete rests whole]
    simp [State.replying, run', span', RunController.inState, mode, State.mval]

end Sys2Proof.Machine
end

section
/-! SUPPORT. What written values do, one by one (R12 to R17, R33, R81). -/

namespace Sys2Proof.Machine

variable {s : State}

/-! ### The effects of a written value (R12, R16, R33) -/

theorem State.fieldApplied_panelSilence {w : FieldWrite} (h : w.1 = .machine .panelSilence) :
    s.fieldApplied w = s.silenceApplied := by
  unfold State.fieldApplied
  rw [h]

theorem State.fieldApplied_discards {w : FieldWrite} {k : Nat} (h : w.1 = .tower k .radius ∨ w.1 = .tower k .wheelScale) :
    s.fieldApplied w = s.discardWindow k := by
  unfold State.fieldApplied
  rcases h with h | h <;> rw [h]

theorem State.fieldApplied_stallTime_idle {w : FieldWrite} {k : Nat} (h : w.1 = .tower k .stallTime)
    (idle : (s.tower k).dyn.stall = .idle) : s.fieldApplied w = s := by
  unfold State.fieldApplied
  rw [h]
  dsimp only
  rw [idle]

theorem State.fieldApplied_stallTime_running {w : FieldWrite} {k : Nat} {c : U16} {since : Nat}
    (h : w.1 = .tower k .stallTime) (running : (s.tower k).dyn.stall = .running c since) :
    s.fieldApplied w = if s.tval k .stallTime * 1000 ≤ s.clock - since then s.stallExpires k else s := by
  unfold State.fieldApplied
  rw [h]
  dsimp only
  rw [running]

theorem State.fieldApplied_other {w : FieldWrite} (machine : w.1 ≠ .machine .panelSilence)
    (tower : ∀ k, w.1 ∉ ([.tower k .radius, .tower k .wheelScale, .tower k .stallTime] : List FieldKey)) :
    s.fieldApplied w = s := by
  unfold State.fieldApplied
  split
  next h => exact absurd h machine
  next k h => exact absurd (by simp [h]) (tower k)
  next k h => exact absurd (by simp [h]) (tower k)
  next k h => exact absurd (by simp [h]) (tower k)
  · rfl

theorem State.stallExpires_running {k : Nat} {c : U16} {since : Nat} (h : (s.tower k).dyn.stall = .running c since) :
    s.stallExpires k = (s.setDyn k fun d => { d with stall := .running c s.clock }).raise .stall (some k) := by
  unfold State.stallExpires
  rw [h]

/-! ### Completeness lost (R17) -/

/-- What a notice does to the panel port depends on the panel port alone. -/
theorem State.queueNotice_panel {t : State} (h : t.panel = s.panel) (subject : Subject) (data : NoticeData) :
    (t.queueNotice subject data).panel = (s.queueNotice subject data).panel := by
  have priority (k : NoticeKind) : t.priority k = s.priority k := by unfold State.priority; rw [h]
  have displaceable (p : Nat) : t.displaceable p = s.displaceable p := by
    unfold State.displaceable
    simp only [h, priority]
  have wakes : t.wakes data subject = s.wakes data subject := by
    unfold State.wakes State.matchesFilter
    simp only [h, priority]
  unfold State.queueNotice
  dsimp only
  rw [h, priority, displaceable, wakes]
  repeat' split
  all_goals rfl

theorem State.queueNotice_of_panel {t : State} (h : t.panel = s.panel) (subject : Subject) (data : NoticeData) :
    t.queueNotice subject data = { t with panel := (s.queueNotice subject data).panel } := by
  rw [← State.queueNotice_panel h]
  exact t.queueNotice_frame subject data

/-- The part after its machine has left STOPPED for UNCONFIGURED, but for the notice of it. -/
def State.unconfigured (s : State) : State :=
  { s with
    run := s.run.inState .unconfigured
    engine := { s.engine with timer := none }
    span := { s.span with quietTimer := none }
    angle := { s.angle with
      windows := Vector.replicate 16 none, overLimit := Vector.replicate 16 0, haltAngle := none }
    store := { s.store with record := ⟨true, .other, s.run.pass, none, none⟩ } }

theorem State.applyWrites_nil : s.applyWrites [] = s := by
  unfold State.applyWrites
  rw [State.writeFields_nil]
  simp [writes]

theorem State.applyPending_nil (h : s.table.pending = []) : s.applyPending = s := by
  unfold State.applyPending
  rw [h, State.applyWrites_nil, ← h]

/-- UNCONFIGURED entered from STOPPED on an ACTIVE line. -/
theorem State.enter_unconfigured (stopped : s.run.mstate = .stopped) (active : s.span.mode = .active) :
    s.enter .unconfigured = { s.unconfigured with
      engine := s.engine, panel := (s.queueNotice .machine (.state .unconfigured none)).panel } := by
  have queued : (s.setMachine .unconfigured none none none).queueNotice .machine (.state .unconfigured none) =
      { s with
        run := s.run.inState .unconfigured, panel := (s.queueNotice .machine (.state .unconfigured none)).panel } := by
    exact State.queueNotice_of_panel (s.setMachine_panel ..) ..
  have line (u : State) (hu : u.run.mstate = .unconfigured) (active : u.span.mode = .active) :
      u.lineFollows = { u with span := { u.span with quietTimer := none } } := by
    unfold State.lineFollows
    rw [if_neg (by rw [hu]; decide), if_pos hu, State.leaveQuiet_active active]
  have record (u : State) (hu : u.run = s.run.inState .unconfigured) : u.recordFollows =
      { u with store := { u.store with record := ⟨true, .other, s.run.pass, none, none⟩ } } := by
    unfold State.recordFollows State.rewriteRecord
    rw [hu]
    rfl
  have levels (u : State) : u.levelsFollow s.run.mstate = u := by
    unfold State.levelsFollow
    rw [stopped]
    rfl
  unfold State.enter State.enterWith
  dsimp only
  rw [if_pos rfl, queued, record _ rfl, line, levels]
  · rfl
  · rfl
  · exact active

/-- STOPPED with an incomplete configuration and nothing pending, on an ACTIVE line. -/
theorem State.settleCompleteness_leaves (stopped : s.run.mstate = .stopped) (incomplete : s.complete = false)
    (noPending : s.table.pending = []) (active : s.span.mode = .active) :
    s.settleCompleteness = s.unconfigured.queueNotice .machine (.state .unconfigured none) := by
  unfold State.settleCompleteness
  rw [if_neg (by simp [stopped]), if_pos ⟨stopped, incomplete⟩]
  dsimp only
  rw [s.enter_unconfigured stopped active, State.applyPending_nil (by exact noPending),
    State.queueNotice_of_panel (t := s.unconfigured) (s := s) rfl]
  rfl

/-- Settles O25: the two kinds of accepted request (`exec_unconfigured`, `exec_geometry`), and then one lemma for each effect
of a written value. -/
theorem writesAreAppliedWithTheirEffects : Obligations.WritesAreAppliedWithTheirEffects := by
  refine ⟨fun s i f ws ready unconfigured noPending frame accepts ranged radii =>
      exec_unconfigured ready unconfigured noPending frame accepts ranged radii,
    fun s i f ws ready stopped frame accepts geometry ranged radii => ?_,
    fun s old changed => ?_, fun s k h1 h2 => ?_, fun s w => ?_, fun s => ?_⟩
  · obtain ⟨w, table, pending, held, dyn, applied⟩ :=
      exec_geometry ready stopped frame accepts geometry ranged radii
    refine ⟨w, table, pending, fun key real => held key ?_, dyn, applied⟩
    cases key with
    | machine f => trivial
    | tower k f => exact real k ⟨f, rfl⟩
  · obtain ⟨machine, pending⟩ := s.changeMembers_machine old
    refine ⟨s.changeMembers_eq old, machine, pending, fun k h1 h2 => ?_⟩
    have moves : k ∈ s.movers old ↔ min old s.towerCount < k ∧ k ≤ max old s.towerCount := by
      rw [s.mem_movers, and_iff_right ⟨h1, h2⟩]
    obtain ⟨-, angle, tripMarks⟩ := s.changeMembers_table old
    obtain ⟨-, windows, overLimit, marks⟩ := s.resetMembers_nth (s.movers old) k
    rw [s.changeMembers_tower, angle, tripMarks, windows, overLimit, marks]
    dsimp only
    rw [← moves]
    exact ⟨fun h => by simp [h, TowerDynamic.reset], fun h => by simp [h]⟩
  · exact ⟨s.agreeMisses_lost k, s.agreeMisses_missing k, s.agreeMisses_same k⟩
  · refine ⟨fun h => ?_, fun k h => State.fieldApplied_discards h, fun k h => ⟨State.fieldApplied_stallTime_idle h,
      fun c since running => ⟨fun early => ?_, fun due => ?_⟩⟩, State.fieldApplied_other⟩
    · rw [State.fieldApplied_panelSilence h]
      unfold State.silenceApplied
      refine ⟨fun zero => if_pos zero, fun set stopped awake => ?_, fun set other => ?_⟩
      · exact (if_neg (Nat.ne_of_gt set)).trans (if_pos ⟨stopped, awake⟩)
      · refine (if_neg (Nat.ne_of_gt set)).trans (if_neg fun ⟨stopped, awake⟩ => ?_)
        exact other.elim (absurd stopped) (by simp [awake])
    · rw [State.fieldApplied_stallTime_running h running, if_neg (Nat.not_le.2 early)]
    · rw [State.fieldApplied_stallTime_running h running, if_pos due, State.stallExpires_running running]
  · refine ⟨fun t timer => ?_, fun noTimer => ?_, State.settleCompleteness_leaves, fun stopped complete => ?_⟩
    · unfold State.restartInterval
      rw [timer]
      rfl
    · unfold State.restartInterval
      rw [noTimer]
    · unfold State.settleCompleteness
      rw [if_neg (by simp [stopped]), if_neg (by simp [complete])]

end Sys2Proof.Machine
end

section
/-! SUPPORT. The work of a drive interval expiry (R11, R39, R57, R58). -/

namespace Sys2Proof.Machine

variable {s : State}

/-! ### The orders of a set taken (R7, R58) -/

/-- Several towers take the orders of a set, one each. -/
def State.takeOrders (s : State) (ks : List Nat) (v : Nat → Nat) (dir : Direction) : State :=
  ks.foldl (fun s k => s.setDyn k fun d => d.takeOrder (v k) dir) s

theorem State.takeOrders_frame (ks : List Nat) (v : Nat → Nat) (dir : Direction) :
    let t := s.takeOrders ks v dir
    t = { s with table := t.table } ∧ t.table.machine = s.table.machine ∧ t.table.pending = s.table.pending := by
  induction ks generalizing s with
  | nil => exact ⟨rfl, rfl, rfl⟩
  | cons k ks ih =>
    obtain ⟨frame, machine, pending⟩ := ih (s := s.setDyn k fun d => d.takeOrder (v k) dir)
    exact ⟨frame, machine, pending⟩

theorem State.takeOrders_tower_of_not_mem {ks : List Nat} {j : Nat} (h : j ∉ ks) (v : Nat → Nat) (dir : Direction) :
    (s.takeOrders ks v dir).tower j = s.tower j := by
  induction ks generalizing s with
  | nil => rfl
  | cons k ks ih =>
    obtain ⟨other, later⟩ := not_or.1 (mt List.mem_cons.2 h)
    exact (ih later).trans (s.setDyn_tower_of_ne other _)

theorem State.takeOrders_tower {ks : List Nat} (nodup : ks.Nodup) {j : Nat} (h : j ∈ ks) (h1 : 1 ≤ j) (h2 : j ≤ 16)
    (v : Nat → Nat) (dir : Direction) :
    (s.takeOrders ks v dir).tower j = ⟨(s.tower j).cfg, (s.tower j).dyn.takeOrder (v j) dir⟩ := by
  induction ks generalizing s with
  | nil => cases h
  | cons k ks ih =>
    obtain ⟨fresh, nodup⟩ := List.nodup_cons.1 nodup
    rcases List.mem_cons.1 h with rfl | later
    · exact (State.takeOrders_tower_of_not_mem fresh v dir).trans (s.setDyn_tower_self h1 h2 _)
    · have other : j ≠ k := fun eq => fresh (eq ▸ later)
      refine (ih nodup later).trans ?_
      rw [s.setDyn_tower_of_ne other]

/-! ### The set computed (R41, R57) -/

theorem State.members_nodup (s : State) : s.members.Nodup := by
  exact List.nodup_range.map (Nat.succ_injective)

/-- Every tower of the machine stands still and was last told so (R57). -/
def State.clear (s : State) : Prop :=
  ∀ k, 1 ≤ k → k ≤ s.towerCount → (s.tower k).dyn.lastOrder = 0 ∧
    (nth s.span.lastLine k none = none ∨ nth s.span.lastLine k none = some 0)

theorem State.towersClear_iff (s : State) : s.towersClear = true ↔ s.clear := by
  unfold State.towersClear State.clear
  simp only [List.all_eq_true, s.mem_members, Bool.and_eq_true, beq_iff_eq, and_imp]
  refine forall_congr' fun k => forall_congr' fun _ => forall_congr' fun _ => and_congr_right fun _ => ?_
  cases nth s.span.lastLine k none <;> simp

/-- The direction in which the pass wants the machine to go. -/
def State.turned (s : State) : Direction :=
  match s.run.pass with
  | some p => p.direction
  | none => s.engine.direction

theorem State.decideDirection_of_clear (h : s.clear) : s.decideDirection = s.turned := by
  unfold State.decideDirection State.turned
  cases s.run.pass with
  | none => rfl
  | some p =>
    by_cases same : p.direction = s.engine.direction
    · simp [same]
    · exact if_pos ⟨same, s.towersClear_iff.2 h⟩

theorem State.decideDirection_of_not_clear (h : ¬ s.clear) : s.decideDirection = s.engine.direction := by
  unfold State.decideDirection
  split
  · rw [if_neg fun ⟨_, clear⟩ => h (s.towersClear_iff.1 clear)]
  · rfl

/-- The set waits for a turn exactly while its direction is not the one that the pass wants. -/
theorem State.turnWaits_eq_false : s.turnWaits = false ↔ s.decideDirection = s.turned := by
  unfold State.turnWaits State.decideDirection State.turned
  cases s.run.pass with
  | none => simp
  | some p =>
    by_cases same : p.direction = s.engine.direction
    · simp [same]
    · cases clear : s.towersClear <;> simp [same, Ne.symm same]

theorem State.setOrder_eq (s : State) (k : Nat) :
    s.setOrder k = if s.run.mstate.moving = true ∧ s.decideDirection = s.turned then s.order k else 0 := by
  unfold State.setOrder
  exact if_congr (and_congr_right fun _ => State.turnWaits_eq_false) rfl rfl

/-! ### The expiry (R39) -/

/-- The state in which the set is computed: the timer has run out, and the interval number has advanced. -/
def State.counted (s : State) (timer : Timer) : State :=
  { s with
    clock := max s.clock (timer.startedAt + timer.length), engine := { s.engine with interval := s.engine.interval + 1 } }

theorem State.computeSet_counted (s : State) (timer : Timer) : (s.counted timer).computeSet =
    ⟨s.engine.interval + 1, s.decideDirection, s.members.map fun k => (k, s.setOrder k)⟩ := rfl

/-- The state before the hand-over: the pace that the set was computed with is held (R58). -/
def State.paced (s : State) (timer : Timer) : State :=
  { s.counted timer with engine := { (s.counted timer).engine with pEff := s.effectivePace } }

/-- The set taken by the towers, and held by the engine and the line. -/
def State.ordered (s : State) (timer : Timer) : State :=
  { s with
    clock := max s.clock (timer.startedAt + timer.length)
    table := ((s.paced timer).takeOrders s.members s.setOrder s.decideDirection).table
    engine := ⟨s.engine.timer, s.engine.interval + 1, s.decideDirection, s.effectivePace⟩
    span := { s.span with setInterval := some (s.engine.interval + 1) } }

/-- An expiry with nothing pending, up to the test of STOPPING. -/
def State.handed (s : State) (timer : Timer) : State :=
  { s.ordered timer with
    engine := { (s.ordered timer).engine with
      timer := some ⟨s.mval .driveInterval, max s.clock (timer.startedAt + timer.length)⟩ }
    span := if s.span.mode = .active ∧ s.span.slot = none then (s.ordered timer).beginDriveRound.span
      else (s.ordered timer).span }

theorem State.ordered_table (s : State) (timer : Timer) :
    (s.ordered timer).table.machine = s.table.machine ∧ (s.ordered timer).table.pending = s.table.pending := by
  obtain ⟨-, kept⟩ := (s.paced timer).takeOrders_frame s.members s.setOrder s.decideDirection
  exact kept

theorem State.handSet_counted (s : State) (timer : Timer) : (s.paced timer).handSet (s.counted timer).computeSet =
    { s.ordered timer with span := (s.handed timer).span } := by
  obtain ⟨frame, -, -⟩ := (s.paced timer).takeOrders_frame s.members s.setOrder s.decideDirection
  have taken : (s.paced timer).handSet (s.counted timer).computeSet =
      let o := s.ordered timer
      if s.span.mode = .active ∧ s.span.slot = none then o.beginDriveRound else o := by
    unfold State.handSet
    rw [s.computeSet_counted]
    dsimp only
    rw [List.foldl_map]
    dsimp only [State.takeOrders] at frame
    rw [frame]
    rfl
  rw [taken]
  unfold State.handed
  dsimp only
  split
  · exact State.beginDriveRound_frame _
  · rfl

theorem State.intervalExpires_eq {timer : Timer} (running : s.engine.timer = some timer) (noPending : s.table.pending = []) :
    s.intervalExpires = (s.handed timer).stoppingTest := by
  unfold State.intervalExpires
  rw [running]
  dsimp only
  rw [State.applyPending_nil (by exact noPending)]
  have interval : (s.ordered timer).mval .driveInterval = s.mval .driveInterval :=
    State.mval_of_machine (s.ordered_table timer).1 _
  refine (congrArg (fun t : State => State.stoppingTest { t with
    engine := { t.engine with timer := some (t.startTimer (t.mval .driveInterval)) } }) (s.handSet_counted timer)).trans ?_
  change State.stoppingTest { s.ordered timer with
    span := (s.handed timer).span
    engine := { (s.ordered timer).engine with
      timer := some ((s.ordered timer).startTimer ((s.ordered timer).mval .driveInterval)) } } = _
  rw [interval]
  rfl

theorem State.ordered_tower {timer : Timer} {k : Nat} (h1 : 1 ≤ k) (hk : k ≤ s.towerCount) (h2 : k ≤ 16) :
    (s.ordered timer).tower k = ⟨(s.tower k).cfg, (s.tower k).dyn.takeOrder (s.setOrder k) s.decideDirection⟩ :=
  State.takeOrders_tower (s := s.paced timer) s.members_nodup (s.mem_members.2 ⟨h1, hk⟩) h1 h2 _ _

theorem State.ordered_tower_of_gt {timer : Timer} {k : Nat} (hk : s.towerCount < k) :
    (s.ordered timer).tower k = s.tower k :=
  State.takeOrders_tower_of_not_mem (s := s.paced timer) (fun mem => Nat.not_lt.2 (s.mem_members.1 mem).2 hk) _ _

/-- The line holds the set's interval number, and a round begins where the line is free for one. -/
theorem State.handed_span_stays {timer : Timer}
    (h : s.span.mode = .quiet ∨ s.span.slot ≠ none ∨ s.towerCount = 0 ∨ s.run.mstate = .unconfigured) :
    (s.handed timer).span = { s.span with setInterval := some (s.engine.interval + 1) } := by
  have towers : (s.ordered timer).towerCount = s.towerCount := State.towerCount_of_machine (s.ordered_table timer).1
  unfold State.handed
  dsimp only
  split
  next free =>
    have none : ¬ (1 ≤ s.towerCount ∧ s.run.mstate ≠ .unconfigured) := by
      obtain ⟨active, noSlot⟩ := free
      rintro ⟨some, configured⟩
      rcases h with quiet | slot | zero | unconfigured
      · simp [active] at quiet
      · exact slot noSlot
      · omega
      · exact configured unconfigured
    have stays : (s.ordered timer).beginDriveRound = s.ordered timer := if_neg (towers ▸ none)
    rw [stays]
    rfl
  · rfl

theorem State.handed_span_begins {timer : Timer} (active : s.span.mode = .active) (free : s.span.slot = none)
    (some : 1 ≤ s.towerCount) (configured : s.run.mstate ≠ .unconfigured) :
    let now := max s.clock (timer.startedAt + timer.length)
    (s.handed timer).span = { s.span with
          setInterval := .some (s.engine.interval + 1)
          slot := .some ⟨.drive, 1, .sending, s.engine.interval + 1, ((s.ordered timer).tower 1).dyn.lastDirection,
            ((s.ordered timer).tower 1).dyn.lastOrder,
            max 5 (min 255 (((s.mval .missLimit + 1) * s.mval .driveInterval + 99) / 100)), now, now, false⟩
          lastLine := setNth s.span.lastLine 1 (.some ((s.ordered timer).tower 1).dyn.lastOrder) } := by
  obtain ⟨machine, -⟩ := s.ordered_table timer
  have towers : (s.ordered timer).towerCount = s.towerCount := State.towerCount_of_machine machine
  have hold : (s.ordered timer).holdTime =
      max 5 (min 255 (((s.mval .missLimit + 1) * s.mval .driveInterval + 99) / 100)) := by
    unfold State.holdTime ceilDiv clampNat
    rw [State.mval_of_machine machine, State.mval_of_machine machine]
    omega
  have begins : (s.ordered timer).beginDriveRound = (s.ordered timer).beginDriveSlot 1 :=
    if_pos ⟨towers ▸ some, configured⟩
  intro now
  unfold State.handed
  dsimp only
  rw [if_pos ⟨active, free⟩, begins, ← hold]
  rfl

/-- Pending tuning is in its fields after an expiry, and nothing is pending (R11). -/
theorem State.intervalExpires_held {timer : Timer} (running : s.engine.timer = some timer) :
    s.intervalExpires.table.pending = [] ∧ ∀ key : FieldKey, key.real → s.intervalExpires.held key = s.setting key := by
  have core : s.intervalExpires.table.core = (s.runOut timer).applyPending.table.core := by
    unfold State.intervalExpires
    rw [running]
    simp [State.handSet_core]
  obtain ⟨-, pending⟩ := TowerTable.core_inj core
  obtain ⟨-, applied, -, -⟩ :=
    State.applyWrites_kept { s.runOut timer with table := { (s.runOut timer).table with pending := [] } } s.table.pending
  refine ⟨pending.trans applied, fun key real => ?_⟩
  rw [State.held_of_core _ core, State.setting_eq]
  refine (State.applyWrites_held _ _ key).trans ?_
  rw [State.writeFields_held _ _ real]
  exact congrArg (lastWritten s.table.pending key) (s.held_of_table rfl rfl key)

theorem exec_driveIntervalExpiry (powered : s.powered = true) :
    exec .driveIntervalExpiry s = .next s.intervalExpires.transmit :=
  congrArg Host.Outcome.next (if_pos powered)

/-- Settles O48: what is pending goes into its fields (`State.intervalExpires_held`); with nothing pending the expiry is
`State.handed` and the test of STOPPING, and each clause reads a part of `State.handed`. -/
theorem driveIntervalExpiryHandsOverTheSet : Obligations.DriveIntervalExpiryHandsOverTheSet := by
  refine ⟨fun s timer powered running => ?_, fun s timer powered running noPending => ?_⟩
  · obtain ⟨pending, held⟩ := State.intervalExpires_held running
    have table := s.intervalExpires.transmit_table
    refine ⟨_, exec_driveIntervalExpiry powered, by rw [table, pending], fun f => ?_, fun k f h1 h2 => ?_⟩
    · rw [State.held_of_eq table, held (.machine f) trivial]
    · rw [State.held_of_eq table, held (.tower k f) ⟨h1, h2⟩]
  · obtain ⟨machine, pending⟩ := s.ordered_table timer
    refine ⟨s.handed timer, s.decideDirection, ?_, ?_, State.decideDirection_of_clear, State.decideDirection_of_not_clear,
      ?_, ?_, ?_, fun k hk => ?_, fun k h1 hk h2 => ?_, State.handed_span_stays, fun active free some configured => ?_⟩
    · rw [← State.intervalExpires_eq running noPending]
      exact exec_driveIntervalExpiry powered
    · rfl
    · rfl
    · exact machine
    · exact pending.trans noPending
    · exact State.ordered_tower_of_gt hk
    · refine (State.ordered_tower h1 hk h2).trans ?_
      rw [s.setOrder_eq]
      rfl
    · exact State.handed_span_begins active free some configured

end Sys2Proof.Machine
end

section
/-! SUPPORT. The span receiver assembles the bytes of a REPORT frame (R60, R182). -/

namespace Sys2Proof.Machine

variable {s : State}

/-- The part with some bytes of a frame assembled. -/
def State.assembling (s : State) (acc : List Byte) : State := { s with span := { s.span with rx := acc } }

theorem State.assembling_nil (h : s.span.rx = []) : s.assembling [] = s := by
  unfold State.assembling
  rw [← h]

/-- A byte that does not end a frame is assembled. -/
theorem State.spanByte_assembles (hears : s.spanDeaf = false) {acc acc' : List Byte} {b : Byte}
    (more : spanRxByte acc b = (acc', none)) : (s.assembling acc).spanByte b = s.assembling acc' := by
  have hears : (s.assembling acc).spanDeaf = false := hears
  unfold State.spanByte
  rw [if_neg (by simp [hears])]
  have rx : (s.assembling acc).span.rx = acc := rfl
  rw [rx, more]
  rfl

/-- Behind the kind byte every byte of a REPORT but its last is assembled. -/
theorem State.spanBytes_assemble (hears : s.spanDeaf = false) {acc bs : List Byte} (begun : 3 ≤ acc.length)
    (short : acc.length + bs.length < 14) : bs.foldl State.spanByte (s.assembling acc) = s.assembling (acc ++ bs) := by
  induction bs generalizing acc with
  | nil => simp
  | cons b bs ih =>
    simp only [List.length_cons] at short
    have more : spanRxByte acc b = (acc ++ [b], none) := by
      match acc, begun with
      | x :: y :: z :: rest, _ =>
        simp only [spanRxByte, List.length_append, List.length_cons, List.length_nil] at short ⊢
        exact if_neg (by omega)
    rw [List.foldl_cons, State.spanByte_assembles hears more,
      ih (by simp; omega) (by simp only [List.length_append, List.length_cons, List.length_nil]; omega), List.append_assoc,
      List.singleton_append]

/-- The fourteenth byte ends the frame, and the report it is, if any, is examined. -/
theorem State.spanByte_ends (hears : s.spanDeaf = false) {acc : List Byte} {b : Byte} (full : acc.length = 13) :
    (s.assembling acc).spanByte b =
      match reportFrameOf (acc ++ [b]) with
      | some f => (s.assembling []).examineReport f
      | none => s.assembling [] := by
  have hears : (s.assembling acc).spanDeaf = false := hears
  have rx : (s.assembling acc).span.rx = acc := rfl
  have ends : spanRxByte acc b = ([], some (acc ++ [b])) := by
    match acc, full with
    | x :: y :: z :: rest, full =>
      simp only [spanRxByte]
      exact if_pos (by simpa using full)
  unfold State.spanByte
  rw [if_neg (by simp [hears]), rx, ends]
  simp only [Option.bind_some]
  rfl

theorem reportFrameOf_bytes (f : ReportFrame) :
    reportFrameOf f.bytes = if (driveStateOf f.driveState).isSome = true then some f else none := by
  have check : u16 (loByte (crc16 f.body)) (hiByte (crc16 f.body)) = crc16 (f.bytes.take 12) := u16_loByte_hiByte _
  have word (w : U16) : u16 (loByte w) (hiByte w) = w := u16_loByte_hiByte w
  have fields : (⟨f.address, f.echo, f.driveState, u16 (loByte f.executing) (hiByte f.executing),
      u16 (loByte f.joint) (hiByte f.joint), u16 (loByte f.wheel) (hiByte f.wheel), f.status⟩ : ReportFrame) = f := by
    simp only [word]
  have read : reportFrameOf f.bytes =
      if u16 (loByte (crc16 f.body)) (hiByte (crc16 f.body)) = crc16 (f.bytes.take 12) ∧
          (driveStateOf f.driveState).isSome = true then
        some ⟨f.address, f.echo, f.driveState, u16 (loByte f.executing) (hiByte f.executing),
          u16 (loByte f.joint) (hiByte f.joint), u16 (loByte f.wheel) (hiByte f.wheel), f.status⟩ else none := rfl
  rw [read, fields]
  exact if_congr (and_iff_right check) rfl rfl

/-- The bytes of a REPORT, received from the first on by a receiver that hunts. -/
theorem State.spanBytes_report (hears : s.spanDeaf = false) (hunts : s.span.rx = []) (f : ReportFrame) :
    f.bytes.foldl State.spanByte s =
      if (driveStateOf f.driveState).isSome = true then s.examineReport f else s := by
  have idle := State.assembling_nil hunts
  have split : f.bytes = [spanStart, f.address, reportKind] ++ (f.bytes.drop 3).take 10 ++ [hiByte (crc16 f.body)] := rfl
  have middle : ((f.bytes.drop 3).take 10).length = 10 := rfl
  have head : [spanStart, f.address, reportKind].foldl State.spanByte s =
      s.assembling [spanStart, f.address, reportKind] := by
    conv_lhs => rw [← idle]
    rw [List.foldl_cons, State.spanByte_assembles hears (acc' := [spanStart]) (by simp [spanRxByte]), List.foldl_cons,
      State.spanByte_assembles hears (acc' := [spanStart, f.address]) rfl, List.foldl_cons,
      State.spanByte_assembles hears (acc' := [spanStart, f.address, reportKind]) (by simp [spanRxByte])]
    rfl
  rw [split, List.foldl_append, List.foldl_append, head, State.spanBytes_assemble hears (by simp) (by simp [middle]),
    List.foldl_cons, List.foldl_nil, State.spanByte_ends hears (by simp [middle]), ← split, reportFrameOf_bytes, idle]
  cases (driveStateOf f.driveState).isSome <;> rfl

end Sys2Proof.Machine
end

section
/-! SUPPORT. What the taking of a REPORT leaves alone, whatever machine states it brings about: the operations that a report
can set off keep the clock, the inputs, the engine, the watch entries, the held angle, the fault modes and a slot that is not
being sent. -/

namespace Sys2Proof.Machine

variable {s t u : State}

/-- The parts of the state that no report reaches. -/
structure Bearings where
  clock : Nat
  inputs : Inputs
  engine : OrderEngine
  entries : Vector Watch 8
  held : Nat
  modes : ModeTable
  slot : Option Slot

def State.bearings (s : State) : Bearings :=
  ⟨s.clock, s.inputs, s.engine, s.watch.entries, s.angle.held, s.faults.modes, s.span.slot⟩

/-- A slot is in progress whose frame has gone. -/
def State.slotSent (s : State) : Prop := ∃ sl, s.span.slot = some sl ∧ sl.phase ≠ .sending

/-- From s to t the bearings stand, if the frame of the slot in progress has gone. -/
structure State.spares (s t : State) : Prop where
  bearings : s.slotSent → t.bearings = s.bearings

theorem State.spares.refl (s : State) : s.spares s := ⟨fun _ => rfl⟩

theorem State.spares_of_eq (h : t.bearings = s.bearings) : s.spares t := ⟨fun _ => h⟩

theorem State.slotSent_of_bearings (h : t.bearings = s.bearings) (sent : s.slotSent) : t.slotSent := by
  have slot : t.span.slot = s.span.slot := congrArg Bearings.slot h
  unfold State.slotSent
  rwa [slot]

theorem State.spares.trans (first : s.spares t) (second : t.spares u) : s.spares u :=
  ⟨fun sent => (second.bearings (State.slotSent_of_bearings (first.bearings sent) sent)).trans (first.bearings sent)⟩

theorem State.spares.of_eq_left (second : t.spares u) (first : t.bearings = s.bearings) : s.spares u :=
  (State.spares_of_eq first).trans second

theorem State.spares_ite {p : Prop} [Decidable p] (yes : p → s.spares t) (no : ¬p → s.spares u) :
    s.spares (if p then t else u) := by
  split
  next h => exact yes h
  next h => exact no h

/-! ### The shared operations -/

theorem State.spares_queueNotice (subject : Subject) (data : NoticeData) : s.spares (s.queueNotice subject data) :=
  State.spares_of_eq (by simp [State.bearings])

theorem State.spares_cutFrame : s.spares s.cutFrame := by
  refine ⟨?_⟩
  rintro ⟨sl, slot, sent⟩
  unfold State.cutFrame
  rw [slot]
  dsimp only
  rw [if_neg fun ⟨_, sending, _⟩ => sent sending]

theorem State.spares_restartQuiet : s.spares s.restartQuiet := by
  unfold State.restartQuiet
  split <;> exact State.spares_of_eq rfl

/-- The line returns to ACTIVE without a round of its own while a slot is in progress (R79). -/
theorem State.spares_leaveQuiet : s.spares s.leaveQuiet := by
  refine ⟨?_⟩
  rintro ⟨sl, slot, -⟩
  unfold State.leaveQuiet
  dsimp only
  split
  · rw [if_neg (by simp [slot])]
    simp [State.bearings]
  · rfl

theorem State.spares_lineFollows : s.spares s.lineFollows := by
  unfold State.lineFollows
  split
  · exact State.spares_restartQuiet
  split
  · exact State.spares_leaveQuiet.trans (State.spares_of_eq rfl)
  · exact State.spares_leaveQuiet

theorem State.spares_angleFollows : s.spares s.angleFollows := by
  refine State.spares_of_eq ?_
  unfold State.angleFollows State.discardWindows
  dsimp only
  split <;> rfl

theorem State.spares_levelsFollow (was : MState) : s.spares (s.levelsFollow was) := by
  unfold State.levelsFollow
  split <;> exact State.spares_of_eq rfl

theorem State.spares_marksFollow : s.spares s.marksFollow :=
  State.spares_of_eq (by simp [State.bearings])

theorem State.spares_enter (m : MState) (d : Option Destination) (r : Option PassEnd) (o : Option Origin) :
    s.spares (s.enter m d r o) := by
  have queued : s.spares ((s.setMachine m d r o).queueNotice .machine (.state m d)) :=
    (State.spares_queueNotice ..).of_eq_left (by rfl)
  have record (u : State) : u.spares u.recordFollows := State.spares_of_eq (by simp [State.bearings])
  exact ((((queued.trans (record _)).trans State.spares_lineFollows).trans State.spares_angleFollows).trans
    (State.spares_levelsFollow _)).trans State.spares_marksFollow

theorem State.spares_redirect (d : Destination) (r : Option PassEnd) : s.spares (s.redirect d r) :=
  State.spares_of_eq (by simp [State.bearings])

theorem State.spares_endPass (r : PassEnd) : s.spares (s.endPass r) :=
  State.spares_of_eq (by simp [State.bearings])

theorem State.spares_setRun (f : RunController → RunController) : s.spares (s.setRun f) := State.spares_of_eq rfl

theorem State.spares_prestartTest : s.spares s.prestartTest :=
  State.spares_ite (fun _ => (State.spares_setRun _).trans (State.spares_enter ..)) fun _ => .refl s

theorem State.spares_enterPrestart (o : Origin) : s.spares (s.enterPrestart o) :=
  ((State.spares_enter ..).of_eq_left (by rfl)).trans State.spares_prestartTest

theorem State.spares_stoppingTest : s.spares s.stoppingTest := by
  have cut (f : RunController → RunController) : s.spares (s.setRun f).cutFrame :=
    (State.spares_setRun f).trans State.spares_cutFrame
  refine State.spares_ite (fun _ => ?_) fun _ => .refl s
  dsimp only
  split
  · exact ((cut _).trans (State.spares_endPass _)).trans (State.spares_enter ..)
  · exact (cut _).trans (State.spares_enter ..)
  · exact ((cut _).trans (State.spares_setRun _)).trans (State.spares_enterPrestart _)
  · exact .refl s

theorem State.spares_enterStopping (d : Destination) (r : Option PassEnd) : s.spares (s.enterStopping d r) :=
  ((State.spares_enter ..).of_eq_left (by rfl)).trans State.spares_stoppingTest

theorem State.spares_holdRequest : s.spares s.holdRequest := by
  unfold State.holdRequest
  split
  · exact State.spares_enterStopping ..
  · exact (State.spares_setRun _).trans (State.spares_enter ..)
  · exact State.spares_ite (fun _ => State.spares_redirect ..) fun _ => .refl s
  · exact .refl s

theorem State.spares_setDyn (k : Nat) (f : TowerDynamic → TowerDynamic) : s.spares (s.setDyn k f) := State.spares_of_eq rfl

theorem State.spares_foldl {α : Type} {f : State → α → State} (step : ∀ (s : State) (a : α), s.spares (f s a))
    (as : List α) : s.spares (as.foldl f s) := by
  induction as generalizing s with
  | nil => exact .refl s
  | cons a as ih => exact (step s a).trans ih

theorem State.spares_zeroOrders : s.spares s.zeroOrders :=
  (State.spares_foldl (fun _ _ => State.spares_setDyn ..) _).trans State.spares_cutFrame

theorem State.spares_tripRequest (k : FaultKind) : s.spares (s.tripRequest k) := by
  refine State.spares_ite (fun _ => ?_) fun _ => .refl s
  exact State.spares_zeroOrders.trans (((State.spares_endPass _).of_eq_left (by rfl)).trans (State.spares_enter ..))

/-! ### Raisings (R136 to R140) -/

theorem State.spares_latchKind (k : FaultKind) (t : Option Nat) : s.spares (s.latchKind k t) := State.spares_of_eq rfl

theorem State.spares_chainClears : s.spares s.chainClears :=
  State.spares_ite (fun _ => State.spares_of_eq rfl) fun _ => .refl s

theorem State.spares_removeRecords (sel : FaultRecord → Bool) : s.spares (s.removeRecords sel) := by
  have unfreeze (u : State) (r : FaultRecord) : u.spares (u.unfreeze r) := by
    unfold State.unfreeze
    split
    · exact State.spares_setDyn ..
    · exact .refl u
  exact (State.spares_foldl unfreeze _).of_eq_left (by rfl)

theorem State.spares_recordRaising (k : FaultKind) (t : Option Nat) : s.spares (s.recordRaising k t).1 := by
  unfold State.recordRaising
  dsimp only
  repeat' split
  any_goals exact State.spares_of_eq rfl
  all_goals exact (State.spares_removeRecords _).trans (State.spares_of_eq rfl)

theorem State.spares_raise (k : FaultKind) (t : Option Nat) : s.spares (s.raise k t) := by
  have act (u : State) (r : Raising) : u.spares (u.actOnRaising k r) := by
    unfold State.actOnRaising
    split
    · exact State.spares_ite (fun _ => State.spares_holdRequest) fun _ => .refl u
    · exact .refl u
    · exact State.spares_tripRequest k
  have freeze (u : State) (r : Raising) : u.spares (u.freezeSlip k t r) := by
    unfold State.freezeSlip
    split
    · exact State.spares_ite (fun _ => State.spares_setDyn ..) fun _ => .refl u
    · exact .refl u
  exact (((State.spares_recordRaising k t).trans (freeze _ _)).trans (State.spares_queueNotice ..)).trans (act _ _)

/-! ### The examinations of a report (R26 to R35, R141 to R143, R72) -/

theorem State.spares_slipExamine (k : Nat) (r : Report) : s.spares (s.slipExamine k r) := by
  have closes (w : SlipWindow) : s.spares (s.closeWindow k w r.wheel) := by
    unfold State.closeWindow
    dsimp only
    refine State.spares_ite (fun _ => ?_) fun _ => State.spares_of_eq rfl
    exact (State.spares_raise ..).of_eq_left (by rfl)
  unfold State.slipExamine
  split
  · exact State.spares_ite (fun _ => closes _) fun _ => .refl s
  · exact State.spares_ite (fun _ => State.spares_of_eq rfl) fun _ => .refl s

theorem State.spares_stallExamine (k : Nat) (p : Option Report) (r : Report) : s.spares (s.stallExamine k p r) := by
  unfold State.stallExamine
  dsimp only
  repeat' split
  all_goals exact State.spares_of_eq rfl

theorem State.spares_haltExamine (k : Nat) (r : Report) : s.spares (s.haltExamine k r).1 := by
  unfold State.haltExamine
  dsimp only
  repeat' split
  all_goals dsimp only
  · exact ((State.spares_setDyn ..).trans (State.spares_raise ..)).trans (State.spares_setDyn ..)
  · exact State.spares_setDyn ..
  · exact State.spares_setDyn ..

theorem State.spares_warnCheck (k a : Nat) : s.spares (s.warnCheck k a) := by
  unfold State.warnCheck
  dsimp only
  refine State.spares_ite (fun _ => State.spares_ite (fun _ => ?_) fun _ => State.spares_setDyn ..) fun _ => ?_
  · exact (State.spares_setDyn ..).trans (State.spares_raise ..)
  · exact State.spares_of_eq rfl

theorem State.spares_tripCheck (k a : Nat) : s.spares (s.tripCheck k a) := by
  unfold State.tripCheck
  refine State.spares_ite (fun _ => State.spares_ite (fun _ => .refl s) fun _ => ?_) fun _ => State.spares_of_eq rfl
  exact (State.spares_raise ..).of_eq_left (by rfl)

theorem State.spares_faultExamine (k : Nat) (r : Report) : s.spares (s.faultExamine k r) := by
  have switch (u : State) : u.spares (u.switchCheck k r) :=
    State.spares_ite (fun _ => State.spares_raise ..) fun _ => .refl u
  have joints : s.spares (if k < s.towerCount then
      (s.warnCheck k (jointAngle (some r)).natAbs).tripCheck k (jointAngle (some r)).natAbs else s) :=
    State.spares_ite (fun _ => (State.spares_warnCheck ..).trans (State.spares_tripCheck ..)) fun _ => .refl s
  exact (joints.trans (switch _)).trans State.spares_chainClears

theorem State.spares_judgeReport (kind : SlotKind) (d : TowerDynamic) (r : Report) (drift : Bool) :
    s.spares (s.judgeReport kind d r drift) := by
  have line : s.spares (if s.span.mode = .active then s.restartQuiet else s.leaveQuiet) :=
    State.spares_ite (fun _ => State.spares_restartQuiet) fun _ => State.spares_leaveQuiet
  unfold State.judgeReport
  split
  · exact State.spares_ite (fun _ => .refl s) fun _ => State.spares_leaveQuiet
  · exact State.spares_ite (fun _ => line) fun _ => .refl s

theorem State.spares_takeReport (kind : SlotKind) (k : Nat) (f : ReportFrame) : s.spares (s.takeReport kind k f) := by
  have latched (u : State) : u.spares ((u.latchKind .linkMiss (some k)).latchKind .linkLost (some k)) :=
    State.spares_of_eq rfl
  unfold State.takeReport
  dsimp only
  refine (State.spares.trans ?_ State.spares_prestartTest).trans State.spares_stoppingTest
  refine (State.spares.trans ?_ (State.spares_faultExamine ..)).trans (State.spares_judgeReport ..)
  refine ((State.spares.trans ?_ (State.spares_slipExamine ..)).trans (State.spares_stallExamine ..)).trans
    (State.spares_haltExamine ..)
  generalize hu : (if (s.tower k).dyn.link = .missing ∨ (s.tower k).dyn.link = .lost then _ else _) = u
  have linked : s.spares u := by
    subst hu
    exact State.spares_ite (fun _ => (State.spares_setDyn ..).trans (latched _)) fun _ => State.spares_setDyn ..
  exact State.spares_ite (fun _ => linked.trans (State.spares_raise ..)) fun _ => linked

end Sys2Proof.Machine
end

section
/-! SUPPORT. A REPORT taken, from its bytes to the record (R60, R65 to R72). -/

namespace Sys2Proof.Machine

variable {s : State}

/-- A report fits the slot in progress (R65, R67). -/
def State.fits (s : State) (f : ReportFrame) (sl : Slot) : Prop :=
  s.span.slot = some sl ∧ sl.phase = .window ∧ sl.left = false ∧ f.address.toNat = sl.tower ∧ f.echo = sl.interval

theorem State.examineReport_fits {f : ReportFrame} {sl : Slot} (fits : s.fits f sl) :
    s.examineReport f = (s.setPhase sl .waiting).takeReport sl.kind sl.tower f := by
  obtain ⟨slot, rest⟩ := fits
  unfold State.examineReport
  rw [slot]
  exact if_pos rest

theorem State.examineReport_not_fits {f : ReportFrame} (h : ¬ ∃ sl, s.fits f sl) : s.examineReport f = s := by
  unfold State.examineReport
  split
  next sl slot => exact if_neg fun rest => h ⟨sl, slot, rest⟩
  · rfl

/-- The receiver hears while no frame is being sent. -/
theorem State.hears_of_not_sending (h : ∀ sl, s.span.slot = some sl → sl.phase ≠ .sending) : s.spanDeaf = false := by
  unfold State.spanDeaf
  split
  next sl slot => simpa using h sl slot
  · rfl

/-- REPORT_RECEIVED with the bytes of a REPORT. -/
theorem exec_reportReceived (powered : s.powered = true) (hunts : s.span.rx = [])
    (gone : ∀ sl, s.span.slot = some sl → sl.phase ≠ .sending) (f : ReportFrame) :
    exec (.reportReceived f.bytes) s =
      .next (if (driveStateOf f.driveState).isSome = true then s.examineReport f else s).transmit := by
  rw [← State.spanBytes_report (State.hears_of_not_sending gone) hunts]
  exact congrArg Host.Outcome.next (if_pos powered)

theorem exec_reportReceived_named (powered : s.powered = true) (hunts : s.span.rx = [])
    (gone : ∀ sl, s.span.slot = some sl → sl.phase ≠ .sending) {f : ReportFrame} {ds : DriveState}
    (names : driveStateOf f.driveState = some ds) :
    exec (.reportReceived f.bytes) s = .next (s.examineReport f).transmit := by
  rw [exec_reportReceived powered hunts gone, if_pos (by simp [names])]

/-- The report record of a frame whose drive state code names a drive state (R6). -/
theorem reportOf_eq {f : ReportFrame} {ds : DriveState} (h : driveStateOf f.driveState = some ds) (k n clock : Nat) :
    reportOf k n clock f =
      { driveState := ds, executing := min 1000 f.executing.toNat
        joint := if k = n ∨ f.joint = 0x8000 then none else some (max (-3000) (min 3000 f.joint.toInt))
        wheel := f.wheel, switchClosed := f.status.getLsbD 0, supplyOk := f.status.getLsbD 1, takenAt := clock } := by
  have clamp (v : Int) : clampInt (-3000) 3000 v = max (-3000) (min 3000 v) := by
    unfold clampInt
    omega
  unfold reportOf jointOf executingOf
  rw [h, clamp]
  rfl

/-- The LINK_MISS and LINK_LOST records of tower k latched (R69). -/
theorem State.latchLinks_eq (s : State) (k : Nat) : (s.latchKind .linkMiss (some k)).latchKind .linkLost (some k) =
    { s with faults := { s.faults with records := s.faults.records.map fun e =>
      if (e.kind = .linkMiss ∨ e.kind = .linkLost) ∧ e.tower = some k then { e with condition := .latched } else e } } := by
  have first := latch_records s fun r => r.kind == .linkMiss && r.tower == some k
  have second := latch_records (s.latchKind .linkMiss (some k)) fun r => r.kind == .linkLost && r.tower == some k
  have records : ((s.latchKind .linkMiss (some k)).latchKind .linkLost (some k)).faults.records =
      s.faults.records.map fun e =>
        if (e.kind = .linkMiss ∨ e.kind = .linkLost) ∧ e.tower = some k then { e with condition := .latched } else e := by
    refine second.trans ?_
    unfold State.latchKind
    rw [first, List.map_map]
    refine List.map_congr_left fun e _ => ?_
    by_cases tower : e.tower = some k <;> by_cases miss : e.kind = .linkMiss <;> simp [tower, miss]
  rw [← records]
  rfl

/-- Tower k's record, and the link faults that a report clears, after the report r. -/
def State.recorded (s : State) (k : Nat) (r : Report) : State :=
  let was := (s.tower k).dyn
  { s with
    table := { s.table with towers := setNth s.table.towers k { s.tower k with
      dyn := { was with report := some r, misses := 0, link := .online, status := towerStatus .online (some r) } } }
    faults := { s.faults with records := s.faults.records.map fun e =>
      if (was.link = .missing ∨ was.link = .lost) ∧ (e.kind = .linkMiss ∨ e.kind = .linkLost) ∧ e.tower = some k then
        { e with condition := .latched } else e } }

theorem State.recorded_eq (s : State) (k : Nat) (r : Report) :
    (let was := (s.tower k).dyn
      let a := s.setDyn k fun d => d.takeReport r
      if was.link = .missing ∨ was.link = .lost then (a.latchKind .linkMiss (some k)).latchKind .linkLost (some k) else a) =
      s.recorded k r := by
  unfold State.recorded
  dsimp only
  split
  next out =>
    rw [State.latchLinks_eq]
    simp only [out, true_and]
    rfl
  next linked =>
    simp only [linked, false_and, if_false, List.map_id']
    rfl

/-- The taking of a REPORT, step by step (R69). -/
theorem State.takeReport_eq (s : State) (kind : SlotKind) {k : Nat} (h1 : 1 ≤ k) (h2 : k ≤ 16) (f : ReportFrame) :
    let was := (s.tower k).dyn
    let r := reportOf k s.towerCount s.clock f
    let taken := s.recorded k r
    let driven := if r.driveState = .fault ∧ 0 < was.lastOrder then taken.raise .driveFault (some k) else taken
    let halted := ((driven.slipExamine k r).stallExamine k was.report r).haltExamine k r
    s.takeReport kind k f =
      ((halted.1.faultExamine k r).judgeReport kind was r halted.2).prestartTest.stoppingTest := by
  dsimp only
  have order : ((s.recorded k (reportOf k s.towerCount s.clock f)).tower k).dyn.lastOrder = (s.tower k).dyn.lastOrder :=
    congrArg (·.dyn.lastOrder) (nth_setNth_self s.table.towers h1 h2 _ _)
  rw [← order, ← State.recorded_eq]
  rfl

/-- The judgement of a report by its slot's kind (R72, R78). -/
theorem State.judgeReport_eq (s : State) (kind : SlotKind) (was : TowerDynamic) (r : Report) (drift : Bool) :
    s.judgeReport kind was r drift =
      if kind = .survey then
        (if r.driveState = .resting ∧ r.switchClosed = true ∧ drift = false then s else s.leaveQuiet)
      else if showsChange was r drift = true then (if s.span.mode = .active then s.restartQuiet else s.leaveQuiet)
      else s := by
  have clean : surveyClean r drift = true ↔ r.driveState = .resting ∧ r.switchClosed = true ∧ drift = false := by
    simp [surveyClean, and_assoc]
  cases kind with
  | survey => exact (if_congr clean rfl rfl).trans (if_pos rfl).symm
  | _ => rfl

/-- What stands when a REPORT has been taken (R69). -/
theorem State.taken_stands {f : ReportFrame} {sl : Slot} (fits : s.fits f sl) :
    let t := s.examineReport f
    t.bearings = { s.bearings with slot := some { sl with phase := .waiting } } ∧
    t.table.core = (s.setDyn sl.tower fun d => d.takeReport (reportOf sl.tower s.towerCount s.clock f)).table.core ∧
    t.store.core = s.store.core := by
  have sent : (s.setPhase sl .waiting).slotSent := ⟨_, rfl, nofun⟩
  obtain ⟨table, store⟩ := (s.setPhase sl .waiting).takeReport_core sl.kind sl.tower f
  dsimp only
  rw [State.examineReport_fits fits]
  exact ⟨(State.spares_takeReport ..).bearings sent, table, store⟩

/-- Settles O54: the receiver assembles the frame (`State.spanBytes_report`); the operations that a report sets off spare what
it does not reach (`State.spares_takeReport`, `State.takeReport_core`); and its taking is read off step by step
(`State.takeReport_eq`). -/
theorem reportsAreTakenIntoTheRecord : Obligations.ReportsAreTakenIntoTheRecord := by
  refine ⟨fun s f powered hunts gone => ⟨fun unfit => ?_, fun sl ds fits names h1 h2 => ?_⟩,
    fun s f sl ds powered hunts slot window stays address echo names h1 h2 => ?_⟩
  · rw [exec_reportReceived powered hunts gone]
    refine congrArg (fun t : State => Host.Outcome.next t.transmit) ?_
    rcases unfit with unnamed | unfit
    · exact if_neg (by simp [unnamed])
    · rw [State.examineReport_not_fits unfit, ite_self]
  · rw [exec_reportReceived_named powered hunts gone names]
    obtain ⟨bearings, table, store⟩ := State.taken_stands fits
    have record := reportOf_eq names sl.tower s.towerCount s.clock
    generalize reportOf sl.tower s.towerCount s.clock f = r at table record
    generalize s.examineReport f = t at *
    have tower (j : Nat) := TowerRecord.core_inj (State.tower_core_of_eq table j)
    have own := s.setDyn_tower_self h1 h2 fun d => d.takeReport r
    obtain ⟨machine, pending⟩ := TowerTable.core_inj table
    obtain ⟨stored, -, -⟩ := ConfigStore.core_inj store
    obtain ⟨clock, inputs, engine, entries, held, modes, slot⟩ := Bearings.mk.inj bearings
    obtain ⟨cfg, report, link, misses, status⟩ := own ▸ tower sl.tower
    have sent (j : Nat) := State.tower_of_table t.transmit_table j
    refine ⟨_, rfl, ?_⟩
    simp only [sent, State.transmit_span, State.transmit_clock, State.transmit_inputs, State.transmit_table,
      State.transmit_engine, State.transmit_store, State.transmit_watch, State.transmit_angle, State.transmit_faults]
    refine ⟨slot, clock, inputs, machine, pending, engine, stored, entries, held, modes, cfg, record ▸ report, misses, link, ?_,
      fun j hj => ?_⟩
    · rw [status, record]
      cases ds <;> rfl
    · obtain ⟨cfg, report, link, misses, -⟩ := s.setDyn_tower_of_ne hj _ ▸ tower j
      exact ⟨cfg, report, link, misses⟩
  · have fits : s.fits f sl := ⟨slot, window, stays, address, echo⟩
    have gone : ∀ u, s.span.slot = some u → u.phase ≠ .sending := by
      rintro u hu
      cases slot.symm.trans hu
      simp [window]
    rw [exec_reportReceived_named powered hunts gone names, State.examineReport_fits fits, State.takeReport_eq _ _ h1 h2]
    intro k was status r taken driven rolled halted a bent switched changes judged
    have record : reportOf k (s.setPhase sl .waiting).towerCount (s.setPhase sl .waiting).clock f = r := reportOf_eq names ..
    have took : (s.setPhase sl .waiting).recorded k r = taken := rfl
    have count : halted.1.towerCount = s.towerCount := by
      have raised : driven.table.core = taken.table.core := by
        by_cases fault : ds = .fault ∧ 0 < was.lastOrder
        · exact (congrArg (fun u : State => u.table.core) (if_pos fault)).trans (State.raise_core ..).1
        · exact congrArg (fun u : State => u.table.core) (if_neg fault)
      have examined : halted.1.table.core = driven.table.core :=
        ((State.haltExamine_core ..).1.trans (State.stallExamine_core ..).1).trans (State.slipExamine_core ..).1
      exact State.towerCount_of_machine (TowerTable.core_inj (examined.trans raised)).1
    have examined : halted.1.faultExamine k r = switched := by
      unfold State.faultExamine
      rw [count]
      rfl
    have change : showsChange was r halted.2 = changes := rfl
    have judges : switched.judgeReport sl.kind was r halted.2 = judged := by
      rw [State.judgeReport_eq, change]
    rw [← judges, ← examined]
    rw [record, took]
    rfl

end Sys2Proof.Machine
end

section
/-! SUPPORT. Laws 9 and 12 (R28, R1) as one relation between two states, with a rule for each shared operation: what a slip
factor and an angle of the pivot are read from, and that an operation keeps both laws. -/

namespace Sys2Proof.Machine

variable {s t u : State}

/-! ### What the two laws look at -/

/-- The angles of a fault record. -/
def FaultRecord.angles (r : FaultRecord) : Prop := isAngle r.firstAngle ∧ isAngle r.lastAngle

/-- The parts of the state that hold slip factors or angles of the pivot. -/
structure Measures where
  towers : Vector TowerRecord 16
  held : Nat
  previous : Option Nat
  halt : Option Nat
  pass : Option Pass
  record : RetainedRecord
  installed : List Sector
  pending : Option (List Sector)
  build : Option (List Sector)
  entries : Vector Watch 8
  records : List FaultRecord
  stored : StoredCopy
  writing : Option ConfigImage

def State.measures (s : State) : Measures where
  towers := s.table.towers
  held := s.angle.held
  previous := s.angle.previous
  halt := s.angle.haltAngle
  pass := s.run.pass
  record := s.store.record
  installed := s.sectors.installed
  pending := s.sectors.pending
  build := s.sectors.build
  entries := s.watch.entries
  records := s.faults.records
  stored := s.store.stored
  writing := s.store.writing

/-- Law 9 on the measures. -/
def Measures.bounded (m : Measures) : Prop := ∀ k, (nth m.towers k ⟨.empty, .reset⟩).dyn.slip ≤ 300

/-- Law 12 on the measures. -/
structure Measures.angular (m : Measures) : Prop where
  held : isAngle m.held
  previous : ∀ a, m.previous = some a → isAngle a
  halt : ∀ a, m.halt = some a → isAngle a
  pass : ∀ p, m.pass = some p → p.angles
  retained : ∀ p, m.record.pass = some p → p.angles
  captured : ∀ a v, m.record.captured = some (a, v) → isAngle a
  installed : ∀ c ∈ m.installed, c.angles
  pending : ∀ t, m.pending = some t → ∀ c ∈ t, c.angles
  build : ∀ t, m.build = some t → ∀ c ∈ t, c.angles
  entries : ∀ w ∈ m.entries.toList, isAngle w.cfg.ref
  records : ∀ r ∈ m.records, r.angles
  stored : ∀ i c, m.stored = .written i c → i.angles
  writing : ∀ i, m.writing = some i → i.angles

theorem State.slipBounded_iff : s.slipBounded ↔ s.measures.bounded := Iff.rfl

theorem State.anglesHold_iff : s.anglesHold ↔ s.measures.angular := by
  constructor
  · rintro ⟨held, previous, halt, pass, retained, captured, installed, pending, build, entries, records, stored, writing⟩
    exact { held, previous, halt, pass, retained, captured, installed, pending, build, entries, records, stored, writing }
  · intro h
    exact ⟨h.held, h.previous, h.halt, h.pass, h.retained, h.captured, h.installed, h.pending, h.build, h.entries, h.records,
      h.stored, h.writing⟩

/-- From s to t both laws are kept, each for itself. -/
structure State.keeps (s t : State) : Prop where
  slips : s.measures.bounded → t.measures.bounded
  angles : s.measures.angular → t.measures.angular

theorem State.keeps.refl (s : State) : s.keeps s := ⟨id, id⟩

theorem State.keeps.trans (first : s.keeps t) (second : t.keeps u) : s.keeps u :=
  ⟨second.slips ∘ first.slips, second.angles ∘ first.angles⟩

theorem State.keeps_of_eq (h : t.measures = s.measures) : s.keeps t := ⟨h ▸ id, h ▸ id⟩

theorem State.keeps.of_eq_left (second : t.keeps u) (first : t.measures = s.measures) : s.keeps u :=
  (State.keeps_of_eq first).trans second

theorem State.keeps.of_eq_right (first : s.keeps t) (second : u.measures = t.measures) : s.keeps u :=
  first.trans (State.keeps_of_eq second)

theorem State.keeps_ite {p : Prop} [Decidable p] (yes : p → s.keeps t) (no : ¬p → s.keeps u) :
    s.keeps (if p then t else u) := by
  split
  next h => exact yes h
  next h => exact no h

theorem State.keeps_foldl {α : Type} {f : State → α → State} (step : ∀ (s : State) (a : α), s.keeps (f s a))
    (as : List α) : s.keeps (as.foldl f s) := by
  induction as generalizing s with
  | nil => exact .refl s
  | cons a as ih => exact (step s a).trans ih

/-- Where no tower record changes, only the angles are at stake. -/
theorem State.keeps_angles (towers : t.table.towers = s.table.towers)
    (angles : s.measures.angular → t.measures.angular) : s.keeps t := by
  refine ⟨fun h k => ?_, angles⟩
  have := h k
  rwa [← show t.measures.towers = s.measures.towers from towers] at this

/-- Where only tower records change, only the slip factors are at stake. -/
theorem State.keeps_slips (others : t.measures = { s.measures with towers := t.table.towers })
    (slips : s.measures.bounded → ∀ k, (t.tower k).dyn.slip ≤ 300) : s.keeps t := by
  refine ⟨slips, fun h => ?_⟩
  rw [others]
  exact { h with }

/-- One tower's dynamic fields rewritten. -/
theorem State.keeps_setDyn {k : Nat} {f : TowerDynamic → TowerDynamic}
    (h : (s.tower k).dyn.slip ≤ 300 → (f (s.tower k).dyn).slip ≤ 300) : s.keeps (s.setDyn k f) := by
  refine State.keeps_slips rfl fun bounded j => ?_
  by_cases same : j = k
  · subst same
    by_cases hj : 1 ≤ j ∧ j ≤ 16
    · rw [s.setDyn_tower_self hj.1 hj.2]
      exact h (bounded j)
    · rw [State.tower_of_not_mem _ hj]
      exact Nat.zero_le _
  · rw [s.setDyn_tower_of_ne same]
    exact bounded j

/-- The run controller rewritten, with the pass it had or an altered one. -/
theorem State.keeps_setRun {f : RunController → RunController}
    (h : s.measures.angular → ∀ p, (f s.run).pass = some p → p.angles) : s.keeps (s.setRun f) :=
  State.keeps_angles rfl fun angular => { angular with pass := h angular }

theorem State.keeps_setRun_same {f : RunController → RunController} (h : (f s.run).pass = s.run.pass) :
    s.keeps (s.setRun f) := State.keeps_setRun fun angular p hp => angular.pass p (h.symm.trans hp)

theorem State.keeps_setPass {f : Pass → Pass} (h : ∀ p, p.angles → (f p).angles) : s.keeps (s.setPass f) := by
  refine State.keeps_setRun fun angular p hp => ?_
  obtain ⟨q, hq, rfl⟩ := Option.map_eq_some_iff.1 hp
  exact h q (angular.pass q hq)

/-- The records of the fault list replaced by others with angles of the pivot. -/
theorem State.keeps_setRecords {f : FaultList}
    (h : s.measures.angular → ∀ r ∈ f.records, r.angles) : s.keeps { s with faults := f } :=
  State.keeps_angles rfl fun angular => { angular with records := h angular }

/-- The records of the fault list rewritten one by one. -/
theorem State.keeps_mapRecords {f : FaultList} {g : FaultRecord → FaultRecord}
    (mapped : f.records = s.faults.records.map g) (h : ∀ r, r.angles → (g r).angles) : s.keeps { s with faults := f } := by
  refine State.keeps_setRecords fun angular r hr => ?_
  rw [mapped] at hr
  obtain ⟨e, he, rfl⟩ := List.mem_map.1 hr
  exact h e (angular.records e he)

/-- The installed sectors rewritten one by one, their angles kept. -/
theorem State.keeps_mapSectors {f : Sector → Sector} {c : SectorTable} (installed : c.installed = s.sectors.installed.map f)
    (pending : c.pending = s.sectors.pending) (build : c.build = s.sectors.build)
    (h : ∀ c : Sector, c.angles → (f c).angles) : s.keeps { s with sectors := c } := by
  refine State.keeps_angles rfl fun angular => { angular with
    installed := fun d hd => ?_
    pending := fun t ht => angular.pending t (pending.symm.trans ht)
    build := fun t ht => angular.build t (build.symm.trans ht) }
  change d ∈ c.installed at hd
  rw [installed] at hd
  obtain ⟨e, he, rfl⟩ := List.mem_map.1 hd
  exact h e (angular.installed e he)

theorem Sector.rearm_angles {c : Sector} (h : c.angles) : c.rearm.angles := by
  unfold Sector.rearm
  split <;> exact h

/-! ### Changes of machine state (R84) -/

theorem State.keeps_queueNotice (subject : Subject) (data : NoticeData) : s.keeps (s.queueNotice subject data) :=
  State.keeps_of_eq (by simp [State.measures])

theorem State.keeps_transmit : s.keeps s.transmit := State.keeps_of_eq (by simp [State.measures])

theorem State.keeps_leaveQuiet : s.keeps s.leaveQuiet := State.keeps_of_eq (by simp [State.measures])

theorem State.keeps_cutFrame : s.keeps s.cutFrame := State.keeps_of_eq (by simp [State.measures])

/-- The retained record takes the pass of the run controller (R175). -/
theorem State.keeps_rewriteRecord {c : Option (Nat × Bool)}
    (h : s.measures.angular → ∀ a v, c = some (a, v) → isAngle a) : s.keeps (s.rewriteRecord c) :=
  State.keeps_angles rfl fun angular => { angular with retained := angular.pass, captured := h angular }

theorem State.keeps_recordFollows : s.keeps s.recordFollows := by
  refine State.keeps_ite (fun _ => .refl s) fun _ => State.keeps_rewriteRecord fun angular a v hav => ?_
  split at hav
  · exact angular.captured a v hav
  · cases hav

/-- A recorded halt angle is the held angle (R36). -/
theorem State.keeps_angleFollows : s.keeps s.angleFollows := by
  have windows : s.keeps (if s.run.mstate.moving then s else s.discardWindows) :=
    State.keeps_ite (fun _ => .refl s) fun _ => State.keeps_of_eq rfl
  have recorded (u : State) (p : Prop) [Decidable p] :
      u.keeps { u with angle := { u.angle with haltAngle := if p then some u.angle.held else none } } := by
    refine State.keeps_angles rfl fun angular => { angular with halt := fun a ha => ?_ }
    obtain ⟨-, held⟩ := Option.ite_none_right_eq_some.1 ha
    exact Option.some.inj held ▸ angular.held
  exact windows.trans (recorded _ _)

theorem State.keeps_levelsFollow (was : MState) : s.keeps (s.levelsFollow was) :=
  State.keeps_ite (fun _ => State.keeps_of_eq rfl) fun _ => .refl s

theorem State.keeps_marksFollow : s.keeps s.marksFollow :=
  State.keeps_ite (fun _ => State.keeps_mapSectors rfl rfl rfl fun _ => Sector.rearm_angles) fun _ => .refl s

theorem State.keeps_enterWith (announce : Bool) (m : MState) (d : Option Destination) (r : Option PassEnd)
    (o : Option Origin) : s.keeps (s.enterWith announce m d r o) := by
  have announced (u : State) : u.keeps (if announce then u.queueNotice .machine (.state m d) else u) :=
    State.keeps_ite (fun _ => State.keeps_queueNotice ..) fun _ => .refl u
  have line (u : State) : u.keeps u.lineFollows := State.keeps_of_eq (by simp [State.measures])
  have set : s.keeps (s.setMachine m d r o) := State.keeps_of_eq rfl
  exact ((((set.trans (announced _)).trans State.keeps_recordFollows).trans (line _)).trans State.keeps_angleFollows).trans
    ((State.keeps_levelsFollow _).trans State.keeps_marksFollow)

theorem State.keeps_enter (m : MState) (d : Option Destination) (r : Option PassEnd) (o : Option Origin) :
    s.keeps (s.enter m d r o) := State.keeps_enterWith true m d r o

theorem State.keeps_redirect (d : Destination) (r : Option PassEnd) : s.keeps (s.redirect d r) := by
  have queued : s.keeps (({ s with run := { s.run with dest := some d, reason := r } } : State).queueNotice .machine
      (.state s.run.mstate (some d))) := (State.keeps_queueNotice ..).of_eq_left rfl
  exact queued.trans (State.keeps_rewriteRecord nofun)

theorem State.keeps_endPass (r : PassEnd) : s.keeps (s.endPass r) :=
  (State.keeps_setRun fun _ _ none => by cases none).trans (State.keeps_queueNotice ..)

theorem State.keeps_prestartTest : s.keeps s.prestartTest :=
  State.keeps_ite (fun _ => (State.keeps_setRun_same rfl).trans (State.keeps_enter ..)) fun _ => .refl s

theorem State.keeps_enterPrestart (o : Origin) : s.keeps (s.enterPrestart o) :=
  ((State.keeps_enter ..).of_eq_left (by rfl)).trans State.keeps_prestartTest

theorem State.keeps_turn : s.keeps (s.setPass fun p => { p with direction := p.direction.flip }) :=
  State.keeps_setPass fun _ h => h

theorem State.keeps_stoppingTest : s.keeps s.stoppingTest := by
  have cut : s.keeps (s.setRun fun c => { c with stopTimer := none }).cutFrame :=
    (State.keeps_setRun_same rfl).trans State.keeps_cutFrame
  refine State.keeps_ite (fun _ => ?_) fun _ => .refl s
  dsimp only
  split
  · exact (cut.trans (State.keeps_endPass _)).trans (State.keeps_enter ..)
  · exact cut.trans (State.keeps_enter ..)
  · exact (cut.trans State.keeps_turn).trans (State.keeps_enterPrestart _)
  · exact .refl s

theorem State.keeps_enterStopping (d : Destination) (r : Option PassEnd) : s.keeps (s.enterStopping d r) :=
  ((State.keeps_enter ..).of_eq_left (by rfl)).trans State.keeps_stoppingTest

/-! ### Steering a pass -/

theorem State.keeps_takeStop {r : PassEnd} (h : s.takeStop r = some t) : s.keeps t := by
  unfold State.takeStop at h
  split at h <;> cases h
  · exact State.keeps_enterStopping ..
  · exact State.keeps_enterStopping ..
  · exact State.keeps_ite (fun _ => .refl s) fun _ => State.keeps_redirect ..
  · exact ((State.keeps_setRun_same rfl).trans (State.keeps_endPass _)).trans (State.keeps_enter ..)
  · exact ((State.keeps_setRun_same rfl).trans (State.keeps_endPass _)).trans (State.keeps_enter ..)

theorem State.keeps_takeReverse (h : s.takeReverse = some t) : s.keeps t := by
  unfold State.takeReverse at h
  split at h <;> cases h
  · exact State.keeps_enterStopping ..
  · exact State.keeps_turn.trans (State.keeps_rewriteRecord nofun)

theorem State.keeps_takePace {v : Nat} (h : s.takePace v = some t) : s.keeps t := by
  have pace : s.keeps (s.setPass fun p => { p with pace := clampPace v }) := State.keeps_setPass fun _ h => h
  unfold State.takePace at h
  split at h <;> cases h <;> exact pace

theorem State.keeps_holdRequest : s.keeps s.holdRequest := by
  unfold State.holdRequest
  split
  · exact State.keeps_enterStopping ..
  · exact (State.keeps_setRun_same rfl).trans (State.keeps_enter ..)
  · exact State.keeps_ite (fun _ => State.keeps_redirect ..) fun _ => .refl s
  · exact .refl s

theorem State.keeps_setDyns {f : TowerDynamic → TowerDynamic} (h : ∀ d, (f d).slip = d.slip) (ks : List Nat) :
    s.keeps (s.setDyns ks f) :=
  State.keeps_foldl (fun _ _ => State.keeps_setDyn (h _ ▸ id)) ks

theorem State.keeps_zeroOrders : s.keeps s.zeroOrders :=
  (State.keeps_setDyns (f := fun d => { d with lastOrder := 0, stall := .idle }) (fun _ => rfl) _).trans
    State.keeps_cutFrame

theorem State.keeps_tripRequest (k : FaultKind) : s.keeps (s.tripRequest k) :=
  State.keeps_ite (fun _ => State.keeps_zeroOrders.trans (((State.keeps_endPass _).of_eq_left (by rfl)).trans
    (State.keeps_enter ..))) fun _ => .refl s

/-! ### Faults (R136 to R140, R145, R151) -/

theorem State.keeps_latch (sel : FaultRecord → Bool) : s.keeps (s.latch sel) :=
  State.keeps_mapRecords rfl fun r h => by split <;> exact h

theorem State.keeps_latchKind (k : FaultKind) (t : Option Nat) : s.keeps (s.latchKind k t) := State.keeps_latch _

theorem State.keeps_chainClears : s.keeps s.chainClears :=
  State.keeps_ite (fun _ => State.keeps_latch _) fun _ => .refl s

theorem State.keeps_unfreeze (r : FaultRecord) : s.keeps (s.unfreeze r) := by
  unfold State.unfreeze
  split
  · exact State.keeps_setDyn id
  · exact .refl s

theorem State.keeps_removeRecords (sel : FaultRecord → Bool) : s.keeps (s.removeRecords sel) := by
  have left : s.keeps { s with faults := { s.faults with records := s.faults.records.filter fun r => !sel r } } :=
    State.keeps_setRecords fun angular r hr => angular.records r (List.mem_filter.1 hr).1
  exact left.trans (State.keeps_foldl (fun _ r => State.keeps_unfreeze r) _)

/-- A record added with the held angle in both its places, or with another angle of the pivot (R136, R177). -/
theorem State.keeps_addRecord {r : FaultRecord} (h : s.measures.angular → r.angles) :
    s.keeps { s with faults := { s.faults with records := s.faults.records ++ [r] } } := by
  refine State.keeps_setRecords fun angular e he => ?_
  rcases List.mem_append.1 he with old | new
  · exact angular.records e old
  · rw [List.mem_singleton.1 new]
    exact h angular

/-- A raising records the held angle (R136). -/
theorem State.keeps_recordRaising (k : FaultKind) (t : Option Nat) : s.keeps (s.recordRaising k t).1 := by
  unfold State.recordRaising
  dsimp only
  split
  next r found =>
    have here : r ∈ s.faults.records := List.mem_of_find?_eq_some found
    refine State.keeps_setRecords fun angular e he => ?_
    obtain ⟨old, hold, rfl⟩ := List.mem_map.1 he
    split
    · exact ⟨(angular.records r here).1, angular.held⟩
    · exact angular.records old hold
  next =>
    split
    · exact State.keeps_addRecord fun angular => ⟨angular.held, angular.held⟩
    split
    · split
      next v _ =>
        refine (State.keeps_removeRecords fun r => r.kind == v.kind && r.tower == v.tower).trans ?_
        refine State.keeps_addRecord fun angular => ?_
        have held : isAngle s.angle.held := by
          rw [← State.removeRecords_angle s fun r => r.kind == v.kind && r.tower == v.tower]
          exact angular.held
        exact ⟨held, held⟩
      next => exact .refl s
    · exact .refl s

theorem State.keeps_raise (k : FaultKind) (t : Option Nat) : s.keeps (s.raise k t) := by
  have freeze (u : State) (r : Raising) : u.keeps (u.freezeSlip k t r) := by
    unfold State.freezeSlip
    split
    · exact State.keeps_ite (fun _ => State.keeps_setDyn id) fun _ => .refl u
    · exact .refl u
  have act (u : State) (r : Raising) : u.keeps (u.actOnRaising k r) := by
    unfold State.actOnRaising
    split
    · exact State.keeps_ite (fun _ => State.keeps_holdRequest) fun _ => .refl u
    · exact .refl u
    · exact State.keeps_tripRequest k
  exact (((State.keeps_recordRaising k t).trans (freeze _ _)).trans (State.keeps_queueNotice ..)).trans (act _ _)

end Sys2Proof.Machine
end

section
/-! SUPPORT. The operations of the single blocks that keep Laws 9 and 12: the fault list, the run controller, the sector table,
the watch unit and the angle unit. -/

namespace Sys2Proof.Machine

variable {s t u : State}

/-! ### The fault list (chapter 8) -/

theorem State.keeps_changeMode (k : FaultKind) (deferred : Bool) : s.keeps (s.changeMode k deferred) := by
  have frozen (u : State) : u.keeps u.freezeHeld :=
    State.keeps_setDyns (f := fun d => { d with slipFrozen := true }) (fun _ => rfl) _
  have remoded (modes : ModeTable) (mode : FaultMode) : s.keeps { s with faults := { s.faults with
      modes := modes
      records := s.faults.records.map fun r => if r.kind == k then { r with mode := mode } else r } } :=
    State.keeps_mapRecords rfl fun r h => by split <;> exact h
  refine State.keeps_ite (fun _ => ?_) fun _ => ?_
  · exact State.keeps_ite (fun _ => (remoded _ _).trans (frozen _)) fun _ => remoded _ _
  · exact State.keeps_ite (fun _ => (remoded _ _).trans State.keeps_holdRequest) fun _ => remoded _ _

theorem State.keeps_takeSetFaultMode (kind mode : Byte) : s.keeps (s.takeSetFaultMode kind mode).1 := by
  unfold State.takeSetFaultMode
  split
  · split
    · exact .refl s
    · rw [apply_ite Prod.fst]
      exact State.keeps_ite (fun _ => .refl s) fun _ => State.keeps_changeMode ..
  · exact .refl s

theorem State.keeps_takeFaultClear (sel kind tower : Byte) : s.keeps (s.takeFaultClear sel kind tower).1 := by
  unfold State.takeFaultClear
  split
  · exact .refl s
  · exact State.keeps_removeRecords _

theorem State.keeps_warnCheck (k a : Nat) : s.keeps (s.warnCheck k a) := by
  unfold State.warnCheck
  dsimp only
  refine State.keeps_ite (fun _ => State.keeps_ite (fun _ => ?_) fun _ => State.keeps_setDyn id) fun _ => ?_
  · exact (State.keeps_setDyn id).trans (State.keeps_raise ..)
  · exact (State.keeps_setDyn id).trans (State.keeps_latchKind ..)

theorem State.keeps_tripCheck (k a : Nat) : s.keeps (s.tripCheck k a) := by
  unfold State.tripCheck
  refine State.keeps_ite (fun _ => State.keeps_ite (fun _ => .refl s) fun _ => ?_) fun _ => State.keeps_of_eq rfl
  exact (State.keeps_raise ..).of_eq_left (by rfl)

theorem State.keeps_faultExamine (k : Nat) (r : Report) : s.keeps (s.faultExamine k r) := by
  have switch (u : State) : u.keeps (u.switchCheck k r) :=
    State.keeps_ite (fun _ => State.keeps_raise ..) fun _ => .refl u
  have joints : s.keeps (if k < s.towerCount then
      (s.warnCheck k (jointAngle (some r)).natAbs).tripCheck k (jointAngle (some r)).natAbs else s) :=
    State.keeps_ite (fun _ => (State.keeps_warnCheck ..).trans (State.keeps_tripCheck ..)) fun _ => .refl s
  exact (joints.trans (switch _)).trans State.keeps_chainClears

theorem State.keeps_chainChanged : s.keeps s.chainChanged := by
  refine State.keeps_ite (fun _ => State.keeps_chainClears) fun _ => ?_
  exact State.keeps_ite (fun _ => State.keeps_raise ..) fun _ => .refl s

/-! ### The run controller (chapter 5) -/

/-- The run requests answer through `runCheck`: what they do where they are taken is what has to keep the laws. -/
theorem State.keeps_runCheck {taken : Option (State × Answer)} (h : ∀ p, taken = some p → s.keeps p.1) :
    s.keeps (s.runCheck taken).1 := by
  unfold State.runCheck
  split
  · exact .refl s
  · cases taken with
    | none => exact .refl s
    | some p => exact h p rfl

/-- The pass that START_PASS makes begins at the held angle, and its stop angle has been checked (R86, R88). -/
theorem State.keeps_takeStartPass (d : Byte) (p : U16) (pr : Byte) (sa : U16) (c : Byte) :
    s.keeps (s.takeStartPass d p pr sa c).1 := by
  refine State.keeps_runCheck fun q hq => ?_
  dsimp only at hq
  generalize hstop : (if pr.getLsbD 0 then some sa.toNat else none) = stop at hq
  generalize (if pr.getLsbD 1 then some c.toNat else none) = target at hq
  split at hq
  · cases hq
  split at hq
  · cases hq
    exact .refl s
  split at hq
  · cases hq
    exact .refl s
  next inRange =>
    split at hq <;> cases hq
    · exact .refl s
    · refine State.keeps.trans (State.keeps_setRun fun angular pass hpass => ?_) (State.keeps_enterPrestart _)
      cases hpass
      refine ⟨angular.held, fun a ha => ?_⟩
      subst ha
      exact Nat.lt_of_not_le fun high => inRange (.inl (decide_eq_true high))

theorem State.keeps_takeSetPace (p : U16) : s.keeps (s.takeSetPace p).1 := by
  refine State.keeps_runCheck fun q hq => ?_
  obtain ⟨t, ht, rfl⟩ := Option.map_eq_some_iff.1 hq
  exact State.keeps_takePace ht

theorem State.keeps_takeStopPass : s.keeps s.takeStopPass.1 := by
  refine State.keeps_runCheck fun q hq => ?_
  obtain ⟨t, ht, rfl⟩ := Option.map_eq_some_iff.1 hq
  exact State.keeps_takeStop ht

theorem State.keeps_takeReverseRequest : s.keeps s.takeReverseRequest.1 := by
  refine State.keeps_runCheck fun q hq => ?_
  obtain ⟨t, ht, rfl⟩ := Option.map_eq_some_iff.1 hq
  exact State.keeps_takeReverse ht

theorem State.keeps_takeHold : s.keeps s.takeHold.1 := by
  refine State.keeps_runCheck fun q hq => ?_
  split at hq <;> cases hq
  exact State.keeps_enterStopping ..

theorem State.keeps_takeResume : s.keeps s.takeResume.1 := by
  refine State.keeps_runCheck fun q hq => ?_
  split at hq
  · cases hq
  split at hq
  · cases hq
    exact .refl s
  split at hq <;> cases hq
  · exact .refl s
  · exact State.keeps_enterPrestart _

theorem State.keeps_takeTripReset : s.keeps s.takeTripReset.1 := by
  refine State.keeps_runCheck fun q hq => ?_
  dsimp only at hq
  split at hq
  · cases hq
  split at hq
  · cases hq
    exact .refl s
  split at hq <;> cases hq
  · exact .refl s
  · exact ((State.keeps_removeRecords _).trans (State.keeps_setRun_same rfl)).trans (State.keeps_enter ..)

theorem State.keeps_runOut (t : Timer) : s.keeps (s.runOut t) := State.keeps_of_eq rfl

theorem State.keeps_prestartExpires : s.keeps s.prestartExpires := by
  unfold State.prestartExpires
  split
  · exact ((State.keeps_runOut _).trans (State.keeps_setRun_same rfl)).trans State.keeps_prestartTest
  · exact .refl s

theorem State.keeps_startFails : s.keeps s.startFails := by
  unfold State.startFails
  dsimp only
  split
  next t _ _ =>
    refine State.keeps.trans (State.keeps.trans ((State.keeps_runOut t).trans ?_) (State.keeps_enter ..))
      (State.keeps_queueNotice ..)
    refine State.keeps_setRun fun angular p hp => ?_
    obtain ⟨-, pass⟩ := Option.ite_none_left_eq_some.1 hp
    exact angular.pass p pass
  next => exact .refl s

theorem State.keeps_stopTimesOut : s.keeps s.stopTimesOut := by
  unfold State.stopTimesOut
  split
  · exact ((State.keeps_runOut _).trans (State.keeps_setRun_same rfl)).trans (State.keeps_raise ..)
  · exact .refl s

theorem State.keeps_passTravel (x : Int) : s.keeps (s.passTravel x) := State.keeps_setPass fun _ h => h

theorem State.keeps_passCheck (p : Nat) (x : Int) : s.keeps (s.passCheck p x) := by
  unfold State.passCheck
  split
  · exact State.keeps_ite (fun _ => State.keeps_enterStopping ..) fun _ =>
      State.keeps_ite (fun _ => State.keeps_enterStopping ..) fun _ => .refl s
  · exact .refl s

/-! ### The sector table (chapter 6) -/

/-- The angles of an entry of SET_SECTORS are checked (R109, R183). -/
theorem sectorOf_angles {e : SectorEntry} {c : Sector} (h : sectorOf e = some c) : c.angles := by
  unfold sectorOf at h
  simp only [decide_eq_true_eq] at h
  split at h <;> split at h
  next ok => cases h; exact ⟨ok.1.1, ok.1.2.1⟩
  next => cases h
  next ok => cases h; exact ⟨ok.1.1, ok.1.2.1⟩
  next => cases h

theorem sectorsOf_angles {es : List SectorEntry} {cs : List Sector} (h : es.mapM sectorOf = some cs) :
    ∀ c ∈ cs, c.angles := by
  induction es generalizing cs with
  | nil => cases h; nofun
  | cons e es ih =>
    rw [List.mapM_cons] at h
    obtain ⟨c, hc, rest⟩ := Option.bind_eq_some_iff.1 h
    obtain ⟨ds, hds, eq⟩ := Option.bind_eq_some_iff.1 rest
    cases eq
    intro d hd
    rcases List.mem_cons.1 hd with rfl | later
    · exact sectorOf_angles hc
    · exact ih hds d later

theorem State.keeps_abandonBuild : s.keeps s.abandonBuild.1 :=
  State.keeps_angles rfl fun angular => { angular with build := nofun }

theorem State.keeps_takeSetSectors (m : Byte) (es : List SectorEntry) : s.keeps (s.takeSetSectors m es).1 := by
  unfold State.takeSetSectors
  dsimp only
  split
  · exact State.keeps_abandonBuild
  split
  · exact State.keeps_abandonBuild
  next cs hcs =>
    have list : s.measures.angular → ∀ c ∈ (if m.getLsbD 0 then [] else s.sectors.build.getD []) ++ cs, c.angles := by
      intro angular c hc
      rcases List.mem_append.1 hc with old | new
      · split at old
        · cases old
        · cases build : s.sectors.build with
          | none => rw [build] at old; cases old
          | some t => rw [build] at old; exact angular.build t build c old
      · exact sectorsOf_angles hcs c new
    generalize (if m.getLsbD 0 then [] else s.sectors.build.getD []) ++ cs = collected at list
    split
    · exact State.keeps_abandonBuild
    split
    · exact State.keeps_angles rfl fun angular => { angular with build := fun t ht => Option.some.inj ht ▸ list angular }
    split
    · exact State.keeps_angles rfl fun angular => { angular with
        build := nofun
        pending := fun t ht => Option.some.inj ht ▸ list angular }
    · exact State.keeps_abandonBuild

theorem State.keeps_installPending : s.keeps s.installPending := by
  unfold State.installPending
  split
  next t pending =>
    refine State.keeps_angles rfl fun angular => { angular with installed := fun c hc => ?_, pending := nofun }
    obtain ⟨e, he, rfl⟩ := List.mem_map.1 hc
    exact Sector.rearm_angles (angular.pending t pending e he)
  next => exact .refl s

theorem Sector.setMark_angles {c : Sector} (h : c.angles) (d : Direction) (m : ApproachMark) : (c.setMark d m).angles := by
  unfold Sector.setMark
  split <;> exact h

theorem Sector.leaveZones_angles {c : Sector} (h : c.angles) (q : Nat) : (c.leaveZones q).angles := by
  unfold Sector.leaveZones
  split <;> exact h

theorem State.keeps_overrunCheck (q : Nat) : s.keeps (s.overrunCheck q) :=
  State.keeps_ite (fun _ => State.keeps_raise ..) fun _ => .refl s

theorem State.keeps_approachCheck (d : Direction) (q : Nat) : s.keeps (s.approachCheck d q) := by
  have act (u : State) (c : Sector) : u.keeps (u.barrierAct c) := by
    unfold State.barrierAct
    split
    · exact State.keeps_enterStopping ..
    · exact State.keeps_enterStopping ..
    · exact .refl u
  refine State.keeps_ite (fun _ => ?_) fun _ => .refl s
  split
  next table c fired =>
    obtain ⟨before, after, old, new, -⟩ := (fireFirst_eq_some ..).1 fired
    refine State.keeps.trans (t := { s with sectors := { s.sectors with installed := table } })
      (State.keeps_angles rfl fun angular => { angular with installed := fun e he => ?_ }) (act _ c)
    have was : ∀ b ∈ before ++ c :: after, b.angles := by
      rw [← old]
      exact angular.installed
    change e ∈ table at he
    rw [new, List.mem_append, List.mem_cons] at he
    rcases he with mem | rfl | mem
    · exact was e (List.mem_append_left _ mem)
    · exact Sector.setMark_angles (was c (List.mem_append_right _ (.head _))) ..
    · exact was e (List.mem_append_right _ (.tail _ mem))
  next => exact .refl s

theorem State.keeps_sectorSample (d : Option Direction) (q : Nat) : s.keeps (s.sectorSample d q) := by
  have capped : s.keeps (s.installPending.establishCap q) :=
    State.keeps_installPending.of_eq_right rfl
  have rearmed (u : State) : u.keeps (u.rearmOutside q) :=
    State.keeps_mapSectors rfl rfl rfl fun c h => Sector.leaveZones_angles h q
  unfold State.sectorSample
  refine State.keeps.trans ?_ (rearmed _)
  cases d with
  | none => exact capped
  | some d => exact (capped.trans (State.keeps_overrunCheck q)).trans (State.keeps_approachCheck d q)

/-! ### The watch unit (chapter 7) -/

/-- One watch entry replaced by one at an angle of the pivot. -/
theorem State.keeps_setEntry {n : Nat} {w : Watch} (h : s.measures.angular → 1 ≤ n → n ≤ 8 → isAngle w.cfg.ref) :
    s.keeps { s with watch := { s.watch with entries := setNth s.watch.entries n w } } := by
  refine State.keeps_angles rfl fun angular => { angular with entries := fun v hv => ?_ }
  change v ∈ (setNth s.watch.entries n w).toList at hv
  unfold setNth at hv
  split at hv
  next real =>
    rcases Vector.mem_or_eq_of_mem_set (Vector.mem_toList_iff.1 hv) with old | rfl
    · exact angular.entries v (Vector.mem_toList_iff.2 old)
    · exact h angular real.1 real.2
  next => exact angular.entries v hv

theorem watchConfigOf_ref {en : Byte} {ref hw : U16} {d c m a : Byte} {arg : U16} {rept : Byte} {cfg : WatchConfig}
    (h : watchConfigOf en ref hw d c m a arg rept = some cfg) : isAngle cfg.ref := by
  unfold watchConfigOf at h
  simp only [Option.bind_eq_bind, Option.bind_eq_some_iff] at h
  obtain ⟨_, -, _, -, _, -, _, -, _, -, _, -, made⟩ := h
  split at made
  next ok => cases made; exact ok.1
  next => cases made

theorem State.keeps_takeSetWatch (n en : Byte) (ref hw : U16) (d c m a : Byte) (arg : U16) (rept : Byte) :
    s.keeps (s.takeSetWatch n en ref hw d c m a arg rept).1 := by
  unfold State.takeSetWatch
  dsimp only
  split
  · exact .refl s
  split
  next cfg made => exact State.keeps_setEntry fun _ _ _ => watchConfigOf_ref made
  next => exact .refl s

theorem State.keeps_takeSetAux (o m : Byte) : s.keeps (s.takeSetAux o m).1 := by
  unfold State.takeSetAux
  dsimp only
  repeat' split
  all_goals exact State.keeps_of_eq rfl

theorem State.keeps_watchAct (a : WatchAction) : s.keeps (s.watchAct a).1 := by
  have taken (o : Option State) (h : ∀ t, o = some t → s.keeps t) : s.keeps (s.orRefused o).1 := by
    cases o with
    | none => exact .refl s
    | some t => exact h t rfl
  cases a with
  | notice => exact .refl s
  | auxOn n => exact State.keeps_of_eq rfl
  | auxOff n => exact State.keeps_of_eq rfl
  | stop => exact taken _ fun t => State.keeps_takeStop
  | reverse => exact taken _ fun t => State.keeps_takeReverse
  | pace v => exact taken _ fun t => State.keeps_takePace

theorem State.keeps_fire (n : Nat) (c : Crossing) (d : Direction) : s.keeps (s.fire n c d) := by
  have counted (w : Watch) (same : w.cfg = (s.watchEntry n).cfg) :
      s.keeps { s with watch := { s.watch with entries := setNth s.watch.entries n w } } := by
    refine State.keeps_setEntry fun angular h1 h2 => ?_
    rw [same]
    have entry : s.watchEntry n = s.watch.entries[n - 1] := nth_of_mem _ h1 h2 _
    exact angular.entries _ (Vector.mem_toList_iff.2 (entry ▸ Vector.getElem_mem _))
  have fired := counted { s.watchEntry n with
    fires := bump255 (s.watchEntry n).fires, spent := (s.watchEntry n).cfg.once } rfl
  exact (fired.trans (State.keeps_watchAct _)).trans (State.keeps_queueNotice ..)

theorem State.keeps_watchSample (p q : Nat) (x : Int) : s.keeps (s.watchSample p q x) := by
  have test (n : Nat) (d : Direction) (u : State) (c : Crossing) : u.keeps (State.testCrossing n d u c) :=
    State.keeps_ite (fun _ => State.keeps_fire ..) fun _ => .refl u
  exact State.keeps_ite (fun _ => .refl s) fun _ =>
    State.keeps_foldl (fun _ n => State.keeps_foldl (test n _) _) _

/-! ### The angle unit (chapter 2) -/

theorem State.keeps_handOver (o : SampleOrder) (d : Direction) (p q : Nat) (x : Int) : s.keeps (s.handOver o d p q x) := by
  have run (u : State) : u.keeps (u.passCheck p x) := State.keeps_passCheck ..
  have sector (u : State) : u.keeps (u.sectorSample (some d) q) := State.keeps_sectorSample ..
  have watch (u : State) : u.keeps (u.watchSample p q x) := State.keeps_watchSample ..
  cases o with
  | rsw => exact ((run _).trans (sector _)).trans (watch _)
  | rws => exact ((run _).trans (watch _)).trans (sector _)
  | srw => exact ((sector _).trans (run _)).trans (watch _)
  | swr => exact ((sector _).trans (watch _)).trans (run _)
  | wrs => exact ((watch _).trans (run _)).trans (sector _)
  | wsr => exact ((watch _).trans (sector _)).trans (run _)

theorem State.keeps_markHalt {q : Nat} (h : isAngle q) :
    s.keeps { s with angle := { s.angle with haltAngle := some q } } :=
  State.keeps_angles rfl fun angular => { angular with halt := fun _ ha => Option.some.inj ha ▸ h }

theorem State.keeps_pivotDrift (x : Option Int) {q : Nat} (h : isAngle q) : s.keeps (s.pivotDrift x q) := by
  refine State.keeps_ite (fun _ => ?_) fun _ => .refl s
  split
  · exact State.keeps_markHalt h
  · exact State.keeps_ite (fun _ => (State.keeps_raise ..).trans (State.keeps_markHalt h)) fun _ => .refl s

theorem State.keeps_holdAngle {q : Nat} (h : isAngle q) : s.keeps (s.holdAngle q) := by
  have held : s.keeps { s with angle := { s.angle with
      held := q, heldValid := true, previous := some q, invalidRun := false } } :=
    State.keeps_angles rfl fun angular => { angular with held := h, previous := fun _ ha => Option.some.inj ha ▸ h }
  exact State.keeps_ite (fun _ => held.trans (State.keeps_latchKind ..)) fun _ => held

theorem State.keeps_validSample {q : Nat} (h : isAngle q) (o : SampleOrder) : s.keeps (s.validSample q o) := by
  unfold State.validSample
  split
  · exact ((State.keeps_holdAngle h).trans (State.keeps_sectorSample ..)).trans (State.keeps_pivotDrift _ h)
  · have gathered (u : State) (x : Int) : u.keeps (u.gatherTravel x) := State.keeps_of_eq rfl
    exact ((((State.keeps_holdAngle h).trans (State.keeps_passTravel _)).trans (State.keeps_handOver ..)).trans
      (gathered _ _)).trans (State.keeps_pivotDrift _ h)

theorem State.keeps_invalidSample : s.keeps s.invalidSample :=
  State.keeps_ite (fun _ => (State.keeps_raise ..).of_eq_left (by rfl)) fun _ => State.keeps_of_eq rfl

/-- A sample is valid only at an angle of the pivot (R20). -/
theorem State.keeps_readCompletes (q : Nat) (e : Bool) (o : SampleOrder) : s.keeps (s.readCompletes q e o) := by
  refine State.keeps_ite (fun _ => ?_) fun _ => .refl s
  refine State.keeps.of_eq_left ?_ (t := s.endRead) rfl
  exact State.keeps_ite (fun valid => State.keeps_validSample valid.1 o) fun _ => State.keeps_invalidSample

theorem State.keeps_readTimesOut : s.keeps s.readTimesOut :=
  State.keeps_ite (fun _ => State.keeps_invalidSample.of_eq_left (by rfl)) fun _ => .refl s

/-- The slip factor stays at most 300 at the close of a window (R28). -/
theorem State.keeps_closeWindow (k : Nat) (w : SlipWindow) (wheel : U16) : s.keeps (s.closeWindow k w wheel) := by
  have factor : s.keeps (s.setDyn k fun d => if d.slipFrozen then d else
      { d with slip := nextSlip d.slip (s.windowSlip k w wheel) }) := by
    refine State.keeps_setDyn fun old => ?_
    split
    · exact old
    · exact Nat.min_le_left ..
  refine State.keeps_ite (fun _ => ?_) fun _ => factor.of_eq_right rfl
  exact (factor.of_eq_right (by rfl)).trans (State.keeps_raise ..)

theorem State.keeps_slipExamine (k : Nat) (r : Report) : s.keeps (s.slipExamine k r) := by
  unfold State.slipExamine
  split
  · exact State.keeps_ite (fun _ => State.keeps_closeWindow ..) fun _ => .refl s
  · exact State.keeps_ite (fun _ => State.keeps_of_eq rfl) fun _ => .refl s

theorem State.keeps_stallExamine (k : Nat) (p : Option Report) (r : Report) : s.keeps (s.stallExamine k p r) := by
  have timed : s.keeps (s.setDyn k fun d => { d with stall := stallAfter s.clock d.lastOrder r d.stall }) :=
    State.keeps_setDyn id
  unfold State.stallExamine
  split
  · exact State.keeps_ite (fun _ => timed) fun _ => timed.trans (State.keeps_latchKind ..)
  · exact timed

theorem State.keeps_haltExamine (k : Nat) (r : Report) : s.keeps (s.haltExamine k r).1 := by
  have counted : s.keeps (s.setDyn k fun d => { d with haltWheel := haltAfter d.lastOrder r d.haltWheel }) :=
    State.keeps_setDyn id
  unfold State.haltExamine
  dsimp only
  split
  · split
    · dsimp only
      exact (counted.trans (State.keeps_raise ..)).trans (State.keeps_setDyn id)
    · exact counted
  · exact counted

theorem State.keeps_stallExpires (k : Nat) : s.keeps (s.stallExpires k) := by
  unfold State.stallExpires
  split
  · exact (State.keeps_setDyn id).trans (State.keeps_raise ..)
  · exact .refl s

theorem State.keeps_stallTimerExpires (k : Nat) : s.keeps (s.stallTimerExpires k) := by
  unfold State.stallTimerExpires
  split
  · exact (State.keeps_stallExpires k).of_eq_left rfl
  · exact .refl s

end Sys2Proof.Machine
end

section
/-! SUPPORT. Laws 9 and 12 through the writes of the tower table, the span line, the order engine, the store and the resets,
and the panel port; then through every command (O7). -/

namespace Sys2Proof.Machine

variable {s t u : State}

/-! ### The tower table (chapter 1) -/

theorem State.keeps_writeFields (ws : List FieldWrite) : s.keeps (s.writeFields ws) := by
  refine State.keeps_slips (by simp [State.measures]) fun bounded k => ?_
  rw [s.writeFields_dyn]
  exact bounded k

/-- Towers that change membership take slip factor 0, and leaving ones have their records latched (R13). -/
theorem State.keeps_changeMembers (old : Nat) : s.keeps (s.changeMembers old) := by
  have member (u : State) (k : Nat) : u.keeps (u.resetMember k) :=
    (State.keeps_setDyn (f := fun _ => .reset) fun _ => Nat.zero_le _).of_eq_right rfl
  rw [State.changeMembers_slot]
  exact ((State.keeps_foldl member _).trans (State.keeps_latch _)).of_eq_right rfl

theorem State.keeps_agreeMisses (k : Nat) : s.keeps (s.agreeMisses k) := by
  unfold State.agreeMisses
  dsimp only
  refine State.keeps_ite (fun _ => ?_) fun _ => State.keeps_ite (fun _ => State.keeps_setDyn id) fun _ => State.keeps_setDyn id
  exact (State.keeps_setDyn id).trans (State.keeps_raise ..)

theorem State.keeps_fieldApplied (w : FieldWrite) : s.keeps (s.fieldApplied w) := by
  unfold State.fieldApplied
  split
  · exact State.keeps_of_eq (by simp [State.measures])
  · exact State.keeps_of_eq rfl
  · exact State.keeps_of_eq rfl
  · split
    · exact State.keeps_ite (fun _ => State.keeps_stallExpires _) fun _ => .refl s
    · exact .refl s
  · exact .refl s

theorem State.keeps_applyWrites (ws : List FieldWrite) : s.keeps (s.applyWrites ws) := by
  have members (u : State) : u.keeps (if u.towerCount = s.towerCount then u else u.changeMembers s.towerCount) :=
    State.keeps_ite (fun _ => .refl u) fun _ => State.keeps_changeMembers _
  have interval (u : State) : u.keeps (if writes ws (.machine .driveInterval) then u.restartInterval else u) :=
    State.keeps_ite (fun _ => State.keeps_of_eq (by simp [State.measures])) fun _ => .refl u
  have limit (u : State) :
      u.keeps (if writes ws (.machine .missLimit) then u.members.foldl State.agreeMisses u else u) :=
    State.keeps_ite (fun _ => State.keeps_foldl (fun _ k => State.keeps_agreeMisses k) _) fun _ => .refl u
  exact ((((State.keeps_writeFields ws).trans (members _)).trans (interval _)).trans (limit _)).trans
    (State.keeps_foldl (fun _ w => State.keeps_fieldApplied w) ws)

theorem State.keeps_setStaged (p : List FieldWrite) : s.keeps { s with table := { s.table with pending := p } } :=
  State.keeps_of_eq rfl

theorem State.keeps_applyPending : s.keeps s.applyPending := (State.keeps_setStaged []).trans (State.keeps_applyWrites _)

theorem State.keeps_settleCompleteness : s.keeps s.settleCompleteness := by
  have timer (u : State) (e : OrderEngine) : u.keeps { u with engine := e } := State.keeps_of_eq rfl
  refine State.keeps_ite (fun _ => (State.keeps_enter ..).trans (timer _ _)) fun _ => ?_
  refine State.keeps_ite (fun _ => ?_) fun _ => .refl s
  exact ((State.keeps_enter ..).trans (timer _ _)).trans State.keeps_applyPending

theorem State.keeps_applyOrStage (ws : List FieldWrite) : s.keeps (s.applyOrStage ws) := by
  refine State.keeps_ite (fun _ => ?_) fun _ => State.keeps_setStaged _
  exact ((State.keeps_setStaged []).trans (State.keeps_applyWrites _)).trans State.keeps_settleCompleteness

theorem State.keeps_takeWrite (ws : List FieldWrite) (stray : Bool) (consistent : State → Bool) :
    s.keeps (s.takeWrite ws stray consistent).1 := by
  unfold State.takeWrite
  split
  · exact .refl s
  split
  · exact .refl s
  split
  · exact .refl s
  · exact State.keeps_applyOrStage ws

/-! ### The span line (chapter 4) -/

theorem State.keeps_judgeReport (kind : SlotKind) (d : TowerDynamic) (r : Report) (drift : Bool) :
    s.keeps (s.judgeReport kind d r drift) := by
  have restarted : s.keeps s.restartQuiet := State.keeps_of_eq (by simp [State.measures])
  rw [State.judgeReport_eq]
  refine State.keeps_ite (fun _ => ?_) fun _ => State.keeps_ite (fun _ => ?_) fun _ => .refl s
  · exact State.keeps_ite (fun _ => .refl s) fun _ => State.keeps_leaveQuiet
  · exact State.keeps_ite (fun _ => restarted) fun _ => State.keeps_leaveQuiet

theorem State.keeps_takeReport (kind : SlotKind) (k : Nat) (f : ReportFrame) : s.keeps (s.takeReport kind k f) := by
  have record (r : Report) : s.keeps (s.setDyn k fun d => d.takeReport r) := State.keeps_setDyn id
  unfold State.takeReport
  dsimp only
  generalize hu : (if (s.tower k).dyn.link = .missing ∨ (s.tower k).dyn.link = .lost then _ else _) = u
  have linked : s.keeps u := by
    subst hu
    refine State.keeps_ite (fun _ => ?_) fun _ => record _
    exact ((record _).trans (State.keeps_latchKind ..)).trans (State.keeps_latchKind ..)
  refine (State.keeps.trans ?_ State.keeps_prestartTest).trans State.keeps_stoppingTest
  refine (State.keeps.trans ?_ (State.keeps_faultExamine ..)).trans (State.keeps_judgeReport ..)
  refine ((State.keeps.trans ?_ (State.keeps_slipExamine ..)).trans (State.keeps_stallExamine ..)).trans
    (State.keeps_haltExamine ..)
  exact State.keeps_ite (fun _ => linked.trans (State.keeps_raise ..)) fun _ => linked

theorem State.keeps_setSpan (l : SpanMaster) : s.keeps { s with span := l } := State.keeps_of_eq rfl

theorem State.keeps_spanByte (b : Byte) : s.keeps (s.spanByte b) := by
  have examined (u : State) (f : ReportFrame) : u.keeps (u.examineReport f) := by
    unfold State.examineReport
    split
    · exact State.keeps_ite (fun _ => (State.keeps_takeReport ..).of_eq_left rfl) fun _ => .refl u
    · exact .refl u
  refine State.keeps_ite (fun _ => .refl s) fun _ => ?_
  dsimp only
  split
  · exact (State.keeps_setSpan _).trans (examined _ _)
  · exact State.keeps_setSpan _

theorem State.keeps_countMiss (k : Nat) : s.keeps (s.countMiss k) := by
  unfold State.countMiss
  dsimp only
  split
  · exact .refl s
  · refine State.keeps_ite (fun _ => ?_) fun _ => ?_
    · exact ((State.keeps_setDyn id).trans (State.keeps_raise ..)).trans (State.keeps_raise ..)
    · exact (State.keeps_setDyn id).trans (State.keeps_raise ..)
  · exact State.keeps_ite (fun _ => (State.keeps_setDyn id).trans (State.keeps_raise ..)) fun _ => State.keeps_setDyn id
  · exact State.keeps_setDyn id

theorem State.keeps_windowExpires : s.keeps s.windowExpires := by
  unfold State.windowExpires
  split
  next sl _ =>
    refine State.keeps_ite (fun _ => ?_) fun _ => .refl s
    have waiting : s.keeps ((s.runTo (sl.windowAt + 10)).setPhase sl .waiting) := State.keeps_of_eq rfl
    exact State.keeps_ite (fun _ => waiting) fun _ => (waiting.trans (State.keeps_countMiss _)).trans State.keeps_leaveQuiet
  next => exact .refl s

/-- The line's other events touch nothing that the two laws look at. -/
theorem State.keeps_slotEvents :
    s.keeps s.spanFrameEnds ∧ s.keeps s.slotEnds ∧ s.keeps s.quietExpires ∧ s.keeps s.surveyExpires := by
  refine ⟨?_, ?_, ?_, ?_⟩ <;> refine State.keeps_of_eq ?_
  · unfold State.spanFrameEnds
    repeat' split
    all_goals rfl
  · unfold State.slotEnds State.afterSlot
    dsimp only
    repeat' split
    all_goals simp [State.measures]
  · unfold State.quietExpires
    repeat' split
    all_goals simp [State.measures]
  · unfold State.surveyExpires
    dsimp only
    repeat' split
    all_goals simp [State.measures]

/-! ### The order engine (chapter 3) -/

theorem State.keeps_intervalExpires : s.keeps s.intervalExpires := by
  have engine (u : State) (e : OrderEngine) : u.keeps { u with engine := e } := State.keeps_of_eq rfl
  have orders (u : State) (os : List (Nat × Nat)) (dir : Direction) :
      u.keeps (os.foldl (fun u p => u.setDyn p.1 fun d => d.takeOrder p.2 dir) u) :=
    State.keeps_foldl (fun _ _ => State.keeps_setDyn id) os
  have round (u : State) : u.keeps (if u.span.mode = .active ∧ u.span.slot = none then u.beginDriveRound else u) :=
    State.keeps_ite (fun _ => State.keeps_of_eq (by simp [State.measures])) fun _ => .refl u
  have handed (u : State) (os : OrderSet) : u.keeps (u.handSet os) :=
    ((orders u os.orders os.direction).of_eq_right (by rfl)).trans (round _)
  unfold State.intervalExpires
  split
  · refine State.keeps.trans (State.keeps.trans ?_ (engine _ _)) State.keeps_stoppingTest
    refine State.keeps.trans (State.keeps.trans ?_ (engine _ _)) (handed _ _)
    exact ((State.keeps_runOut _).trans State.keeps_applyPending).trans (engine _ _)
  · exact .refl s

/-! ### The store and the resets (chapter 10) -/

/-- The angles of an image taken from a state (R170). -/
theorem Measures.angular.snapshot (h : s.measures.angular) : s.snapshot.angles := by
  refine ⟨fun c hc => ?_, fun w hw => ?_⟩
  · obtain ⟨e, he, rfl⟩ := List.mem_map.1 hc
    refine Sector.rearm_angles ?_
    cases pending : s.sectors.pending with
    | none => rw [pending] at he; exact h.installed e he
    | some t => rw [pending] at he; exact h.pending t pending e he
  · have entries : s.snapshot.watches.toList = s.watch.entries.toList.map (·.cfg) := Vector.toList_map
    rw [entries] at hw
    obtain ⟨e, he, rfl⟩ := List.mem_map.1 hw
    exact h.entries e he

theorem State.keeps_takeStoreConfig (pr po : Byte) (d t : U16) : s.keeps (s.takeStoreConfig pr po d t).1 := by
  unfold State.takeStoreConfig
  split
  · exact .refl s
  split
  · exact .refl s
  next settings _ =>
    have held : s.keeps { s with store := { s.store with settings := settings } } := State.keeps_of_eq rfl
    refine held.trans (State.keeps_angles rfl fun angular => { angular with writing := fun i hi => ?_ })
    exact Option.some.inj hi ▸ angular.snapshot

/-- No write is in progress any more, and a copy is stored that holds angles of the pivot. -/
theorem State.keeps_setStored {copy : StoredCopy} (h : s.measures.angular → ∀ i c, copy = .written i c → i.angles) :
    s.keeps { s with store := { s.store with writing := none, stored := copy } } :=
  State.keeps_angles rfl fun angular => { angular with
    stored := h angular
    writing := fun _ idle => by cases idle }

theorem State.keeps_writeCompletes (verified : Bool) : s.keeps (s.writeCompletes verified) := by
  unfold State.writeCompletes
  split
  next image writing =>
    refine State.keeps.of_eq_right (State.keeps_setStored
      (copy := if verified then .written image (u32Bytes image.check) else .failing) fun angular i c hi => ?_)
      (by simp [State.measures])
    cases verified with
    | true => exact (StoredCopy.written.inj hi).1 ▸ angular.writing image writing
    | false => cases hi
  next => exact .refl s

theorem State.keeps_loseWrite : s.keeps s.loseWrite := by
  unfold State.loseWrite
  exact State.keeps_ite (fun _ => State.keeps_setStored fun _ _ _ failing => by cases failing) fun _ => .refl s

/-- The record placed at a return of class TRIPPED stands at the captured angle, or at 0 (R177). -/
theorem State.keeps_restoreTrip (k : FaultKind) : s.keeps (s.restoreTrip k) := by
  refine State.keeps_ite (fun _ => State.keeps_addRecord fun angular => ?_) fun _ => .refl s
  have angle : isAngle (match s.store.record.captured with | some (a, _) => a | none => 0) := by
    split
    next a v captured => exact angular.captured a v captured
    next => exact Nat.zero_lt_succ _
  exact ⟨angle, angle⟩

/-- A restored pass is the retained one (R177). -/
theorem State.keeps_powerReturn (announce : Bool) : s.keeps (s.powerReturn announce) := by
  have enters (u : State) (m : MState) : u.keeps (u.enterWith announce m none none none) := State.keeps_enterWith ..
  have passed : s.keeps (s.setRun fun c => { c with pass := s.store.record.pass }) :=
    State.keeps_setRun fun angular => angular.retained
  have notice (u : State) (d : RecoveryData) : u.keeps (u.queueNotice .machine (.recovery d)) := State.keeps_queueNotice ..
  unfold State.powerReturn
  dsimp only
  refine State.keeps_ite (fun _ => enters _ _) fun _ => ?_
  split
  · exact enters _ _
  · refine State.keeps.trans ?_ (enters _ _)
    split
    · exact (State.keeps_restoreTrip _).trans (State.keeps_setRun_same rfl)
    · exact State.keeps_setRun_same rfl
  · split
    · exact (enters _ _).trans (notice _ _)
    · exact passed.trans (enters _ _)
  · split
    · exact (enters _ _).trans (notice _ _)
    · exact passed.trans (enters _ _)
    · exact ((passed.trans (State.keeps_setRun_same rfl)).trans (enters _ _)).trans (notice _ _)

/-- The captured angle is the held angle (R176). -/
theorem State.keeps_powerFails : s.keeps s.powerFails := by
  have captured : s.keeps (s.rewriteRecord (some (s.angle.held, s.angle.heldValid))) :=
    State.keeps_rewriteRecord fun angular a v hav => (Prod.mk.inj (Option.some.inj hav)).1 ▸ angular.held
  have noPass (u : State) : u.keeps (u.setRun fun c => { c with
      prestartTimer := none, startFailTimer := none, stopTimer := none, recoveryTimer := none, pass := none }) :=
    State.keeps_setRun fun _ _ none => by cases none
  refine State.keeps_ite (fun _ => .refl s) fun _ => ?_
  exact ((captured.trans State.keeps_zeroOrders).trans (noPass _)).trans (State.keeps_enter ..)

theorem State.keeps_powerReturns : s.keeps s.powerReturns :=
  State.keeps_ite (fun _ => State.keeps_powerReturn true) fun _ => .refl s

theorem State.keeps_recoveryExpires : s.keeps s.recoveryExpires := by
  have noPass (u : State) : u.keeps (u.setRun fun c => { c with pass := none }) :=
    State.keeps_setRun fun _ _ none => by cases none
  unfold State.recoveryExpires
  split
  next t _ _ =>
    have idle : s.keeps ((s.runOut t).setRun fun c => { c with recoveryTimer := none }) :=
      (State.keeps_runOut t).trans (State.keeps_setRun_same rfl)
    dsimp only
    split
    · exact (idle.trans (State.keeps_enterPrestart _)).trans (State.keeps_queueNotice ..)
    · exact ((idle.trans (noPass _)).trans (State.keeps_enter ..)).trans (State.keeps_queueNotice ..)
  next => exact .refl s

theorem ConfigImage.empty_angles : ConfigImage.empty.angles := by
  refine ⟨nofun, fun w hw => ?_⟩
  have : w = .empty := by simpa [ConfigImage.empty] using hw
  exact this ▸ Nat.zero_lt_succ _

/-- A load gives the angles of the stored image, or those of the empty configuration (R174). -/
theorem Measures.angular.load (h : s.measures.angular) : s.store.stored.load.angles := by
  unfold StoredCopy.load
  split
  next i c stored =>
    split
    · exact h.stored i c stored
    · exact ConfigImage.empty_angles
  · exact ConfigImage.empty_angles

/-- A reset brings every slip factor to 0, and takes its angles from the image (R174). -/
theorem State.keeps_fresh : s.keeps s.fresh := by
  refine ⟨fun _ k => ?_, fun angular => ?_⟩
  · have tower : s.fresh.tower k = ⟨nth s.store.stored.load.towers k .empty, .reset⟩ :=
      nth_map s.store.stored.load.towers (fun c => (⟨c, .reset⟩ : TowerRecord)) k .empty
    change (s.fresh.tower k).dyn.slip ≤ 300
    rw [tower]
    exact Nat.zero_le _
  · obtain ⟨sectors, watches⟩ := angular.load
    refine { angular with
      held := Nat.zero_lt_succ _, previous := nofun, halt := nofun, pass := nofun, pending := nofun, build := nofun,
      records := nofun, installed := fun c hc => ?_, entries := fun w hw => ?_ }
    · obtain ⟨e, he, rfl⟩ := List.mem_map.1 hc
      exact Sector.rearm_angles (sectors e he)
    · have entries : s.fresh.watch.entries.toList =
          s.store.stored.load.watches.toList.map fun c => (⟨c, false, 0⟩ : Watch) := Vector.toList_map
      change w ∈ s.fresh.watch.entries.toList at hw
      rw [entries] at hw
      obtain ⟨c, hc, rfl⟩ := List.mem_map.1 hw
      exact watches c hc

theorem State.keeps_invalidateRecord : s.keeps s.invalidateRecord :=
  State.keeps_angles rfl fun angular => { angular with }

theorem State.keeps_decide : s.keeps s.decide := by
  have kept : s.keeps (({ (s.enterWith false .stopped none none none) with store := s.store } : State)) :=
    ⟨(State.keeps_enterWith ..).slips, fun angular =>
      { (State.keeps_enterWith false .stopped none none none).angles angular with
        retained := angular.retained, captured := angular.captured, stored := angular.stored, writing := angular.writing }⟩
  refine State.keeps_ite (fun _ => ?_) fun _ => State.keeps_ite (fun _ => State.keeps_setRun_same rfl) fun _ =>
    State.keeps_ite (fun _ => State.keeps_powerReturn false) fun _ => kept
  have invalid : s.keeps s.invalidateRecord := State.keeps_invalidateRecord
  exact State.keeps_ite (fun _ => invalid.trans (State.keeps_queueNotice ..)) fun _ => invalid

theorem State.keeps_resetPart (device : Bool) : s.keeps (s.resetPart device) := by
  have restarted : s.keeps (s.loseWrite.fresh.queueNotice .machine (.restarted device)) :=
    (State.keeps_loseWrite.trans State.keeps_fresh).trans (State.keeps_queueNotice ..)
  have told (u : State) : u.keeps (if u.store.stored.passes then u else u.queueNotice .machine .configInvalid) :=
    State.keeps_ite (fun _ => .refl u) fun _ => State.keeps_queueNotice ..
  have timers (u : State) : u.keeps u.startTimers := State.keeps_of_eq rfl
  exact ((restarted.trans (told _)).trans (timers _)).trans State.keeps_decide

theorem State.keeps_deviceReset : s.keeps s.deviceReset := State.keeps_invalidateRecord.trans (State.keeps_resetPart true)

/-! ### The panel port (chapter 9) -/

theorem State.keeps_setPanel (p : PanelPort) : s.keeps { s with panel := p } := State.keeps_of_eq rfl

theorem State.keeps_noteTaken (r : Request) : s.keeps (s.noteTaken r) := by
  have line : s.keeps (if s.span.mode = .active then s.restartQuiet else s.leaveQuiet) :=
    State.keeps_ite (fun _ => State.keeps_of_eq (by simp [State.measures])) fun _ => State.keeps_leaveQuiet
  have latched := line.trans (State.keeps_latchKind .panelSilent none)
  exact State.keeps_ite (fun _ => latched) fun _ => latched.of_eq_right rfl

/-- Every request keeps both laws. -/
theorem State.keeps_serve (wake : Bool) (r : Request) : s.keeps (s.serve wake r).1 := by
  obtain ⟨readTower, -, -, readSectors, -, -, faultList, -⟩ := State.otherRequests_core (s := s)
  cases r with
  | configMachine p vs =>
    change s.keeps (s.takeConfigMachine p vs).1
    unfold State.takeConfigMachine
    exact State.keeps_takeWrite ..
  | configTower k p vs =>
    change s.keeps (s.takeConfigTower k p vs).1
    unfold State.takeConfigTower
    dsimp only
    split
    · exact .refl s
    · exact State.keeps_takeWrite ..
  | storeConfig pr po d t => exact State.keeps_takeStoreConfig ..
  | startPass d p pr sa c => exact State.keeps_takeStartPass ..
  | setPace p => exact State.keeps_takeSetPace p
  | stopPass => exact State.keeps_takeStopPass
  | hold => exact State.keeps_takeHold
  | resume => exact State.keeps_takeResume
  | reverse => exact State.keeps_takeReverseRequest
  | tripReset => exact State.keeps_takeTripReset
  | setFaultMode k m => exact State.keeps_takeSetFaultMode ..
  | faultClear sel k t => exact State.keeps_takeFaultClear ..
  | readTower k => exact (readTower k).symm ▸ .refl s
  | readSectors c n => exact (readSectors c n).symm ▸ .refl s
  | faultList p => exact (faultList p).symm ▸ .refl s
  | setSectors m es => exact State.keeps_takeSetSectors ..
  | setWatch n en r w d c st a g rp => exact State.keeps_takeSetWatch ..
  | setAux o m => exact State.keeps_takeSetAux ..
  | setNoticePriority k p =>
    change s.keeps (s.takeSetNoticePriority k p).1
    unfold State.takeSetNoticePriority
    repeat' split
    all_goals exact State.keeps_of_eq rfl
  | setNoticeMask l =>
    change s.keeps (s.takeSetNoticeMask l).1
    unfold State.takeSetNoticeMask
    split <;> exact State.keeps_of_eq rfl
  | noticeFetch =>
    change s.keeps s.takeNoticeFetch.1
    unfold State.takeNoticeFetch
    dsimp only
    split <;> exact State.keeps_setPanel _
  | setWakeFilter n u k sub p =>
    change s.keeps (s.takeSetWakeFilter n u k sub p).1
    unfold State.takeSetWakeFilter
    dsimp only
    repeat' split
    all_goals exact State.keeps_of_eq rfl
  | panelSleep => exact State.keeps_setPanel _
  | readMachine | readWatches | resetDevice | panelAwake | readPort | unknown | badLength => exact .refl s

theorem State.keeps_take (f : PanelFrame) : s.keeps (s.take f) :=
  ((State.keeps_noteTaken (parseRequest f)).trans (State.keeps_serve s.panel.wakeLine (parseRequest f))).of_eq_right rfl

theorem State.keeps_arrive (f : PanelFrame) : s.keeps (s.arrive f) :=
  State.keeps_ite (fun _ => State.keeps_setPanel _) fun _ =>
    State.keeps_ite (fun _ => State.keeps_take f) fun _ => State.keeps_setPanel _

theorem State.keeps_panelByte (b : Byte) : s.keeps (s.panelByte b) := by
  have received : s.keeps { s with panel := { s.panel with rx := (panelRxByte s.panel.rx b).1 } } := State.keeps_setPanel _
  unfold State.panelByte
  dsimp only
  split
  · exact (received.trans (State.keeps_arrive _)).trans State.keeps_transmit
  · exact received

theorem State.keeps_replyEnds : s.keeps s.replyEnds := by
  have next (u : State) : u.keeps u.takeNext := by
    unfold State.takeNext
    split
    · exact (State.keeps_setPanel _).trans (State.keeps_take _)
    · exact .refl u
  unfold State.replyEnds
  split
  · exact State.keeps_ite (fun _ => State.keeps_deviceReset) fun _ => (State.keeps_setPanel _).trans (next _)
  · exact .refl s

theorem State.keeps_noticeEnds : s.keeps s.noticeEnds := by
  unfold State.noticeEnds
  split
  · exact State.keeps_setPanel _
  · exact .refl s

theorem State.keeps_silenceExpires : s.keeps s.silenceExpires := by
  unfold State.silenceExpires
  split
  · exact (State.keeps_raise ..).of_eq_left (by rfl)
  · exact .refl s

theorem State.keeps_submitFrame (f : PanelFrame) : s.keeps (s.submitFrame f) :=
  State.keeps_ite (fun _ => (State.keeps_setPanel _).trans (State.keeps_arrive f)) fun _ => .refl s

/-! ### Every command -/

theorem event_keeps {f : State → State} (kept : s.keeps (f s)) (h : event f s = .next t) : s.keeps t := by
  cases h
  exact State.keeps_ite (fun _ => kept.trans State.keeps_transmit) fun _ => .refl s

theorem State.keeps_setInputs (i : Inputs) : s.keeps { s with inputs := i } := State.keeps_of_eq rfl

/-- Every command keeps Laws 9 and 12. -/
theorem exec_keeps (c : Instr) (h : exec c s = .next t) : s.keeps t := by
  cases frame : c.frame with
  | some f =>
    rw [exec_of_frame frame] at h
    exact event_keeps (State.keeps_submitFrame f) h
  | none =>
    cases c with
    | panelFrameComplete bytes =>
      exact event_keeps (f := fun s => bytes.foldl State.panelByte s)
        (State.keeps_foldl (fun _ b => State.keeps_panelByte b) bytes) h
    | panelFrameGap b =>
      exact event_keeps (f := fun s => ({ s with panel := { s.panel with rx := [] } } : State).panelByte b)
        ((State.keeps_setPanel _).trans (State.keeps_panelByte b)) h
    | panelFrameLengthAbove120 b =>
      exact event_keeps (State.keeps_ite (fun _ => State.keeps_panelByte b) fun _ => .refl s) h
    | replySent => exact event_keeps State.keeps_replyEnds h
    | noticeFrameSent => exact event_keeps State.keeps_noticeEnds h
    | panelSilenceExpiry => exact event_keeps State.keeps_silenceExpires h
    | driveIntervalExpiry => exact event_keeps State.keeps_intervalExpires h
    | slotEnd => exact event_keeps State.keeps_slotEvents.2.1 h
    | spanFrameSent => exact event_keeps State.keeps_slotEvents.1 h
    | quietTimerExpiry => exact event_keeps State.keeps_slotEvents.2.2.1 h
    | surveyTimerExpiry => exact event_keeps State.keeps_slotEvents.2.2.2 h
    | replyWindowExpiry => exact event_keeps State.keeps_windowExpires h
    | reportReceived bytes =>
      exact event_keeps (f := fun s => bytes.foldl State.spanByte s)
        (State.keeps_foldl (fun _ b => State.keeps_spanByte b) bytes) h
    | spanFrameGap b =>
      exact event_keeps (f := fun s => ({ s with span := { s.span with rx := [] } } : State).spanByte b)
        ((State.keeps_setSpan _).trans (State.keeps_spanByte b)) h
    | spanFrameKindNotReport b =>
      exact event_keeps (State.keeps_ite (fun _ => State.keeps_spanByte b) fun _ => .refl s) h
    | stallTimerExpiry k => exact event_keeps (State.keeps_stallTimerExpires k) h
    | sampleTimerExpiry => exact event_keeps (State.keeps_of_eq rfl) h
    | encoderReadComplete q e o => exact event_keeps (State.keeps_readCompletes q e o) h
    | encoderReadTimeout => exact event_keeps State.keeps_readTimesOut h
    | prestartTimerExpiry => exact event_keeps State.keeps_prestartExpires h
    | startFailTimerExpiry => exact event_keeps State.keeps_startFails h
    | stopTimerExpiry => exact event_keeps State.keeps_stopTimesOut h
    | recoveryTimerExpiry => exact event_keeps State.keeps_recoveryExpires h
    | chainSenseChange closed =>
      change execChainSenseChange closed s = _ at h
      unfold execChainSenseChange at h
      split at h
      · cases h; exact .refl s
      · exact (State.keeps_setInputs _).trans (event_keeps State.keeps_chainChanged h)
    | powerFailAssert =>
      change execPowerFailAssert s = _ at h
      unfold execPowerFailAssert at h
      split at h
      · cases h; exact .refl s
      · exact (State.keeps_setInputs _).trans (event_keeps State.keeps_powerFails h)
    | powerFailDeassert =>
      change execPowerFailDeassert s = _ at h
      unfold execPowerFailDeassert at h
      split at h
      · exact (State.keeps_setInputs _).trans (event_keeps State.keeps_powerReturns h)
      · cases h; exact .refl s
    | powerOnReset check =>
      cases h
      have read : s.keeps (if check then s else s.invalidateRecord) :=
        State.keeps_ite (fun _ => .refl s) fun _ => State.keeps_invalidateRecord
      exact (read.trans (State.keeps_resetPart false)).trans State.keeps_transmit
    | deviceReset => exact event_keeps State.keeps_deviceReset h
    | supplyLoss => cases h; exact State.keeps_loseWrite.of_eq_right rfl
    | storeWriteComplete verified => exact event_keeps (State.keeps_writeCompletes verified) h
    | _ => cases frame

theorem step_keeps (h : step s = .next t) : s.keeps t := by
  unfold step at h
  split at h
  next c rest _ =>
    have popped : s.keeps { s with pending := rest } := State.keeps_of_eq rfl
    exact popped.trans (exec_keeps c h)
  · cases h
    exact State.keeps_ite (fun _ => State.keeps_of_eq rfl) fun _ => .refl s

/-- Settles O7: every command keeps both laws (`exec_keeps`). Slip factors move only at the close of a window, at a change of
membership and at a reset; an angle enters as a valid sample, as a checked field of a request or from a stored image, and
every other is copied from one held. -/
theorem slipFactorsAndPivotAnglesStayInRange : Obligations.SlipFactorsAndPivotAnglesStayInRange :=
  ⟨fun _ _ bounded h => State.slipBounded_iff.2 ((step_keeps h).slips (State.slipBounded_iff.1 bounded)),
    fun _ _ angles h => State.anglesHold_iff.2 ((step_keeps h).angles (State.anglesHold_iff.1 angles))⟩

end Sys2Proof.Machine
end

section
/-! SUPPORT. The events of the angle unit (R20, R23, R33): the sample timer, a read that gives no angle, and a stall timer that
runs out (O51). -/

namespace Sys2Proof.Machine

variable {s : State}

/-- An event of a part with supply: what it does, and then the transmit side's choice. -/
theorem event_powered (powered : s.powered = true) (f : State → State) : event f s = .next (f s).transmit :=
  congrArg Host.Outcome.next (if_pos powered)

/-- The sample that a failed read gives (R20). -/
theorem State.takeSample_invalid {q : Nat} {e : Bool} (h : 36000 ≤ q ∨ e = true) (o : SampleOrder) :
    s.takeSample q e o = s.invalidSample := by
  refine if_neg ?_
  rintro ⟨low, rfl⟩
  exact h.elim (Nat.not_le.2 low) nofun

/-- The held angle keeps its value, marked invalid, in a run of invalid samples (R23). -/
def State.markInvalid (s : State) : State := { s with angle := { s.angle with heldValid := false, invalidRun := true } }

theorem State.invalidSample_first (h : s.angle.invalidRun = false) :
    s.invalidSample = s.markInvalid.raise .angleInvalid none := by
  unfold State.invalidSample
  rw [h]
  rfl

theorem State.invalidSample_later (h : s.angle.invalidRun = true) : s.invalidSample = s.markInvalid := by
  unfold State.invalidSample
  rw [h]
  rfl

theorem State.readTimesOut_reading (h : s.angle.reading = true) :
    s.readTimesOut = (s.runTo (s.angle.sampleTimer.startedAt + 1)).endRead.invalidSample := if_pos h

theorem State.readTimesOut_idle (h : s.angle.reading = false) : s.readTimesOut = s := if_neg (by simp [h])

theorem State.stallTimerExpires_idle {k : Nat} (h : (s.tower k).dyn.stall = .idle) : s.stallTimerExpires k = s := by
  unfold State.stallTimerExpires
  rw [h]

theorem State.stallTimerExpires_running {k : Nat} {c : U16} {since : Nat} (h : (s.tower k).dyn.stall = .running c since) :
    s.stallTimerExpires k = ((s.runTo (since + s.tval k .stallTime * 1000)).setDyn k fun d => { d with
      stall := .running c (s.runTo (since + s.tval k .stallTime * 1000)).clock }).raise .stall (some k) := by
  unfold State.stallTimerExpires
  rw [h]
  exact State.stallExpires_running h

/-- Settles O51: each event by its own cases, the read in progress or not, the first of a run of invalid samples or a later
one, the stall timer running or idle. -/
theorem invalidSamplesAndTheTimersOfTheAngleUnit : Obligations.InvalidSamplesAndTheTimersOfTheAngleUnit := by
  refine ⟨⟨fun s powered => event_powered powered _, fun s q e o powered => ⟨fun late => ?_, fun idle => ?_⟩⟩,
    fun s q e o powered reading => ⟨fun inTime fails => ⟨fun later => ?_, fun first => ?_⟩, fun later => ?_, fun first => ?_⟩,
    fun s k powered _ _ => ⟨fun idle => ?_, fun c since running => ?_⟩⟩
  · exact (event_powered powered _).trans (by rw [s.readCompletes_of_late q e o late])
  · exact (event_powered powered _).trans (by rw [State.readTimesOut_idle idle])
  · refine (event_powered powered _).trans ?_
    rw [s.readCompletes_of_reading q e o reading inTime, State.takeSample_invalid fails, State.invalidSample_later (by exact later)]
    rfl
  · refine (event_powered powered _).trans ?_
    rw [s.readCompletes_of_reading q e o reading inTime, State.takeSample_invalid fails, State.invalidSample_first (by exact first)]
    rfl
  · refine (event_powered powered _).trans ?_
    rw [State.readTimesOut_reading reading, State.invalidSample_later (by exact later)]
    rfl
  · refine (event_powered powered _).trans ?_
    rw [State.readTimesOut_reading reading, State.invalidSample_first (by exact first)]
    rfl
  · exact (event_powered powered _).trans (by rw [State.stallTimerExpires_idle idle])
  · refine (event_powered powered _).trans ?_
    rw [State.stallTimerExpires_running running]
    rfl

end Sys2Proof.Machine
end

section
/-! SUPPORT. A valid sample (R20, R22, R24, R36), block by block: what the angle unit, the sector table, the run controller and
the watch unit make of it, and the sample of a machine at rest (O49). -/

namespace Sys2Proof.Machine

variable {s : State}

/-! ### The angle unit -/

/-- A word in time of a part with supply is a valid sample where it names an angle of the pivot. -/
theorem exec_encoderReadComplete (powered : s.powered = true) (reading : s.angle.reading = true)
    (inTime : s.clock ≤ s.angle.sampleTimer.startedAt + 1) {q : Nat} (angle : q < 36000) (order : SampleOrder) :
    exec (.encoderReadComplete q false order) s = .next (s.endRead.validSample q order).transmit := by
  refine (event_powered powered _).trans ?_
  rw [s.readCompletes_of_reading q false order reading inTime, State.takeSample_of_lt _ q order angle]

/-- The part once the angle unit holds the angle of a valid sample, and a run of invalid ones is ended (R22, R140). -/
def State.seen (s : State) (q : Nat) : State := { s with
  angle := { s.angle with reading := false, held := q, heldValid := true, previous := some q, invalidRun := false }
  faults := { s.faults with records := if s.angle.invalidRun then s.faults.records.map (fun r =>
    if r.kind = .angleInvalid ∧ r.tower = none then { r with condition := .latched } else r) else s.faults.records } }

theorem State.holdAngle_endRead (s : State) (q : Nat) : s.endRead.holdAngle q = s.seen q := by
  have latched (u : State) : u.latchKind .angleInvalid none = { u with faults := { u.faults with
      records := u.faults.records.map fun r =>
        if r.kind = .angleInvalid ∧ r.tower = none then { r with condition := .latched } else r } } := by
    have records := latch_records u fun r => r.kind == .angleInvalid && r.tower == none
    simp only [Bool.and_eq_true, beq_iff_eq] at records
    rw [← records]
    rfl
  unfold State.holdAngle State.seen
  dsimp only
  rw [latched, s.endRead_angle]
  cases s.angle.invalidRun <;> rfl

/-- The first valid sample after a reset (R22). -/
theorem State.validSample_first (first : s.angle.previous = none) (q : Nat) (order : SampleOrder) :
    s.endRead.validSample q order = ((s.seen q).sectorSample none q).pivotDrift none q := by
  rw [State.validSample_of_first _ q order (by exact first), State.holdAngle_endRead]

/-- A valid sample with a Δ (R22, R24, R94, R118). -/
theorem State.validSample_next {p : Nat} (previous : s.angle.previous = some p) (q : Nat) (order : SampleOrder) :
    s.endRead.validSample q order =
      ((((s.seen q).passTravel (angleDiff p q)).handOver order s.passDirection p q (angleDiff p q)).gatherTravel
        (angleDiff p q)).pivotDrift (some (angleDiff p q)) q := by
  unfold State.validSample
  rw [State.endRead_angle, State.holdAngle_endRead]
  dsimp only
  rw [previous]
  rfl

/-- The pivot drift check where the machine does not stand (R36). -/
theorem State.pivotDrift_moving (h : ¬ (s.run.mstate = .stopped ∨ s.run.mstate = .held)) (x : Option Int) (q : Nat) :
    s.pivotDrift x q = s := if_neg h

/-- An absent halt angle is recorded (R36). -/
theorem State.pivotDrift_absent (stands : s.run.mstate = .stopped ∨ s.run.mstate = .held) (absent : s.angle.haltAngle = none)
    (x : Option Int) (q : Nat) : s.pivotDrift x q = { s with angle := { s.angle with haltAngle := some q } } := by
  refine (if_pos stands).trans ?_
  rw [absent]

/-- A held halt angle is compared where the sample carries a Δ (R36). -/
theorem State.pivotDrift_held (stands : s.run.mstate = .stopped ∨ s.run.mstate = .held) {h : Nat}
    (held : s.angle.haltAngle = some h) (x : Option Int) (q : Nat) :
    s.pivotDrift x q = if x.isSome ∧ s.mval .driftAngle < (angleDiff h q).natAbs then
      { s.raise .drift none with angle := { (s.raise .drift none).angle with haltAngle := some q } } else s := by
  refine (if_pos stands).trans ?_
  rw [held]

/-! ### The sector table -/

theorem arc_cast (b a : Nat) : (arc b a : Int) = ((a : Int) - b) % 36000 := by
  unfold arc
  omega

theorem Sector.contains_eq (c : Sector) (q : Nat) :
    c.contains q = decide (((q : Int) - c.start) % 36000 < ((c.finish : Int) - c.start) % 36000) := by
  rw [← arc_cast, ← arc_cast]
  exact decide_eq_decide.2 Int.ofNat_lt.symm

theorem Sector.leaveZones_cap {c : Sector} {v : Nat} (h : c.body = .cap v) (q : Nat) : c.leaveZones q = c := by
  unfold Sector.leaveZones
  rw [h]

theorem Sector.leaveZones_barrier {c : Sector} {m : Nat} {a : BarrierAction} {lead trail : ApproachMark}
    (h : c.body = .barrier m a lead trail) (q : Nat) : c.leaveZones q =
      ⟨c.start, c.finish, .barrier m a (if 1 ≤ arc q c.start ∧ arc q c.start ≤ m then lead else .armed)
        (if arc c.finish q < m then trail else .armed)⟩ := by
  unfold Sector.leaveZones Sector.inLead Sector.inTrail
  rw [h]
  simp only [decide_eq_true_eq]

/-- The table that stands from a valid sample on: a pending one with its marks ARMED, or the one installed (R111). -/
def SectorTable.current (c : SectorTable) : List Sector :=
  match c.pending with
  | some t => t.map Sector.rearm
  | none => c.installed

/-- The cap that a containing sector gives (R112). -/
def capOf (c : Option Sector) : Nat :=
  match c.map Sector.body with
  | some (.cap v) => v
  | _ => 1000

/-- The table installed and the cap established at a sample, `within` being the test for the containing sector (R111, R112). -/
def State.capAt (s : State) (within : Sector → Bool) : State := { s with sectors := { s.sectors with
  pending := none, installed := s.sectors.current
  containing := (s.sectors.current.findIdx? within).map (· + 1), cap := capOf (s.sectors.current.find? within) } }

theorem State.installPending_eq (s : State) : s.installPending =
    { s with sectors := { s.sectors with installed := s.sectors.current, pending := none } } := by
  unfold State.installPending SectorTable.current
  cases pending : s.sectors.pending with
  | some t => rfl
  | none =>
    dsimp only
    rw [← pending]

theorem State.establishCap_installPending {within : Sector → Bool} {q : Nat} (h : ∀ c, within c = c.contains q) :
    s.installPending.establishCap q = s.capAt within := by
  obtain rfl : within = fun c => c.contains q := funext h
  rw [State.installPending_eq]
  unfold State.establishCap State.capAt
  dsimp only
  congr 2
  cases s.sectors.current.find? fun c => c.contains q with
  | none => rfl
  | some c => obtain ⟨_, _, _ | _⟩ := c <;> rfl

/-- The sector table's work where no barrier is checked: at a first sample, or outside the moving states (R113, R114). -/
theorem State.sectorSample_unchecked {dir : Option Direction} (still : dir = none ∨ s.run.mstate.moving = false)
    {within : Sector → Bool} {q : Nat} (h : ∀ c, within c = c.contains q) :
    s.sectorSample dir q = (s.capAt within).rearmOutside q := by
  unfold State.sectorSample
  rw [State.establishCap_installPending h]
  cases dir with
  | none => rfl
  | some d =>
    obtain none | still := still
    · cases none
    have notRunning : (s.capAt within).run.mstate ≠ .running := fun running => by
      rw [show s.run.mstate = .running from running] at still
      cases still
    have overrun : (s.capAt within).overrunCheck q = s.capAt within := by
      refine if_neg ?_
      rw [show (s.capAt within).run.mstate.moving = false from still]
      exact nofun
    have approach : (s.capAt within).approachCheck d q = s.capAt within := if_neg notRunning
    dsimp only
    rw [overrun, approach]

/-! ### The run controller -/

theorem State.passTravel_eq (s : State) (x : Int) : s.passTravel x = { s with run := { s.run with
    pass := s.run.pass.map fun p => { p with travel := max (-4000000) (min 4000000 (p.travel + signed p.direction x)) } } } := by
  have clamp (v : Int) : clampInt (-4000000) 4000000 v = max (-4000000) (min 4000000 v) := by
    unfold clampInt
    omega
  unfold State.passTravel State.setPass State.setRun
  simp only [clamp]

theorem State.passCheck_of_ne (h : s.run.mstate ≠ .running) (p : Nat) (x : Int) : s.passCheck p x = s := by
  unfold State.passCheck
  split
  next running _ => exact absurd running h
  next => rfl

/-! ### The watch unit -/

/-- With every entry disabled no crossing is tested with effect (R119, R125). -/
theorem State.watchSample_disabled (h : ∀ n, 1 ≤ n → n ≤ 8 → (s.watchEntry n).cfg.enabled = false) (p q : Nat) (x : Int) :
    s.watchSample p q x = s := by
  have disabled (n : Nat) : (s.watchEntry n).live = false := by
    by_cases real : 1 ≤ n ∧ n ≤ 8
    · simp [Watch.live, h n real.1 real.2]
    · simp [Watch.live, State.watchEntry, nth_of_not_mem _ real, WatchConfig.empty]
  have test (n : Nat) (d : Direction) (c : Crossing) : State.testCrossing n d s c = s := by
    refine if_neg ?_
    rw [disabled]
    exact nofun
  unfold State.watchSample
  split
  · rfl
  · exact List.foldl_fixed' (fun n => List.foldl_fixed' (test n _) _) _

/-! ### The machine at rest -/

/-- Outside the moving states, with no watch enabled, the three blocks do in every order what the sector table does. -/
theorem State.handOver_still (still : s.run.mstate.moving = false)
    (disabled : ∀ n, 1 ≤ n → n ≤ 8 → (s.watchEntry n).cfg.enabled = false) (order : SampleOrder) (dir : Direction)
    (p q : Nat) (x : Int) {within : Sector → Bool} (h : ∀ c, within c = c.contains q) :
    s.handOver order dir p q x = (s.capAt within).rearmOutside q := by
  have sector : s.sectorSample (some dir) q = (s.capAt within).rearmOutside q :=
    State.sectorSample_unchecked (.inr still) h
  have run (u : State) (same : u.run = s.run) : u.passCheck p x = u := by
    refine State.passCheck_of_ne (fun running => ?_) p x
    rw [← same, running] at still
    cases still
  have watch (u : State) (same : u.watch = s.watch) : u.watchSample p q x = u := by
    refine State.watchSample_disabled (fun n h1 h8 => ?_) p q x
    unfold State.watchEntry
    rw [same]
    exact disabled n h1 h8
  generalize hu : (s.capAt within).rearmOutside q = u at sector
  have runs : u.run = s.run := hu ▸ rfl
  have watches : u.watch = s.watch := hu ▸ rfl
  cases order <;> simp only [State.handOver, sector, run s rfl, run u runs, watch s rfl, watch u watches]

/-- The part after a valid sample of a machine at rest, but for its halt angle: `x` is the Δ of the sample, if it has one. -/
def State.atRestSample (s : State) (q : Nat) (x : Option Int) (within : Sector → Bool) : State :=
  let moved := match x with
    | some x => (s.seen q).passTravel x
    | none => s.seen q
  let sectored := (moved.capAt within).rearmOutside q
  match x with
  | some x => sectored.gatherTravel x
  | none => sectored

/-- A first sample, or one outside the moving states with no watch enabled (R22, R24, R111, R112, R115). -/
theorem State.validSample_still {within : Sector → Bool} {q : Nat} (h : ∀ c, within c = c.contains q)
    (still : s.angle.previous = none ∨
      (s.run.mstate.moving = false ∧ ∀ n, 1 ≤ n → n ≤ 8 → (s.watchEntry n).cfg.enabled = false)) (order : SampleOrder) :
    let x := s.angle.previous.map fun p => angleDiff p q
    s.endRead.validSample q order = (s.atRestSample q x within).pivotDrift x q := by
  dsimp only
  cases previous : s.angle.previous with
  | none =>
    rw [State.validSample_first previous, State.sectorSample_unchecked (.inl rfl) h]
    rfl
  | some p =>
    obtain none | ⟨rests, disabled⟩ := still
    · cases previous.symm.trans none
    rw [State.validSample_next previous, State.handOver_still (within := within) (by exact rests) (by exact disabled) _ _ _ _ _ h]
    rfl

/-- Settles O49: a first sample, or one of a machine at rest, does in every order what the sector table does
(`State.validSample_still`); the rest is the pivot drift check. -/
theorem validSampleOfAMachineAtRest : Obligations.ValidSampleOfAMachineAtRest := by
  intro s q order powered reading inTime angle still stands table delta records settled moved u halted
  have sample : s.atRestSample q delta (fun c => c.contains q) = u := by
    have settles : settled = fun c => c.leaveZones q := by
      funext c
      simp only [settled]
      cases body : c.body with
      | cap v => rw [Sector.leaveZones_cap body]
      | barrier m a lead trail => rw [Sector.leaveZones_barrier body]
    have moves (x : Int) : (s.seen q).passTravel x =
        { s.seen q with run := { s.run with pass := s.run.pass.map (moved x) } } := State.passTravel_eq ..
    simp only [u, settles]
    cases hd : delta with
    | none => rfl
    | some x =>
      unfold State.atRestSample
      dsimp only
      rw [moves]
      rfl
  have exec : exec (.encoderReadComplete q false order) s = .next (u.pivotDrift delta q).transmit := by
    rw [exec_encoderReadComplete powered reading inTime angle, State.validSample_still (fun _ => rfl) still]
    exact congrArg (fun v : State => Host.Outcome.next (v.pivotDrift delta q).transmit) sample
  refine ⟨fun moving => ?_, fun stands absent => ?_, fun h stands held => ⟨fun small => ?_, fun carried large => ?_⟩⟩
  · rw [exec, State.pivotDrift_moving (s := u) moving]
  · rw [exec, State.pivotDrift_absent (s := u) stands absent]
  · rw [exec, State.pivotDrift_held (s := u) stands held, if_neg]
    rintro ⟨carried, large⟩
    rcases small with none | small
    · rw [none] at carried
      cases carried
    · exact absurd large (Nat.not_lt.2 small)
  · rw [exec, State.pivotDrift_held (s := u) stands held, if_pos ⟨Option.isSome_iff_ne_none.2 carried, large⟩]

end Sys2Proof.Machine
end

section
/-! SUPPORT. A valid sample of a machine that moves (R92 to R94, R111 to R115, R118): the three blocks, taken in the
order given. -/

namespace Sys2Proof.Machine

variable {s : State}

/-! ### The three blocks in the order given -/

theorem swept_iff (p : Nat) (x : Int) (a : Nat) : swept p x a = true ↔
    (0 < x ∧ 1 ≤ ((a : Int) - p) % 36000 ∧ ((a : Int) - p) % 36000 ≤ x) ∨
      (x < 0 ∧ 1 ≤ ((p : Int) - a) % 36000 ∧ ((p : Int) - a) % 36000 ≤ -x) := by
  unfold swept
  rw [← arc_cast, ← arc_cast]
  split
  · simp only [decide_eq_true_eq]
    omega
  split
  · simp only [decide_eq_true_eq]
    omega
  · simp only [Bool.false_eq_true, false_iff]
    omega

theorem Pass.crossesStop_iff (r : Pass) (p : Nat) (x : Int) : r.crossesStop p x = true ↔
    0 < signed r.direction x ∧ ∃ a, r.stopAngle = some a ∧
      ((0 < x ∧ 1 ≤ ((a : Int) - p) % 36000 ∧ ((a : Int) - p) % 36000 ≤ x) ∨
        (x < 0 ∧ 1 ≤ ((p : Int) - a) % 36000 ∧ ((p : Int) - a) % 36000 ≤ -x)) := by
  unfold Pass.crossesStop
  cases r.stopAngle with
  | none => simp
  | some a => simp [swept_iff]

theorem Pass.reachesCircles_iff (r : Pass) :
    r.reachesCircles = true ↔ ∃ n : Nat, r.circles = some n ∧ (36000 * n : Int) ≤ r.travel := by
  unfold Pass.reachesCircles
  cases r.circles <;> simp

/-- The run controller's check, with the crossing and the circle target told by other means (R92, R93). -/
theorem State.passCheck_eq {crossed reached : Pass → Bool} {p : Nat} {x : Int}
    (hc : ∀ r, crossed r = r.crossesStop p x) (hr : ∀ r, reached r = r.reachesCircles) :
    s.passCheck p x = match s.run.mstate, s.run.pass with
      | .running, some r =>
        if crossed r then s.enterStopping .stopped (some .stopAngle)
        else if reached r then s.enterStopping .stopped (some .circles)
        else s
      | _, _ => s := by
  obtain rfl : crossed = fun r => r.crossesStop p x := funext hc
  obtain rfl : reached = Pass.reachesCircles := funext hr
  rfl

/-- The sector table's five steps, with the containing sector and the re-arming told by other means (R111 to R115). -/
theorem State.sectorSample_eq {within : Sector → Bool} {settled : Sector → Sector} {q : Nat}
    (hw : ∀ c, within c = c.contains q) (hs : ∀ c, settled c = c.leaveZones q) (dir : Direction) :
    let checked := ((s.capAt within).overrunCheck q).approachCheck dir q
    s.sectorSample (some dir) q =
      { checked with sectors := { checked.sectors with installed := checked.sectors.installed.map settled } } := by
  obtain rfl : settled = fun c => c.leaveZones q := funext hs
  unfold State.sectorSample
  rw [State.establishCap_installPending hw]
  rfl

/-- The order in which the blocks take a sample, with each block's work told by other means (R94, R118). -/
theorem State.handOver_eq {run sector watch : State → State} {dir : Direction} {p q : Nat} {x : Int}
    (hr : ∀ u, run u = u.passCheck p x) (hs : ∀ u, sector u = u.sectorSample (some dir) q)
    (hw : ∀ u, watch u = u.watchSample p q x) (order : SampleOrder) :
    s.handOver order dir p q x = match order with
      | .rsw => watch (sector (run s))
      | .rws => sector (watch (run s))
      | .srw => watch (run (sector s))
      | .swr => run (watch (sector s))
      | .wrs => sector (run (watch s))
      | .wsr => run (sector (watch s)) := by
  obtain rfl : run = fun u => u.passCheck p x := funext hr
  obtain rfl : sector = fun u => u.sectorSample (some dir) q := funext hs
  obtain rfl : watch = fun u => u.watchSample p q x := funext hw
  cases order <;> rfl

/-- The pivot drift check of a sample with a Δ, its three cases in one (R36). -/
theorem State.pivotDrift_some (s : State) (x : Int) (q : Nat) :
    s.pivotDrift (some x) q =
      if s.run.mstate == .stopped || s.run.mstate == .held then
        match s.angle.haltAngle with
        | none => { s with angle := { s.angle with haltAngle := some q } }
        | some h => if s.mval .driftAngle < (angleDiff h q).natAbs then
            { s.raise .drift none with angle := { (s.raise .drift none).angle with haltAngle := some q } } else s
      else s := by
  by_cases stands : s.run.mstate = .stopped ∨ s.run.mstate = .held
  · rw [if_pos (by simpa using stands)]
    cases halt : s.angle.haltAngle with
    | none => exact State.pivotDrift_absent stands halt ..
    | some h => simp [State.pivotDrift_held stands halt]
  · rw [if_neg (by simpa using stands), State.pivotDrift_moving stands]

end Sys2Proof.Machine
end

section
/-! SUPPORT. The pass that a valid sample moves on or ends (R24, R92, R93, R95): the entry to STOPPING of a machine that still
moves, the notice of it, and a sample without sectors and watches (O50). -/

namespace Sys2Proof.Machine

variable {s t u : State}

/-! ### The entry to STOPPING (R84, R95) -/

/-- A machine entering STOPPING on an ACTIVE line: the line, the watch levels and the marks stand. -/
theorem State.enter_stopping (active : s.span.mode = .active) (dest : Destination) (reason : Option PassEnd) :
    s.enter .stopping (some dest) reason = { s.setMachine .stopping (some dest) reason none with
      panel := (s.queueNotice .machine (.state .stopping (some dest))).panel
      angle := { s.angle with haltAngle := none }
      store := { s.store with record := ⟨true, lossClass .stopping (some dest), s.run.pass, none, none⟩ } } := by
  have queued : (s.setMachine .stopping (some dest) reason none).queueNotice .machine (.state .stopping (some dest)) =
      { s.setMachine .stopping (some dest) reason none with
        panel := (s.queueNotice .machine (.state .stopping (some dest))).panel } :=
    State.queueNotice_of_panel (s.setMachine_panel ..) ..
  have record (u : State) (hu : u.run = (s.setMachine .stopping (some dest) reason none).run) : u.recordFollows =
      { u with store := { u.store with record := ⟨true, lossClass .stopping (some dest), s.run.pass, none, none⟩ } } := by
    unfold State.recordFollows State.rewriteRecord
    rw [hu]
    rfl
  have line (u : State) (hu : u.run.mstate = .stopping) (active : u.span.mode = .active) : u.lineFollows = u := by
    unfold State.lineFollows
    rw [if_neg (by simp [hu]), if_neg (by simp [hu]), State.leaveQuiet_active active]
  have angle (u : State) (hu : u.run.mstate = .stopping) :
      u.angleFollows = { u with angle := { u.angle with haltAngle := none } } := by
    unfold State.angleFollows
    rw [hu]
    simp [MState.moving, hu]
  have levels (u : State) (hu : u.run.mstate = .stopping) : u.levelsFollow s.run.mstate = u := by
    unfold State.levelsFollow
    rw [hu]
    simp [MState.moving]
  have marks (u : State) (hu : u.run.mstate = .stopping) : u.marksFollow = u := by
    unfold State.marksFollow
    rw [if_neg (by simp [hu])]
  unfold State.enter State.enterWith
  dsimp only
  rw [if_pos rfl, queued]
  generalize hv : ({ s.setMachine .stopping (some dest) reason none with
    panel := (s.queueNotice .machine (.state .stopping (some dest))).panel } : State) = v
  have run : v.run = (s.setMachine .stopping (some dest) reason none).run := hv ▸ rfl
  have span : v.span = s.span := hv ▸ rfl
  have state : v.run.mstate = .stopping := congrArg RunController.mstate run
  rw [record v run, line, angle, levels, marks, ← hv]
  · rfl
  · exact state
  · exact state
  · exact state
  · exact state
  · exact span ▸ active

theorem State.atRest_of_table (h : t.table = s.table) : t.atRest = s.atRest := by
  unfold State.atRest
  rw [State.members_of_machine (congrArg TowerTable.machine h)]
  simp only [State.tower_of_table h]

/-- STOPPING entered by a machine on an ACTIVE line of which some tower is not yet halted. -/
theorem State.enterStopping_moving (active : s.span.mode = .active) (moves : s.atRest = false) (dest : Destination)
    (reason : Option PassEnd) : s.enterStopping dest reason = { s with
      run := { s.run with
        mstate := .stopping, dest := some dest, reason := reason, origin := none, contactor := true, warning := false
        prestartTimer := none, startFailTimer := none, stopTimer := some ⟨s.mval .stopTimeout * 1000, s.clock⟩ }
      panel := (s.queueNotice .machine (.state .stopping (some dest))).panel
      angle := { s.angle with haltAngle := none }
      store := { s.store with record := ⟨true, lossClass .stopping (some dest), s.run.pass, none, none⟩ } } := by
  unfold State.enterStopping
  dsimp only
  rw [State.enter_stopping (by exact active), State.queueNotice_panel (s := s) (by rfl)]
  unfold State.stoppingTest
  rw [if_neg]
  · rfl
  · rintro ⟨-, rests⟩
    rw [State.atRest_of_table (s := s) (by rfl), moves] at rests
    cases rests

/-! ### Notices gained -/

/-- A queue with room takes the notice, or merges it into its entry (R160). -/
theorem State.queueNotice_mem (room : s.panel.notices.length < 32) (subject : Subject) (data : NoticeData) :
    ∃ n ∈ (s.queueNotice subject data).panel.notices, n.subject = subject ∧ n.data = data := by
  unfold State.queueNotice
  dsimp only
  split
  next found =>
    obtain ⟨n, hn, isFor⟩ := List.any_eq_true.1 found
    refine ⟨n.coalesce data, List.mem_map.2 ⟨n, hn, if_pos isFor⟩, ?_, rfl⟩
    simp only [Notice.isFor, Bool.and_eq_true, beq_iff_eq] at isFor
    exact isFor.2
  next =>
    exact ⟨_, List.mem_append_right _ (.head _), rfl, rfl⟩

/-- The transmit side's choice takes no notice from the queue (R158, R162). -/
theorem State.transmit_mem {n : Notice} (h : n ∈ s.panel.notices) :
    ∃ m ∈ s.transmit.panel.notices, m.subject = n.subject ∧ m.data = n.data := by
  unfold State.transmit
  dsimp only
  repeat' split
  case h_2 chosen _ =>
    refine ⟨_, List.mem_map_of_mem h, ?_⟩
    split <;> exact ⟨rfl, rfl⟩
  all_goals exact ⟨n, h, rfl, rfl⟩

theorem State.gains_transmit {subject : Subject} {data : NoticeData} (h : t.gains s subject data) :
    t.transmit.gains s subject data := by
  intro room
  obtain ⟨n, mem, hsubject, hdata⟩ := h room
  obtain ⟨m, mem', sameSubject, sameData⟩ := State.transmit_mem mem
  exact ⟨m, mem', sameSubject.trans hsubject, sameData.trans hdata⟩

/-! ### A pass without sectors and watches -/

theorem State.passCheck_running {r : Pass} (running : s.run.mstate = .running) (pass : s.run.pass = some r) (p : Nat)
    (x : Int) : s.passCheck p x =
      if r.crossesStop p x then s.enterStopping .stopped (some .stopAngle)
      else if r.reachesCircles then s.enterStopping .stopped (some .circles)
      else s := by
  unfold State.passCheck
  rw [running, pass]

/-- A machine RUNNING on an ACTIVE line, some tower not yet halted: its pass may end at a sample without a stop at once. -/
structure State.Passing (s : State) (r : Pass) : Prop where
  running : s.run.mstate = .running
  pass : s.run.pass = some r
  active : s.span.mode = .active
  moves : s.atRest = false

/-- The check of the pass leaves sectors and watches alone. -/
theorem State.Passing.passCheck_stands {r : Pass} (h : s.Passing r) (p : Nat) (x : Int) :
    (s.passCheck p x).sectors = s.sectors ∧ (s.passCheck p x).watch = s.watch := by
  rw [State.passCheck_running h.running h.pass]
  simp only [State.enterStopping_moving h.active h.moves]
  repeat' split
  all_goals exact ⟨rfl, rfl⟩

/-- The check of the pass and the installation of a table do not touch each other. -/
theorem State.Passing.passCheck_capAt {r : Pass} (h : s.Passing r) (within : Sector → Bool) (p : Nat) (x : Int) :
    (s.capAt within).passCheck p x = (s.passCheck p x).capAt within := by
  have stops (reason : Option PassEnd) :
      (s.capAt within).enterStopping .stopped reason = (s.enterStopping .stopped reason).capAt within := by
    rw [State.enterStopping_moving h.active h.moves, State.enterStopping_moving (by exact h.active) (by exact h.moves),
      State.queueNotice_panel (s := s) (t := s.capAt within) rfl]
    rfl
  rw [State.passCheck_running h.running h.pass, State.passCheck_running (by exact h.running) (by exact h.pass), stops, stops]
  repeat' split
  all_goals rfl

/-- With no sectors the table's work is the cap of 1000. -/
theorem State.sectorSample_empty (installed : s.sectors.installed = []) (pending : s.sectors.pending = none)
    (dir : Direction) (q : Nat) : s.sectorSample (some dir) q = s.capAt fun c => c.contains q := by
  have current : s.sectors.current = [] := by
    unfold SectorTable.current
    rw [pending, installed]
  have overrun : (s.capAt fun c => c.contains q).overrunCheck q = s.capAt fun c => c.contains q := by
    refine if_neg ?_
    simp [State.capAt, current]
  have approach : (s.capAt fun c => c.contains q).approachCheck dir q = s.capAt fun c => c.contains q := by
    unfold State.approachCheck
    rw [show (s.capAt fun c => c.contains q).sectors.installed = [] from current]
    exact ite_self _
  have swept := State.sectorSample_eq (s := s) (q := q) (fun c => rfl) (fun c => rfl) dir
  rw [overrun, approach] at swept
  rw [swept]
  unfold State.capAt
  rw [current]
  rfl

/-- In every order the pass is checked and the cap established. -/
theorem State.Passing.handOver {r : Pass} (h : s.Passing r) (installed : s.sectors.installed = [])
    (pending : s.sectors.pending = none) (disabled : ∀ n, 1 ≤ n → n ≤ 8 → (s.watchEntry n).cfg.enabled = false)
    (order : SampleOrder) (dir : Direction) (p q : Nat) (x : Int) :
    s.handOver order dir p q x = (s.passCheck p x).capAt fun c => c.contains q := by
  obtain ⟨sectors, watches⟩ := h.passCheck_stands p x
  have cross := h.passCheck_capAt (fun c => c.contains q) p x
  have sector (u : State) (same : u.sectors = s.sectors) :
      u.sectorSample (some dir) q = u.capAt fun c => c.contains q :=
    State.sectorSample_empty (same ▸ installed) (same ▸ pending) dir q
  have watch (u : State) (same : u.watch = s.watch) : u.watchSample p q x = u := by
    refine State.watchSample_disabled (fun n h1 h8 => ?_) p q x
    unfold State.watchEntry
    rw [same]
    exact disabled n h1 h8
  have capped (u : State) (same : u.watch = s.watch) :
      (u.capAt fun c => c.contains q).watchSample p q x = u.capAt fun c => c.contains q := watch _ same
  cases order <;> simp only [State.handOver, sector s rfl, sector _ sectors, watch s rfl, watch _ watches, capped s rfl,
    capped _ watches, cross]

/-- What the check of the pass leaves of a machine RUNNING, and how it ends the pass (R92, R93, R95). -/
theorem State.Passing.passCheck_outcome {r : Pass} (h : s.Passing r) (p : Nat) (x : Int) :
    let t := s.passCheck p x
    let crossed := r.crossesStop p x = true
    let round := r.reachesCircles = true
    (t.angle.held = s.angle.held ∧ t.angle.heldValid = s.angle.heldValid ∧ t.angle.previous = s.angle.previous) ∧
    t.run.pass = some r ∧ t.table = s.table ∧ t.engine = s.engine ∧ t.run.mstate.moving = true ∧
    (¬ crossed → ¬ round → t.run.mstate = .running ∧ t.run.dest = s.run.dest) ∧
    (crossed ∨ round → t.run.mstate = .stopping ∧ t.run.dest = some .stopped ∧
      t.run.stopTimer = some ⟨s.mval .stopTimeout * 1000, s.clock⟩ ∧
      t.run.reason = some (if crossed then .stopAngle else .circles) ∧
      t.gains s .machine (.state .stopping (some .stopped))) := by
  have notice : s.panel.notices.length < 30 → ∃ n ∈ (s.queueNotice .machine (.state .stopping (some .stopped))).panel.notices,
      n.subject = .machine ∧ n.data = .state .stopping (some .stopped) :=
    fun room => State.queueNotice_mem (by omega) ..
  dsimp only
  rw [State.passCheck_running h.running h.pass]
  split
  next crossed =>
    rw [State.enterStopping_moving h.active h.moves]
    exact ⟨⟨rfl, rfl, rfl⟩, h.pass, rfl, rfl, rfl, fun no => absurd crossed no,
      fun _ => ⟨rfl, rfl, rfl, by simp, notice⟩⟩
  next uncrossed =>
    split
    next round =>
      rw [State.enterStopping_moving h.active h.moves]
      exact ⟨⟨rfl, rfl, rfl⟩, h.pass, rfl, rfl, rfl, fun _ no => absurd round no,
        fun _ => ⟨rfl, rfl, rfl, by simp, notice⟩⟩
    next short =>
      exact ⟨⟨rfl, rfl, rfl⟩, h.pass, rfl, rfl, h.running ▸ rfl, fun _ _ => ⟨h.running, rfl⟩,
        fun ends => absurd ends (not_or.2 ⟨uncrossed, short⟩)⟩

/-- A valid sample of a machine RUNNING, without sectors and watches, is the check of its pass (R24, R92, R93). -/
theorem State.Passing.validSample {r : Pass} {p q : Nat} (h : ((s.seen q).passTravel (angleDiff p q)).Passing r)
    (previous : s.angle.previous = some p) (installed : s.sectors.installed = []) (pending : s.sectors.pending = none)
    (disabled : ∀ n, 1 ≤ n → n ≤ 8 → (s.watchEntry n).cfg.enabled = false) (order : SampleOrder) :
    s.endRead.validSample q order =
      ((((s.seen q).passTravel (angleDiff p q)).passCheck p (angleDiff p q)).capAt fun c => c.contains q).gatherTravel
        (angleDiff p q) := by
  obtain ⟨-, -, -, -, moving, -⟩ := h.passCheck_outcome p (angleDiff p q)
  rw [State.validSample_next previous, h.handOver (by exact installed) (by exact pending) (by exact disabled)]
  refine State.pivotDrift_moving (fun stands => ?_) _ q
  generalize ((s.seen q).passTravel (angleDiff p q)).passCheck p (angleDiff p q) = t at moving stands
  rcases stands with stopped | held
  · rw [show t.run.mstate = .stopped from stopped] at moving
    cases moving
  · rw [show t.run.mstate = .held from held] at moving
    cases moving

/-- Settles O50: each block's work is told by other means (`State.passCheck_eq`, `State.sectorSample_eq`) and taken in the order
given (`State.handOver_eq`); without sectors and watches that is the check of the pass (`State.Passing.validSample`), which
goes on or ends (`State.Passing.passCheck_outcome`). -/
theorem validSampleMovesThePass : Obligations.ValidSampleMovesThePass := by
  constructor
  · intro s p q order powered reading inTime angle previous x toward dir seen crossed reached run sector watch done gathered
      stands halt
    have towards (d : Direction) : toward d = signed d x := rfl
    have crosses (r : Pass) : crossed r = r.crossesStop p x := by
      rw [Bool.eq_iff_iff, Pass.crossesStop_iff]
      simp only [crossed]
      cases r.stopAngle with
      | none => simp
      | some a => simp [towards]
    have runs (u : State) : run u = u.passCheck p x := (State.passCheck_eq crosses fun _ => rfl).symm
    have settles (c : Sector) : (match c.body with
        | .barrier m a lead trail => (⟨c.start, c.finish, .barrier m a
            (if 1 ≤ ((c.start : Int) - q) % 36000 ∧ ((c.start : Int) - q) % 36000 ≤ m then lead else .armed)
            (if ((q : Int) - c.finish) % 36000 < m then trail else .armed)⟩ : Sector)
        | .cap _ => c) = c.leaveZones q := by
      cases body : c.body with
      | cap v => rw [Sector.leaveZones_cap body]
      | barrier m a lead trail =>
        rw [Sector.leaveZones_barrier body, ← arc_cast, ← arc_cast]
        norm_cast
    have sectors (u : State) : sector u = u.sectorSample (some dir) q :=
      (State.sectorSample_eq (fun c => (c.contains_eq q).symm) settles dir).symm
    have moved : (s.seen q).passTravel x = seen := State.passTravel_eq ..
    have handed : ((s.seen q).passTravel x).handOver order s.passDirection p q x = done := by
      rw [moved]
      exact State.handOver_eq runs sectors (fun _ => rfl) order
    rw [exec_encoderReadComplete powered reading inTime angle, State.validSample_next previous, handed]
    exact congrArg (fun u : State => Host.Outcome.next u.transmit) (State.pivotDrift_some gathered x q)
  · intro s p q order r powered reading inTime angle running previous _ pass active installed pending moves disabled
      x forward travel crossed round
    let moved : Pass := { r with travel := travel }
    have passing : ((s.seen q).passTravel x).Passing moved := by
      rw [State.passTravel_eq]
      exact ⟨running, congrArg (Option.map _) pass, active, (State.atRest_of_table (by rfl)).trans moves⟩
    have crosses : moved.crossesStop p x = true ↔ crossed := moved.crossesStop_iff p x
    have rounds : moved.reachesCircles = true ↔ round := moved.reachesCircles_iff
    obtain ⟨⟨held, valid, before⟩, goesOn, table, engine, -, runs, ends⟩ := passing.passCheck_outcome p x
    rw [crosses, rounds] at runs
    simp only [crosses, rounds] at ends
    refine ⟨_, exec_encoderReadComplete powered reading inTime angle order, ?_⟩
    rw [passing.validSample previous installed pending disabled order]
    generalize ((s.seen q).passTravel x).passCheck p x = v at *
    let gathered := (v.capAt fun c => c.contains q).gatherTravel x
    change gathered.transmit.angle.held = _ ∧ _
    simp only [State.transmit_angle, State.transmit_run, State.transmit_table, State.transmit_engine]
    refine ⟨held, valid, before, goesOn, table, engine, runs, fun done => ?_⟩
    obtain ⟨stopping, dest, timer, reason, gains⟩ := ends done
    have queued : gathered.gains s .machine (.state .stopping (some .stopped)) := gains
    exact ⟨stopping, dest, timer, reason, State.gains_transmit queued⟩

end Sys2Proof.Machine
end

section
/-! SUPPORT. What the angle unit and the fault list do with a report taken (R26 to R35, R140 to R143), said once for each of
their examinations (O52). -/

namespace Sys2Proof.Machine

variable {s : State} {k : Nat}

/-! ### The slip window (R26 to R30) -/

theorem State.slipExamine_closed (closed : nth s.angle.windows k none = none) (r : Report) : s.slipExamine k r =
    if s.run.mstate.moving ∧ (s.tower k).dyn.status = .driving then s.openWindow k r.wheel else s := by
  unfold State.slipExamine
  rw [closed]

theorem State.slipExamine_open {w : SlipWindow} (opened : nth s.angle.windows k none = some w) (r : Report) :
    s.slipExamine k r = if s.windowCloses k w r.wheel then s.closeWindow k w r.wheel else s := by
  unfold State.slipExamine
  rw [opened]

theorem MState.moving_iff (m : MState) : m.moving = true ↔ m = .running ∨ m = .stopping := by
  cases m <;> decide

theorem State.windowCloses_iff (s : State) (k : Nat) (w : SlipWindow) (wheel : U16) : s.windowCloses k w wheel = true ↔
    s.tval k .slipWindow ≤ w.travel ∨ (s.tval k .wheelScale < 16 ∧ 30000 ≤ (wheel - w.startCount).toNat) := by
  simp only [State.windowCloses, Bool.or_eq_true, Bool.and_eq_true, decide_eq_true_eq]
  rfl

/-! ### The stall timer, wheel movement and the halt wheel count (R32, R34, R35) -/

theorem stallAfter_idle {o : Nat} {r : Report} (h : o = 0 ∨ r.executing = 0) (clock : Nat) (t : StallTimer) :
    stallAfter clock o r t = .idle := if_neg (by omega)

theorem stallAfter_running {o : Nat} {r : Report} (order : 0 < o) (executing : 0 < r.executing) (clock : Nat)
    (t : StallTimer) : stallAfter clock o r t = match t with
      | .running c since => if c = r.wheel then .running c since else .running r.wheel clock
      | .idle => .running r.wheel clock := if_pos ⟨order, executing⟩

/-- Wheel movement clears the cause of STALL (R32, R140). -/
theorem State.stallExamine_eq (s : State) (k : Nat) (prev : Option Report) (r : Report) :
    let t := s.setDyn k fun d => { d with stall := stallAfter s.clock d.lastOrder r d.stall }
    s.stallExamine k prev r = if ∃ p, prev = some p ∧ p.wheel ≠ r.wheel then t.latchKind .stall (some k) else t := by
  unfold State.stallExamine
  cases prev with
  | none => simp
  | some p => by_cases same : p.wheel = r.wheel <;> simp [same]

theorem State.setDyn_tval (s : State) (k j : Nat) (f : TowerDynamic → TowerDynamic) (field : TowerField) :
    (s.setDyn k f).tval j field = s.tval j field := by
  unfold State.tval
  rw [State.setDyn_tower_cfg]

theorem State.haltExamine_eq (s : State) {k : Nat} (h1 : 1 ≤ k) (h2 : k ≤ 16) (r : Report) :
    let h := haltAfter (s.tower k).dyn.lastOrder r (s.tower k).dyn.haltWheel
    let t := s.setDyn k fun d => { d with haltWheel := h }
    let drifts := (s.run.mstate = .stopped ∨ s.run.mstate = .held) ∧
      ∃ c, h = some c ∧ s.tval k .driftLimit < (r.wheel - c).toNat
    (drifts → s.haltExamine k r =
      ((t.raise .drift (some k)).setDyn k fun d => { d with haltWheel := some r.wheel }, true)) ∧
    (¬ drifts → s.haltExamine k r = (t, false)) := by
  intro h t drifts
  have counted : (s.setDyn k fun d => { d with haltWheel := haltAfter d.lastOrder r d.haltWheel }) = t := rfl
  have halt : (t.tower k).dyn.haltWheel = h := by rw [s.setDyn_tower_self h1 h2]
  have limit : t.tval k .driftLimit = s.tval k .driftLimit := State.setDyn_tval ..
  have state : t.run.mstate = s.run.mstate := rfl
  unfold State.haltExamine
  dsimp only
  rw [counted, halt, limit, state]
  unfold wheelTravel
  cases present : h with
  | none =>
    refine ⟨fun ⟨_, _, count, _⟩ => ?_, fun _ => rfl⟩
    cases present.symm.trans count
  | some c =>
    have drift : drifts ↔ (s.run.mstate = .stopped ∨ s.run.mstate = .held) ∧
        s.tval k .driftLimit < (r.wheel - c).toNat := by
      simp only [drifts, present, Option.some.injEq, exists_eq_left']
    rw [drift]
    exact ⟨fun yes => if_pos yes, fun no => if_neg no⟩

/-! ### The close of a slip window (R27 to R29) -/

/-- The part once a window has closed, before SLIP is raised (assumption log 27). -/
def State.windowClosed (s : State) (k : Nat) (wheel : U16) (raw count : Nat) : State :=
  ({ s.setDyn k fun d => if d.slipFrozen then d else { d with slip := nextSlip d.slip raw } with
    angle := { s.angle with overLimit := setNth s.angle.overLimit k count } } : State).openWindow k wheel

theorem State.windowClosed_tower (s : State) {k : Nat} (h1 : 1 ≤ k) (h2 : k ≤ 16) (wheel : U16) (raw count : Nat) :
    (s.windowClosed k wheel raw count).tower k = { s.tower k with dyn := { (s.tower k).dyn with
      slip := if (s.tower k).dyn.slipFrozen then (s.tower k).dyn.slip else nextSlip (s.tower k).dyn.slip raw } } := by
  refine Eq.trans (s.setDyn_tower_self h1 h2 fun d =>
    if d.slipFrozen then d else { d with slip := nextSlip d.slip raw }) ?_
  by_cases frozen : (s.tower k).dyn.slipFrozen = true
  · rw [if_pos frozen, if_pos frozen]
  · rw [if_neg frozen, if_neg frozen]

theorem State.windowClosed_tower_of_ne (s : State) {j k : Nat} (h : j ≠ k) (wheel : U16) (raw count : Nat) :
    (s.windowClosed k wheel raw count).tower j = s.tower j :=
  s.setDyn_tower_of_ne h fun d => if d.slipFrozen then d else { d with slip := nextSlip d.slip raw }

theorem State.closeWindow_eq (s : State) (k : Nat) (w : SlipWindow) (wheel : U16) :
    let raw := s.windowSlip k w wheel
    let count := if s.tval k .slipLimit < raw then nth s.angle.overLimit k 0 + 1 else 0
    let raised := s.tval k .slipLimit < raw ∧ s.tval k .slipPersistence ≤ count
    s.closeWindow k w wheel =
      if raised then (s.windowClosed k wheel raw (if raised then 0 else count)).raise .slip (some k)
      else s.windowClosed k wheel raw (if raised then 0 else count) := by
  unfold State.closeWindow
  simp only [decide_eq_true_eq]
  rfl

/-! ### The checks of the fault list (R140 to R143) -/

/-- An ACTIVE record of (K, T), told by the list and by the lookup, where no two records are alike (R136). -/
theorem State.faultRecord_active (distinct : s.faultsDistinct) (kind : FaultKind) (t : Option Nat) :
    (match s.faultRecord kind t with | some r => r.condition == .active | none => false) = true ↔
      ∃ r ∈ s.faults.records, r.kind = kind ∧ r.tower = t ∧ r.condition = .active := by
  cases found : s.faultRecord kind t with
  | none =>
    have absent : ∀ r ∈ s.faults.records, r.kind = kind → r.tower ≠ t := by
      simpa [State.faultRecord] using found
    constructor
    · exact nofun
    · rintro ⟨r, hr, kinds, towers, -⟩
      exact absurd towers (absent r hr kinds)
  | some r =>
    have mem : r ∈ s.faults.records := List.mem_of_find?_eq_some found
    have key : r.kind = kind ∧ r.tower = t := by simpa using List.find?_some found
    rw [beq_iff_eq]
    constructor
    · exact fun active => ⟨r, mem, key.1, key.2, active⟩
    · rintro ⟨e, he, kinds, towers, active⟩
      have same : e = r := by
        refine List.inj_on_of_nodup_map distinct.2 he mem ?_
        simp only [FaultRecord.key, kinds, towers, key]
      exact same ▸ active

theorem State.latchKind_eq (s : State) (kind : FaultKind) (t : Option Nat) :
    s.latchKind kind t = { s with faults := { s.faults with records := s.faults.records.map fun r =>
      if r.kind = kind ∧ r.tower = t then { r with condition := .latched } else r } } := by
  have records := latch_records s fun r => r.kind == kind && r.tower == t
  simp only [Bool.and_eq_true, beq_iff_eq] at records
  rw [← records]
  rfl

theorem State.openSwitch_eq_none (s : State) : s.openSwitch = none ↔
    ¬ ∃ j r, 1 ≤ j ∧ j ≤ s.towerCount ∧ (s.tower j).dyn.report = some r ∧ r.switchClosed = false := by
  unfold State.openSwitch
  rw [List.find?_eq_none]
  simp only [s.mem_members, not_exists]
  constructor
  · rintro closed j r ⟨h1, h2, report, opened⟩
    have := closed j ⟨h1, h2⟩
    simp [report, opened] at this
  · rintro none j ⟨h1, h2⟩ opened
    split at opened
    next r report => exact none j r ⟨h1, h2, report, by simpa using opened⟩
    next => cases opened

/-- The warn-persistence counter of tower k with the value c (R140). -/
def State.warnCounted (s : State) (k c : Nat) : State := s.setDyn k fun d => { d with warnCount := c }

theorem State.warnCheck_above (distinct : s.faultsDistinct) {a : Nat} (above : s.jointLimit k .jointWarn < a) :
    let count := min 20 ((s.tower k).dyn.warnCount + 1)
    let stands := ∃ r ∈ s.faults.records, r.kind = .jointWarn ∧ r.tower = some k ∧ r.condition = .active
    let raises := s.tval k .warnPersistence ≤ count ∧ ¬ stands
    (raises → s.warnCheck k a = (s.warnCounted k count).raise .jointWarn (some k)) ∧
    (¬ raises → s.warnCheck k a = s.warnCounted k count) := by
  intro count stands raises
  have active := State.faultRecord_active (s := s.warnCounted k count) distinct .jointWarn (some k)
  have persistence : (s.warnCounted k count).tval k .warnPersistence = s.tval k .warnPersistence := State.setDyn_tval ..
  have raise_iff : ((s.warnCounted k count).tval k .warnPersistence ≤ count ∧
      (match (s.warnCounted k count).faultRecord .jointWarn (some k) with
        | some r => r.condition == .active | none => false) = false) ↔ raises := by
    rw [persistence, ← Bool.not_eq_true, active]
    rfl
  exact ⟨fun yes => (if_pos above).trans (if_pos (raise_iff.2 yes)),
    fun no => (if_pos above).trans (if_neg fun yes => no (raise_iff.1 yes))⟩

theorem State.warnCheck_within {a : Nat} (within : a ≤ s.jointLimit k .jointWarn) :
    s.warnCheck k a = (s.warnCounted k 0).latchKind .jointWarn (some k) := if_neg (Nat.not_lt.2 within)

/-- The joint-trip mark of tower k (R142). -/
def State.tripMarked (s : State) (k : Nat) (m : Bool) : State :=
  { s with faults := { s.faults with tripMarks := setNth s.faults.tripMarks k m } }

theorem State.tripCheck_above {a : Nat} (above : s.jointLimit k .jointTrip < a) : s.tripCheck k a =
    if nth s.faults.tripMarks k false then s else (s.tripMarked k true).raise .jointTrip (some k) := if_pos above

theorem State.tripCheck_within {a : Nat} (within : a ≤ s.jointLimit k .jointTrip) : s.tripCheck k a = s.tripMarked k false :=
  if_neg (Nat.not_lt.2 within)

/-- Settles O52: the angle unit's three examinations, the close of a slip window, and the fault list's four checks, one lemma
for each. -/
theorem reportsAreExamined : Obligations.ReportsAreExamined := by
  refine ⟨fun s k prev r h1 h2 => ⟨fun closed => ?_, fun w opened => ?_, ?_, ?_⟩, fun s k w wheel h1 h2 => ?_,
    fun s k a h1 h2 distinct => ?_, fun s k r => ?_⟩
  · rw [State.slipExamine_closed closed]
    refine ⟨fun moves driving => if_pos ⟨(MState.moving_iff _).2 moves, driving⟩, fun no => if_neg ?_⟩
    rintro ⟨moves, driving⟩
    exact no.elim (absurd ((MState.moving_iff _).1 moves)) (absurd driving)
  · rw [State.slipExamine_open opened]
    have closes := s.windowCloses_iff k w r.wheel
    exact ⟨fun yes => if_pos (closes.2 yes), fun no => if_neg fun yes => no (closes.1 yes)⟩
  · refine ⟨stallAfter s.clock (s.tower k).dyn.lastOrder r (s.tower k).dyn.stall, s.stallExamine_eq k prev r,
      fun none => stallAfter_idle none .., fun order executing idle => ?_, fun order executing c since running => ?_⟩
    · rw [stallAfter_running order executing, idle]
    · rw [stallAfter_running order executing, running]
  · exact ⟨_, rfl, s.haltExamine_eq h1 h2 r⟩
  · intro half expected rolled raw old count raised
    refine ⟨s.windowClosed k wheel raw (if raised then 0 else count), rfl, s.closeWindow_eq k w wheel, rfl,
      fun j other => s.windowClosed_tower_of_ne other .., s.windowClosed_tower h1 h2 .., rfl⟩
  · intro warn trip count counted stands raises settled marked
    refine ⟨fun above raise => (State.warnCheck_above distinct above).1 raise,
      fun above quiet => (State.warnCheck_above distinct above).2 quiet, fun within => ?_, fun above mark => ?_,
      fun above clear => ?_, fun within => State.tripCheck_within within⟩
    · rw [State.warnCheck_within within, State.latchKind_eq]
      rfl
    · rw [State.tripCheck_above above, if_pos mark]
    · rw [State.tripCheck_above above, if_neg (by simp [clear])]
      rfl
  · intro opened
    refine ⟨fun isOpen energised => if_pos ⟨isOpen, energised⟩, fun no => if_neg ?_, fun closed none => ?_,
      fun no => if_neg ?_⟩
    · rintro ⟨isOpen, energised⟩
      rcases no with closed | off
      · rw [isOpen] at closed
        cases closed
      · rw [off] at energised
        cases energised
    · refine (if_pos ⟨closed, s.openSwitch_eq_none.2 none⟩).trans ?_
      have records := latch_records s fun r => r.kind == .chainOpen
      simp only [beq_iff_eq] at records
      rw [← records]
      rfl
    · rintro ⟨closed, none⟩
      rcases no with off | switch
      · rw [off] at closed
        cases closed
      · exact s.openSwitch_eq_none.1 none switch

end Sys2Proof.Machine
end

section
/-! SUPPORT. The targets and the orders of the order engine (R50 to R56), and what an expiry does with them (R55, R57): the
arithmetic of a shaping and of a ramp step first, then the towers' targets and orders, then the tower table after an expiry. -/

namespace Sys2Proof.Machine

variable {s : State} {k : Nat}

/-! ### Shaping (R50) -/

/-- Round half up is the one whole number whose distance from the quotient the two inequalities bound. -/
theorem roundHalfUp_eq {a b v : Nat} (least : 2 * b * v ≤ 2 * a + b) (next : 2 * a + b < 2 * b * (v + 1)) :
    roundHalfUp a b = v :=
  Nat.div_eq_of_lt_le (by rwa [Nat.mul_comm v]) (by rwa [Nat.mul_comm (v + 1)])

theorem shape_of_nonpos {u : Int} (h : u ≤ 0) (slip m M : Nat) : shape slip m M u = 0 := if_pos h

theorem shape_of_pos {u : Int} (h : 0 < u) (slip m M : Nat) : shape slip m M u =
    let v := roundHalfUp (u.toNat * 1000) (1000 - slip)
    if min v M < m then 0 else min v M := by
  unfold shape
  rw [if_neg (Int.not_le.2 h), Nat.min_comm]

theorem shape_within {slip m M : Nat} {u : Int} (h : 0 < shape slip m M u) :
    m ≤ shape slip m M u ∧ shape slip m M u ≤ M := by
  rcases lt_or_ge 0 u with positive | nonpos
  · rw [shape_of_pos positive] at h ⊢
    dsimp only at h ⊢
    split at h
    next => exact absurd h (Nat.lt_irrefl 0)
    next least =>
      rw [if_neg least]
      exact ⟨Nat.not_lt.1 least, Nat.min_le_right ..⟩
  · rw [shape_of_nonpos nonpos] at h
    exact absurd h (Nat.lt_irrefl 0)

/-! ### A ramp step and the limits (R52 to R55) -/

theorem rampStep_rest (m step prev : Nat) :
    rampStep m step 0 prev = if prev ≤ step ∨ prev - step < m then 0 else prev - step := by
  have fallen : rampStep m step 0 prev = if prev - step < m then 0 else prev - step := if_pos rfl
  rw [fallen]
  by_cases still : prev ≤ step
  · rw [if_pos (Or.inl still), Nat.sub_eq_zero_of_le still, ite_self]
  · simp only [still, false_or]

theorem rampStep_start {t : Nat} (target : 0 < t) (m step : Nat) : rampStep m step t 0 = max m (min t step) := by
  unfold rampStep
  rw [if_neg (Nat.ne_of_gt target), if_pos rfl]

theorem rampStep_follow {t prev : Nat} (target : 0 < t) (moving : 0 < prev) (m step : Nat) :
    rampStep m step t prev = min (prev + step) (max (prev - step) t) := by
  unfold rampStep
  rw [if_neg (Nat.ne_of_gt target), if_neg (Nat.ne_of_gt moving)]
  rfl

/-- The lower limit does nothing to a target of 0. -/
theorem withinLimits_rest (m M v : Nat) : withinLimits m M 0 v = min M v := by simp [withinLimits]

/-- An order that is not below the lower limit is only lowered to the upper one. -/
theorem withinLimits_of_le {m M v : Nat} (limits : m ≤ M) (least : m ≤ v) (t : Nat) : withinLimits m M t v = min M v :=
  if_neg (by omega)

/-- A positive order toward a positive target is brought within both limits. -/
theorem withinLimits_follow {m M t v : Nat} (limits : m ≤ M) (target : 0 < t) (order : 0 < v) :
    withinLimits m M t v = min M (max m v) := by
  unfold withinLimits
  dsimp only
  split <;> omega

theorem withinLimits_rampStep {m M : Nat} (limits : m ≤ M) (step t prev : Nat) :
    let v := withinLimits m M t (rampStep m step t prev)
    v = 0 ∨ (m ≤ v ∧ v ≤ M) := by
  rcases Nat.eq_zero_or_pos t with rfl | target
  · rw [rampStep_rest, withinLimits_rest]
    split <;> omega
  rcases Nat.eq_zero_or_pos prev with rfl | moving
  · rw [rampStep_start target, withinLimits_of_le limits (Nat.le_max_left ..)]
    omega
  · rw [rampStep_follow target moving, withinLimits_follow limits target (by omega)]
    omega

/-! ### The fallbacks of deferred faults (R136, R144) -/

/-- Where no two records are alike, the lookup of a kind and tower finds the record of that kind and tower. -/
theorem State.faultRecord_eq_some (distinct : s.faultsDistinct) {kind : FaultKind} {t : Option Nat} {r : FaultRecord} :
    s.faultRecord kind t = some r ↔ r ∈ s.faults.records ∧ r.kind = kind ∧ r.tower = t := by
  have sound {e : FaultRecord} (found : s.faultRecord kind t = some e) :
      e ∈ s.faults.records ∧ e.kind = kind ∧ e.tower = t :=
    ⟨List.mem_of_find?_eq_some found, by simpa using List.find?_some found⟩
  refine ⟨sound, fun ⟨mem, kinds, towers⟩ => ?_⟩
  have holds : (s.faultRecord kind t).isSome = true := by
    rw [State.faultRecord, List.find?_isSome]
    exact ⟨r, mem, by simp [kinds, towers]⟩
  obtain ⟨e, found⟩ := Option.isSome_iff_exists.1 holds
  obtain ⟨mem', kinds', towers'⟩ := sound found
  have same : e = r := by
    refine List.inj_on_of_nodup_map distinct.2 mem' mem ?_
    simp only [FaultRecord.key, kinds, towers, kinds', towers']
  rw [found, same]

theorem State.fallback_iff (distinct : s.faultsDistinct) (kind : FaultKind) (k : Nat) : s.fallback kind k = true ↔
    ∃ r ∈ s.faults.records, r.kind = kind ∧ r.tower = some k ∧ r.mode = .deferred ∧ r.condition = .active := by
  have found : s.fallback kind k = true ↔
      ∃ r, s.faultRecord kind (some k) = some r ∧ r.mode = .deferred ∧ r.condition = .active := by
    unfold State.fallback
    cases s.faultRecord kind (some k) <;> simp
  simp only [found, State.faultRecord_eq_some distinct, and_assoc]

/-! ### The target and the order of a tower (R50 to R56) -/

theorem State.target_of_not_running (h : s.run.mstate ≠ .running) (k : Nat) : s.target k = 0 := if_pos h

theorem State.target_freed (running : s.run.mstate = .running) (freed : s.fallback .stall k = true) :
    s.target k = s.tval k .maxOrder := by
  unfold State.target
  rw [if_neg (not_not_intro running), if_pos freed]

theorem State.target_shaped (running : s.run.mstate = .running) (free : ¬ s.fallback .stall k = true) :
    s.target k = shape (s.tower k).dyn.slip (s.tval k .minRun) (s.tval k .maxOrder) (s.unshaped k) := by
  unfold State.target
  rw [if_neg (not_not_intro running), if_neg free]

/-- The step by which the order of tower k may change at an expiry: the stop ramp in STOPPING, else the tower's own. -/
def State.rampOf (s : State) (k : Nat) : Nat :=
  if s.run.mstate = .stopping then s.mval .stopRamp else s.tval k .ramp

theorem State.order_eq (s : State) (k : Nat) : s.order k =
    withinLimits (s.tval k .minRun) (s.tval k .maxOrder) (s.target k)
      (rampStep (s.tval k .minRun) (s.rampOf k) (s.target k) (s.tower k).dyn.lastOrder) := rfl

/-- Law 1 for the set computed (R41, R55, R57). -/
theorem State.setOrder_within (limits : s.tval k .minRun ≤ s.tval k .maxOrder) :
    s.setOrder k = 0 ∨ (s.tval k .minRun ≤ s.setOrder k ∧ s.setOrder k ≤ s.tval k .maxOrder) := by
  unfold State.setOrder
  split
  · rw [s.order_eq]
    exact withinLimits_rampStep limits ..
  · exact Or.inl rfl

/-! ### The tower table after an expiry (R39, R58) -/

theorem State.handSet_table (s : State) (interval : Byte) (dir : Direction) (ks : List Nat) (v : Nat → Nat) :
    (s.handSet ⟨interval, dir, ks.map fun k => (k, v k)⟩).table = (s.takeOrders ks v dir).table := by
  unfold State.handSet
  dsimp only
  rw [List.foldl_map]
  split
  · rw [State.beginDriveRound_table]
    rfl
  · rfl

/-- The state that an expiry computes its set in: the timer has run out, pending tuning is applied, the interval number has
advanced, and the new pace is held (R39). -/
def State.computing (s : State) (timer : Timer) : State :=
  let u := (s.runOut timer).applyPending
  { u with engine := { u.engine with interval := u.engine.interval + 1, pEff := u.effectivePace } }

/-- What an expiry leaves in the tower table: the orders that every tower 1..N takes from the set. -/
theorem State.intervalExpires_table {timer : Timer} (running : s.engine.timer = some timer) :
    let c := s.computing timer
    s.intervalExpires.table = (c.takeOrders c.members c.setOrder c.decideDirection).table := by
  intro c
  unfold State.intervalExpires
  rw [running]
  dsimp only
  rw [State.stoppingTest_table]
  exact c.handSet_table ..

/-- Towers that take orders within their limits have them. -/
theorem State.takeOrders_orderWithin {v : Nat → Nat} (dir : Direction)
    (within : ∀ k, s.tval k .minRun ≤ s.tval k .maxOrder →
      v k = 0 ∨ (s.tval k .minRun ≤ v k ∧ v k ≤ s.tval k .maxOrder)) {t : State}
    (table : t.table = (s.takeOrders s.members v dir).table) (h1 : 1 ≤ k) (hk : k ≤ t.towerCount)
    (limits : t.tval k .minRun ≤ t.tval k .maxOrder) : t.orderWithin k := by
  obtain ⟨-, machine, -⟩ := s.takeOrders_frame s.members v dir
  rw [State.towerCount_of_machine ((congrArg TowerTable.machine table).trans machine)] at hk
  by_cases h2 : k ≤ 16
  · have taken : t.tower k = ⟨(s.tower k).cfg, (s.tower k).dyn.takeOrder (v k) dir⟩ :=
      (State.tower_of_table table k).trans
        (State.takeOrders_tower s.members_nodup (s.mem_members.2 ⟨h1, hk⟩) h1 h2 v dir)
    have order : (t.tower k).dyn.lastOrder = v k := by
      rw [taken]
      rfl
    have kept (f : TowerField) : t.tval k f = s.tval k f := by
      unfold State.tval
      rw [taken]
    rw [kept, kept] at limits
    rw [State.orderWithin, order, kept, kept]
    exact within k limits
  · refine Or.inl ?_
    rw [t.tower_of_not_mem fun ⟨_, le⟩ => h2 le]
    rfl

/-- The set direction after an expiry with nothing pending. -/
theorem State.intervalExpires_direction {timer : Timer} (running : s.engine.timer = some timer)
    (noPending : s.table.pending = []) : s.intervalExpires.engine.direction = s.decideDirection := by
  rw [State.intervalExpires_eq running noPending, State.stoppingTest_engine]
  rfl

theorem State.intervalExpires_no_timer (stopped : s.engine.timer = none) : s.intervalExpires = s := by
  unfold State.intervalExpires
  rw [stopped]

/-- Law 3 for the event itself: a tower that moves, or was last told to, keeps the set direction. -/
theorem State.intervalExpires_keeps_direction (noPending : s.table.pending = []) (moves : ¬ s.clear) :
    s.intervalExpires.engine.direction = s.engine.direction := by
  cases timer : s.engine.timer with
  | none => rw [State.intervalExpires_no_timer timer]
  | some t => rw [State.intervalExpires_direction timer noPending, State.decideDirection_of_not_clear moves]

/-! ### The obligations -/

/-- Settles O45: the two overrides are the first two branches of `State.target`, and the third is `shape`. -/
theorem targetsAreShapedAsStated : Obligations.TargetsAreShapedAsStated := by
  intro s k distinct _ _ _ σ U t freed
  have fallback : s.fallback .stall k = true ↔ freed := State.fallback_iff distinct .stall k
  refine ⟨fun stopping => State.target_of_not_running (by simp [stopping]) k,
    fun running free => State.target_freed running (fallback.2 free), fun running held => ?_⟩
  have shaped : t = shape σ (s.tval k .minRun) (s.tval k .maxOrder) U :=
    State.target_shaped running (mt fallback.1 held)
  rw [shaped]
  refine ⟨fun nonpos => shape_of_nonpos nonpos .., fun positive v next least => ?_, shape_within⟩
  have rounded : roundHalfUp (U.toNat * 1000) (1000 - σ) = v :=
    roundHalfUp_eq (by rwa [← Nat.mul_assoc]) (by rwa [← Nat.mul_assoc])
  rw [shape_of_pos positive, rounded]

/-- Settles O46, by the cases of R52 to R54: a target of 0, a start from rest, and an order that follows its target. -/
theorem ordersRampTowardTheirTargets : Obligations.OrdersRampTowardTheirTargets := by
  intro s k limits ramp least most prev t
  have order : s.order k = withinLimits least most t (rampStep least ramp t prev) := s.order_eq k
  refine ⟨fun rest => ?_, fun target below start => ?_, fun target moving => ?_⟩
  · rw [order, rest, rampStep_rest, withinLimits_rest, apply_ite (min most), Nat.min_zero]
  · rw [order, start, rampStep_start target, withinLimits_of_le limits (Nat.le_max_left ..)]
    omega
  · have follows {v : Nat} (step : min (prev + ramp) (max (prev - ramp) t) = v) :
        s.order k = min most (max least v) := by
      rw [order, rampStep_follow target moving, withinLimits_follow limits target (by omega), step]
    exact ⟨fun above => follows (by omega), fun below => follows (by omega), fun near far => follows (by omega)⟩

/-- Settles O47: every tower takes an order of the set computed, which is within its limits (`State.setOrder_within`), and a
machine that is not clear keeps the set direction (`State.intervalExpires_keeps_direction`). -/
theorem ordersAndDirectionObeyTheirLaws : Obligations.OrdersAndDirectionObeyTheirLaws := by
  refine ⟨fun s timer powered running => ⟨_, exec_driveIntervalExpiry powered, fun k h1 hk limits => ?_⟩,
    fun s t expires noPending turns => ?_⟩
  · have table := s.intervalExpires.transmit_table.trans (State.intervalExpires_table running)
    exact State.takeOrders_orderWithin _ (fun _ => State.setOrder_within) table h1 hk limits
  · change s.clear
    by_contra moves
    cases powered : s.powered with
    | false =>
      have idle : exec .driveIntervalExpiry s = .next s := congrArg Host.Outcome.next (if_neg (by simp [powered]))
      cases idle.symm.trans expires
      exact turns rfl
    | true =>
      cases (exec_driveIntervalExpiry powered).symm.trans expires
      rw [State.transmit_engine] at turns
      exact turns (State.intervalExpires_keeps_direction noPending moves)

end Sys2Proof.Machine
end

section
/-! SUPPORT. Law 2 (R63) as a relation between two states, with a rule for each shared operation: what the orders are read
from, that a change to a state that does not move wants orders of 0, and which operations bring them about. -/

namespace Sys2Proof.Machine

variable {s t u : State}

/-! ### What Law 2 looks at -/

/-- A slot whose frame, if it is a DRIVE frame that is being sent, carries order 0. -/
def Slot.sendsZero (sl : Slot) : Prop := sl.kind = .drive → sl.phase = .sending → sl.order = 0

/-- What Law 2 looks at besides the machine state: the tower count, the last orders sent and the slot in progress. -/
structure Orders where
  count : Nat
  last : Nat → Nat
  slot : Option Slot

def State.orders (s : State) : Orders := ⟨s.towerCount, fun k => (s.tower k).dyn.lastOrder, s.span.slot⟩

/-- Every order of towers 1..N and of the frame that is being sent is 0. -/
structure Orders.zero (o : Orders) : Prop where
  last : ∀ k ∈ upTo o.count, o.last k = 0
  slot : ∀ sl, o.slot = some sl → sl.sendsZero

theorem State.ordersAtRest_iff : s.ordersAtRest ↔ (s.run.mstate.moving = false → s.orders.zero) :=
  forall_congr' fun _ => ⟨fun ⟨last, slot⟩ => ⟨last, slot⟩, fun ⟨last, slot⟩ => ⟨last, slot⟩⟩

theorem State.orders_of_eq (table : t.table = s.table) (slot : t.span.slot = s.span.slot) : t.orders = s.orders := by
  unfold State.orders State.towerCount State.tower
  rw [table, slot]

/-- From s to t Law 2 is kept. -/
structure State.calms (s t : State) : Prop where
  rest : s.ordersAtRest → t.ordersAtRest

theorem State.calms.refl (s : State) : s.calms s := ⟨id⟩

theorem State.calms.trans (first : s.calms t) (second : t.calms u) : s.calms u := ⟨second.rest ∘ first.rest⟩

theorem State.calms_of_rest (rest : t.ordersAtRest) : s.calms t := ⟨fun _ => rest⟩

/-- Only the orders are at stake where the machine does not begin or cease to move. -/
theorem State.calms_of_zero (moving : t.run.mstate.moving = s.run.mstate.moving)
    (zero : s.run.mstate.moving = false → s.orders.zero → t.orders.zero) : s.calms t := by
  refine ⟨fun h => ?_⟩
  rw [State.ordersAtRest_iff] at h ⊢
  exact fun still => zero (moving ▸ still) (h (moving ▸ still))

theorem State.calms_of_eq (run : t.run = s.run) (orders : t.orders = s.orders) : s.calms t :=
  State.calms_of_zero (by rw [run]) fun _ zero => orders ▸ zero

/-- Nothing that Law 2 looks at changes: neither run controller nor tower table nor slot. -/
theorem State.calms_of_same (run : t.run = s.run) (table : t.table = s.table) (slot : t.span.slot = s.span.slot) :
    s.calms t := State.calms_of_eq run (State.orders_of_eq table slot)

theorem State.calms_ite {p : Prop} [Decidable p] (yes : p → s.calms t) (no : ¬p → s.calms u) :
    s.calms (if p then t else u) := by
  split
  next h => exact yes h
  next h => exact no h

theorem State.calms_foldl {α : Type} {f : State → α → State} (step : ∀ (s : State) (a : α), s.calms (f s a))
    (as : List α) : s.calms (as.foldl f s) := by
  induction as generalizing s with
  | nil => exact .refl s
  | cons a as ih => exact (step s a).trans ih

/-! ### Tower records -/

/-- A tower read after one is rewritten is as it was, or is the one rewritten. -/
theorem State.setDyn_tower_cases (s : State) (k j : Nat) (f : TowerDynamic → TowerDynamic) :
    (s.setDyn k f).tower j = s.tower j ∨ j = k ∧ (s.setDyn k f).tower j = ⟨(s.tower k).cfg, f (s.tower k).dyn⟩ := by
  by_cases same : j = k
  · subst same
    by_cases real : 1 ≤ j ∧ j ≤ 16
    · exact .inr ⟨rfl, s.setDyn_tower_self real.1 real.2 f⟩
    · rw [State.tower_of_not_mem _ real, State.tower_of_not_mem _ real]
      exact .inl rfl
  · exact .inl (s.setDyn_tower_of_ne same f)

theorem State.setDyn_orders {k : Nat} {f : TowerDynamic → TowerDynamic}
    (h : (f (s.tower k).dyn).lastOrder = (s.tower k).dyn.lastOrder) : (s.setDyn k f).orders = s.orders := by
  refine congrArg (Orders.mk s.towerCount · s.span.slot) (funext fun j => ?_)
  rcases s.setDyn_tower_cases k j f with same | ⟨rfl, rewritten⟩
  · rw [same]
  · rw [rewritten, h]

theorem State.calms_setDyn {k : Nat} {f : TowerDynamic → TowerDynamic}
    (h : (f (s.tower k).dyn).lastOrder = (s.tower k).dyn.lastOrder) : s.calms (s.setDyn k f) :=
  State.calms_of_eq rfl (State.setDyn_orders h)

/-- A tower has last order 0 after a rewriting that gives that order, if it is the one rewritten or had it before. -/
theorem State.setDyn_lastOrder_zero {k j : Nat} {f : TowerDynamic → TowerDynamic} (h : ∀ d, (f d).lastOrder = 0)
    (hj : j = k ∨ (s.tower j).dyn.lastOrder = 0) : ((s.setDyn k f).tower j).dyn.lastOrder = 0 := by
  by_cases real : 1 ≤ j ∧ j ≤ 16
  · by_cases same : j = k
    · subst same
      rw [s.setDyn_tower_self real.1 real.2]
      exact h _
    · rw [s.setDyn_tower_of_ne same]
      exact hj.resolve_left same
  · rw [State.tower_of_not_mem _ real]
    rfl

/-- A tower takes order 0, whatever else becomes of it. -/
theorem State.calms_setDyn_zero {k : Nat} {f : TowerDynamic → TowerDynamic} (h : ∀ d, (f d).lastOrder = 0) :
    s.calms (s.setDyn k f) :=
  State.calms_of_zero rfl fun _ zero =>
    ⟨fun j hj => State.setDyn_lastOrder_zero h (.inr (zero.last j hj)), zero.slot⟩

theorem State.setDyns_orders {f : TowerDynamic → TowerDynamic} (h : ∀ d, (f d).lastOrder = d.lastOrder) (ks : List Nat) :
    (s.setDyns ks f).orders = s.orders := by
  unfold State.setDyns
  induction ks generalizing s with
  | nil => rfl
  | cons k ks ih => exact ih.trans (State.setDyn_orders (h _))

/-- Every tower named has last order 0 once each of them has taken it. -/
theorem State.setDyns_lastOrder_zero {f : TowerDynamic → TowerDynamic} (h : ∀ d, (f d).lastOrder = 0) {ks : List Nat}
    {j : Nat} (hj : j ∈ ks ∨ (s.tower j).dyn.lastOrder = 0) : ((s.setDyns ks f).tower j).dyn.lastOrder = 0 := by
  unfold State.setDyns
  induction ks generalizing s with
  | nil => exact hj.resolve_left List.not_mem_nil
  | cons k ks ih =>
    refine ih ?_
    rcases hj with mem | zero
    · rcases List.mem_cons.1 mem with first | later
      · exact .inr (State.setDyn_lastOrder_zero h (.inl first))
      · exact .inl later
    · exact .inr (State.setDyn_lastOrder_zero h (.inr zero))

@[simp] theorem State.setDyns_machine (s : State) (ks : List Nat) (f : TowerDynamic → TowerDynamic) :
    (s.setDyns ks f).table.machine = s.table.machine := by
  unfold State.setDyns
  induction ks generalizing s with
  | nil => rfl
  | cons k ks ih => exact ih _

/-! ### Slots (R62, R63, R76, R78) -/

/-- The span line rewritten, with a slot of order 0 in it or the slot it had. -/
theorem State.calms_setSpan {l : SpanMaster}
    (h : s.run.mstate.moving = false → s.orders.zero → ∀ sl, l.slot = some sl → sl.sendsZero) :
    s.calms { s with span := l } :=
  State.calms_of_zero rfl fun still zero => ⟨zero.last, h still zero⟩

/-- The slot in progress is no longer sending. -/
theorem State.calms_setPhase {sl : Slot} {ph : SlotPhase} (sent : ph ≠ .sending) : s.calms (s.setPhase sl ph) :=
  State.calms_setSpan fun _ _ _ slot => Option.some.inj slot ▸ fun _ sending => absurd sending sent

/-- A DRIVE frame carries the last order sent to a tower of the machine (R63). -/
theorem State.calms_beginDriveSlot {k : Nat} (member : k ∈ s.members) : s.calms (s.beginDriveSlot k) :=
  State.calms_setSpan fun _ zero _ slot => Option.some.inj slot ▸ fun _ _ => zero.last k member

theorem State.calms_beginSurveySlot (k : Nat) : s.calms (s.beginSurveySlot k) :=
  State.calms_setSpan fun _ _ _ slot => Option.some.inj slot ▸ nofun

theorem State.calms_beginRest : s.calms s.beginRest :=
  State.calms_setSpan fun _ _ _ slot => Option.some.inj slot ▸ nofun

theorem State.calms_beginDriveRound : s.calms s.beginDriveRound :=
  State.calms_ite (fun ⟨towers, _⟩ => State.calms_beginDriveSlot (s.mem_members.2 ⟨Nat.le_refl 1, towers⟩)) fun _ => .refl s

/-- A frame of a non-zero order that is cut short is not being sent any more (R63). -/
theorem State.cutFrame_zero (h : ∀ k ∈ s.members, (s.tower k).dyn.lastOrder = 0) : s.cutFrame.orders.zero := by
  have cut : ∀ sl, s.cutFrame.span.slot = some sl → sl.sendsZero := by
    unfold State.cutFrame
    intro sl slot drive sending
    split at slot
    next old held =>
      split at slot
      next =>
        rw [← Option.some.inj slot] at sending
        cases sending
      next keeps =>
        rw [held] at slot
        cases slot
        have : ¬ 0 < sl.order := fun order => keeps ⟨drive, sending, order⟩
        omega
    next idle =>
      rw [idle] at slot
      cases slot
  have table : s.cutFrame.table = s.table := s.cutFrame_table
  refine ⟨fun k hk => ?_, cut⟩
  change (s.cutFrame.tower k).dyn.lastOrder = 0
  rw [State.tower_of_table table]
  exact h k (by rwa [← State.members_of_machine (congrArg TowerTable.machine table)])

/-- A trip or a power-fail assertion brings every order to 0 (R7, R63). -/
theorem State.zeroOrders_zero (s : State) : s.zeroOrders.orders.zero := by
  refine State.cutFrame_zero fun k hk => State.setDyns_lastOrder_zero (fun _ => rfl) (.inl ?_)
  rwa [State.members_of_machine (s.setDyns_machine ..)] at hk

/-! ### Changes of machine state (R84) -/

theorem State.calms_queueNotice (subject : Subject) (data : NoticeData) : s.calms (s.queueNotice subject data) :=
  State.calms_of_same (by simp) (by simp) (by simp)

theorem State.calms_transmit : s.calms s.transmit := State.calms_of_same (by simp) (by simp) (by simp)

theorem State.calms_restartQuiet : s.calms s.restartQuiet :=
  State.calms_ite (fun _ => State.calms_of_same rfl rfl rfl) fun _ => .refl s

theorem State.calms_leaveQuiet : s.calms s.leaveQuiet := by
  refine State.calms_ite (fun _ => ?_) fun _ => .refl s
  have told (l : SpanMaster) (slot : l.slot = s.span.slot) :
      s.calms (({ s with span := l } : State).queueNotice .machine (.quiet true)) :=
    (State.calms_of_same (s := s) (t := { s with span := l }) rfl rfl slot).trans (State.calms_queueNotice ..)
  refine State.calms_ite (fun _ => State.calms.trans ?_ State.calms_beginDriveRound) fun _ => ?_
  · exact told _ rfl
  · exact told _ rfl

theorem State.calms_lineFollows : s.calms s.lineFollows :=
  State.calms_ite (fun _ => State.calms_restartQuiet) fun _ =>
    State.calms_ite (fun _ => State.calms_leaveQuiet.trans (State.calms_of_same rfl rfl rfl)) fun _ =>
      State.calms_leaveQuiet

/-- A machine state entered keeps Law 2 if it is one that moves, or every order is 0 (R63). -/
theorem State.enterWith_ordersAtRest {m : MState} (zero : m.moving = false → s.orders.zero) (announce : Bool)
    (d : Option Destination) (r : Option PassEnd) (o : Option Origin) : (s.enterWith announce m d r o).ordersAtRest := by
  have set : (s.setMachine m d r o).ordersAtRest := State.ordersAtRest_iff.2 zero
  have announced (u : State) : u.calms (if announce then u.queueNotice .machine (.state m d) else u) :=
    State.calms_ite (fun _ => State.calms_queueNotice ..) fun _ => .refl u
  have record (u : State) : u.calms u.recordFollows := State.calms_of_same (by simp) (by simp) (by simp)
  have rest (u : State) : u.calms (u.angleFollows.levelsFollow s.run.mstate).marksFollow :=
    State.calms_of_same (by simp) (by simp) (by simp)
  exact ((((announced _).trans (record _)).trans State.calms_lineFollows).trans (rest _)).rest set

theorem State.enter_ordersAtRest {m : MState} (zero : m.moving = false → s.orders.zero) (d : Option Destination)
    (r : Option PassEnd) (o : Option Origin) : (s.enter m d r o).ordersAtRest :=
  State.enterWith_ordersAtRest zero true d r o

theorem State.enter_ordersAtRest_of_moving {m : MState} (moves : m.moving = true) (d : Option Destination)
    (r : Option PassEnd) (o : Option Origin) : (s.enter m d r o).ordersAtRest :=
  State.enter_ordersAtRest (fun still => absurd (moves.symm.trans still) (by decide)) d r o

/-- From a state that does not move, every change keeps Law 2. -/
theorem State.calms_enterWith (still : s.run.mstate.moving = false) (announce : Bool) (m : MState)
    (d : Option Destination) (r : Option PassEnd) (o : Option Origin) : s.calms (s.enterWith announce m d r o) :=
  ⟨fun h => State.enterWith_ordersAtRest (fun _ => State.ordersAtRest_iff.1 h still) announce d r o⟩

theorem State.calms_enter (still : s.run.mstate.moving = false) (m : MState) (d : Option Destination)
    (r : Option PassEnd) (o : Option Origin) : s.calms (s.enter m d r o) := State.calms_enterWith still true m d r o

theorem State.calms_setRun {f : RunController → RunController} (h : (f s.run).mstate.moving = s.run.mstate.moving) :
    s.calms (s.setRun f) := State.calms_of_zero h fun _ => id

theorem State.calms_redirect (d : Destination) (r : Option PassEnd) : s.calms (s.redirect d r) := by
  have queued (u : State) (data : NoticeData) : u.calms ((u.queueNotice .machine data).rewriteRecord none) :=
    State.calms_of_same (by simp) (by simp) (by simp)
  have set : s.calms { s with run := { s.run with dest := some d, reason := r } } := State.calms_of_zero rfl fun _ => id
  exact set.trans (queued _ _)

theorem State.endPass_orders (s : State) (r : PassEnd) : (s.endPass r).orders = s.orders :=
  State.orders_of_eq (by simp) (by simp)

theorem State.endPass_mstate (s : State) (r : PassEnd) : (s.endPass r).run.mstate = s.run.mstate := by
  simp [State.endPass, State.setRun]

theorem State.calms_prestartTest : s.calms s.prestartTest :=
  State.calms_ite (fun _ => State.calms_of_rest (State.enter_ordersAtRest_of_moving rfl _ _ _)) fun _ => .refl s

theorem State.enterPrestart_ordersAtRest (zero : s.orders.zero) (o : Origin) : (s.enterPrestart o).ordersAtRest := by
  have entered (u : State) (h : u.orders = s.orders) : (u.enter .prestart none none (some o)).prestartTest.ordersAtRest :=
    State.calms_prestartTest.rest (State.enter_ordersAtRest (fun _ => h ▸ zero) _ _ _)
  exact entered _ rfl

theorem State.calms_enterPrestart (still : s.run.mstate.moving = false) (o : Origin) : s.calms (s.enterPrestart o) :=
  ⟨fun h => State.enterPrestart_ordersAtRest (State.ordersAtRest_iff.1 h still) o⟩

/-- STOPPING completes only with every order 0, and cuts short the frame of another (R63, R96). -/
theorem State.calms_stoppingTest : s.calms s.stoppingTest := by
  refine State.calms_ite (fun ⟨_, rest⟩ => ?_) fun _ => .refl s
  have zero (f : RunController → RunController) : (s.setRun f).cutFrame.orders.zero := by
    refine State.cutFrame_zero fun k hk => ?_
    have := List.all_eq_true.1 rest k hk
    simp only [Bool.and_eq_true, beq_iff_eq] at this
    exact this.1
  dsimp only
  split
  · refine State.calms_of_rest (State.enter_ordersAtRest (fun _ => ?_) _ _ _)
    rw [State.endPass_orders]
    exact zero _
  · exact State.calms_of_rest (State.enter_ordersAtRest (fun _ => zero _) _ _ _)
  · exact State.calms_of_rest (State.enterPrestart_ordersAtRest (s := State.setPass _ _) (zero _) _)
  · exact .refl s

theorem State.calms_enterStopping (d : Destination) (r : Option PassEnd) : s.calms (s.enterStopping d r) := by
  unfold State.enterStopping
  exact State.calms_of_rest (State.calms_stoppingTest.rest (State.enter_ordersAtRest_of_moving rfl _ _ _))

/-! ### Steering a pass -/

theorem State.calms_takeStop {r : PassEnd} (h : s.takeStop r = some t) : s.calms t := by
  have ends (still : s.run.mstate.moving = false) :
      s.calms (((s.setRun fun c => { c with recoveryTimer := none }).endPass r).enter .stopped) := by
    refine State.calms.trans ?_ (State.calms_enter (by rw [State.endPass_mstate]; exact still) ..)
    exact State.calms_of_zero (by rw [State.endPass_mstate]; rfl) fun _ zero => by rwa [State.endPass_orders]
  unfold State.takeStop at h
  split at h <;> cases h
  next => exact State.calms_enterStopping ..
  next => exact State.calms_enterStopping ..
  next => exact State.calms_ite (fun _ => .refl s) fun _ => State.calms_redirect ..
  next held => exact ends (by rw [held]; rfl)
  next recovering => exact ends (by rw [recovering]; rfl)

theorem State.calms_setPass (f : Pass → Pass) : s.calms (s.setPass f) := State.calms_setRun rfl

theorem State.calms_takeReverse (h : s.takeReverse = some t) : s.calms t := by
  unfold State.takeReverse at h
  split at h <;> cases h
  · exact State.calms_enterStopping ..
  · exact (State.calms_setPass _).trans (State.calms_of_same rfl rfl rfl)

theorem State.calms_takePace {v : Nat} (h : s.takePace v = some t) : s.calms t := by
  unfold State.takePace at h
  split at h <;> cases h <;> exact State.calms_setPass _

theorem State.calms_holdRequest : s.calms s.holdRequest := by
  unfold State.holdRequest
  split
  next => exact State.calms_enterStopping ..
  next prestart =>
    have still : s.run.mstate.moving = false := by rw [prestart]; rfl
    refine State.calms.trans ?_ (State.calms_enter ?_ ..)
    · exact State.calms_setRun rfl
    · exact still
  next => exact State.calms_ite (fun _ => State.calms_redirect ..) fun _ => .refl s
  next => exact .refl s

/-- A trip sets every order to 0 before it changes the machine state (R63, R104). -/
theorem State.calms_tripRequest (k : FaultKind) : s.calms (s.tripRequest k) := by
  refine State.calms_ite (fun _ => State.calms_of_rest (State.enter_ordersAtRest (fun _ => ?_) _ _ _)) fun _ => .refl s
  rw [State.endPass_orders]
  exact s.zeroOrders_zero

/-! ### Faults (R136 to R140, R145, R151) -/

theorem State.unfreeze_orders (s : State) (r : FaultRecord) : (s.unfreeze r).orders = s.orders := by
  unfold State.unfreeze
  split
  · exact State.setDyn_orders rfl
  · rfl

@[simp] theorem State.removeRecords_orders (s : State) (sel : FaultRecord → Bool) :
    (s.removeRecords sel).orders = s.orders := by
  have unfrozen (rs : List FaultRecord) (u : State) : (rs.foldl State.unfreeze u).orders = u.orders := by
    induction rs generalizing u with
    | nil => rfl
    | cons r rs ih => exact (ih _).trans (u.unfreeze_orders r)
  exact unfrozen _ _

@[simp] theorem State.recordRaising_orders (s : State) (k : FaultKind) (t : Option Nat) :
    (s.recordRaising k t).1.orders = s.orders := by
  unfold State.recordRaising
  dsimp only
  split
  · rfl
  · split
    · rfl
    split
    · split
      · exact s.removeRecords_orders _
      · rfl
    · rfl

@[simp] theorem State.freezeSlip_orders (s : State) (k : FaultKind) (t : Option Nat) (r : Raising) :
    (s.freezeSlip k t r).orders = s.orders := by
  unfold State.freezeSlip
  split
  · split
    · exact State.setDyn_orders rfl
    · rfl
  · rfl

theorem State.calms_raise (k : FaultKind) (t : Option Nat) : s.calms (s.raise k t) := by
  have act (u : State) (r : Raising) : u.calms (u.actOnRaising k r) := by
    unfold State.actOnRaising
    split
    · exact State.calms_ite (fun _ => State.calms_holdRequest) fun _ => .refl u
    · exact .refl u
    · exact State.calms_tripRequest k
  have recorded (r : Raising) : s.calms ((s.recordRaising k t).1.freezeSlip k t r) :=
    State.calms_of_eq (by simp) (by simp)
  exact ((recorded _).trans (State.calms_queueNotice ..)).trans (act _ _)

theorem State.calms_latchKind (k : FaultKind) (t : Option Nat) : s.calms (s.latchKind k t) :=
  State.calms_of_same rfl rfl rfl

theorem State.calms_chainClears : s.calms s.chainClears := State.calms_of_same (by simp) (by simp) (by simp)

theorem State.calms_removeRecords (sel : FaultRecord → Bool) : s.calms (s.removeRecords sel) :=
  State.calms_of_eq (by simp) (by simp)

end Sys2Proof.Machine
end

section
/-! SUPPORT. The operations of the single blocks that keep Law 2: the fault list, the run controller, the sector table, the
watch unit and the angle unit. -/

namespace Sys2Proof.Machine

variable {s t : State}

/-! ### The fault list (chapter 8) -/

theorem State.calms_changeMode (k : FaultKind) (deferred : Bool) : s.calms (s.changeMode k deferred) := by
  have frozen (u : State) : u.calms u.freezeHeld :=
    State.calms_of_eq (by simp [State.freezeHeld])
      (State.setDyns_orders (f := fun d => { d with slipFrozen := true }) (fun _ => rfl) _)
  have remoded (f : FaultList) : s.calms { s with faults := f } := State.calms_of_same rfl rfl rfl
  refine State.calms_ite (fun _ => ?_) fun _ => ?_
  · exact State.calms_ite (fun _ => (remoded _).trans (frozen _)) fun _ => remoded _
  · exact State.calms_ite (fun _ => (remoded _).trans State.calms_holdRequest) fun _ => remoded _

theorem State.calms_takeSetFaultMode (kind mode : Byte) : s.calms (s.takeSetFaultMode kind mode).1 := by
  unfold State.takeSetFaultMode
  split
  · split
    · exact .refl s
    · rw [apply_ite Prod.fst]
      exact State.calms_ite (fun _ => .refl s) fun _ => State.calms_changeMode ..
  · exact .refl s

theorem State.calms_takeFaultClear (sel kind tower : Byte) : s.calms (s.takeFaultClear sel kind tower).1 := by
  unfold State.takeFaultClear
  split
  · exact .refl s
  · exact State.calms_removeRecords _

theorem State.calms_warnCheck (k a : Nat) : s.calms (s.warnCheck k a) := by
  unfold State.warnCheck
  dsimp only
  refine State.calms_ite (fun _ => State.calms_ite (fun _ => ?_) fun _ => State.calms_setDyn rfl) fun _ => ?_
  · exact (State.calms_setDyn rfl).trans (State.calms_raise ..)
  · exact (State.calms_setDyn rfl).trans (State.calms_latchKind ..)

theorem State.calms_tripCheck (k a : Nat) : s.calms (s.tripCheck k a) := by
  have marked (f : FaultList) : s.calms { s with faults := f } := State.calms_of_same rfl rfl rfl
  unfold State.tripCheck
  refine State.calms_ite (fun _ => State.calms_ite (fun _ => .refl s) fun _ => ?_) fun _ => marked _
  exact (marked _).trans (State.calms_raise ..)

theorem State.calms_faultExamine (k : Nat) (r : Report) : s.calms (s.faultExamine k r) := by
  have switch (u : State) : u.calms (u.switchCheck k r) :=
    State.calms_ite (fun _ => State.calms_raise ..) fun _ => .refl u
  have joints : s.calms (if k < s.towerCount then
      (s.warnCheck k (jointAngle (some r)).natAbs).tripCheck k (jointAngle (some r)).natAbs else s) :=
    State.calms_ite (fun _ => (State.calms_warnCheck ..).trans (State.calms_tripCheck ..)) fun _ => .refl s
  exact (joints.trans (switch _)).trans State.calms_chainClears

theorem State.calms_chainChanged : s.calms s.chainChanged := by
  refine State.calms_ite (fun _ => State.calms_chainClears) fun _ => ?_
  exact State.calms_ite (fun _ => State.calms_raise ..) fun _ => .refl s

/-! ### The run controller (chapter 5) -/

/-- The run requests answer through `runCheck`: what they do where they are taken is what has to keep the law. -/
theorem State.calms_runCheck {taken : Option (State × Answer)} (h : ∀ p, taken = some p → s.calms p.1) :
    s.calms (s.runCheck taken).1 := by
  unfold State.runCheck
  split
  · exact .refl s
  · cases taken with
    | none => exact .refl s
    | some p => exact h p rfl

/-- A request that hands the run controller's own taking on, with an answer. -/
theorem State.calms_runCheck_map {taken : Option State} {answer : State → Answer} (h : ∀ t, taken = some t → s.calms t) :
    s.calms (s.runCheck (taken.map fun t => (t, answer t))).1 := by
  refine State.calms_runCheck fun p hp => ?_
  obtain ⟨t, ht, rfl⟩ := Option.map_eq_some_iff.1 hp
  exact h t ht

theorem State.calms_takeStartPass (d : Byte) (p : U16) (pr : Byte) (sa : U16) (c : Byte) :
    s.calms (s.takeStartPass d p pr sa c).1 := by
  refine State.calms_runCheck fun q hq => ?_
  dsimp only at hq
  generalize (if pr.getLsbD 0 then some sa.toNat else none) = stop at hq
  generalize (if pr.getLsbD 1 then some c.toNat else none) = target at hq
  split at hq
  · cases hq
  next stopped =>
    have still : s.run.mstate.moving = false := by rw [Decidable.not_not.1 stopped]; rfl
    have starts (f : RunController → RunController) (same : (f s.run).mstate.moving = s.run.mstate.moving) :
        s.calms ((s.setRun f).enterPrestart .new) :=
      (State.calms_setRun same).trans (State.calms_enterPrestart (same.trans still) _)
    repeat' split at hq
    all_goals cases hq
    · exact .refl s
    · exact .refl s
    · exact .refl s
    · exact starts _ rfl

theorem State.calms_takeHold : s.calms s.takeHold.1 := by
  refine State.calms_runCheck fun q hq => ?_
  split at hq <;> cases hq
  exact State.calms_enterStopping ..

theorem State.calms_takeResume : s.calms s.takeResume.1 := by
  refine State.calms_runCheck fun q hq => ?_
  split at hq
  · cases hq
  next held =>
    have still : s.run.mstate.moving = false := by rw [Decidable.not_not.1 held]; rfl
    repeat' split at hq
    all_goals cases hq
    · exact .refl s
    · exact .refl s
    · exact State.calms_enterPrestart still _

theorem State.calms_takeTripReset : s.calms s.takeTripReset.1 := by
  refine State.calms_runCheck fun q hq => ?_
  dsimp only at hq
  split at hq
  · cases hq
  next tripped =>
    have still : s.run.mstate.moving = false := by rw [Decidable.not_not.1 tripped]; rfl
    repeat' split at hq
    all_goals cases hq
    · exact .refl s
    · exact .refl s
    · refine ((State.calms_removeRecords _).trans (State.calms_setRun rfl)).trans (State.calms_enter ?_ ..)
      simpa [State.setRun] using still

theorem State.calms_runOut (t : Timer) : s.calms (s.runOut t) := State.calms_of_same rfl rfl rfl

theorem State.calms_prestartExpires : s.calms s.prestartExpires := by
  unfold State.prestartExpires
  split
  · exact ((State.calms_runOut _).trans (State.calms_setRun rfl)).trans State.calms_prestartTest
  · exact .refl s

theorem State.calms_startFails : s.calms s.startFails := by
  unfold State.startFails
  split
  next t prestart _ =>
    have still : s.run.mstate.moving = false := by rw [prestart]; rfl
    have cleared (f : RunController → RunController) (same : (f s.run).mstate = s.run.mstate) (m : MState) :
        s.calms (((s.runOut t).setRun f).enter m) := by
      have moving : (f s.run).mstate.moving = s.run.mstate.moving := by rw [same]
      exact ((State.calms_runOut t).trans (State.calms_setRun moving)).trans
        (State.calms_enter (moving.trans still) ..)
    exact (cleared _ rfl _).trans (State.calms_queueNotice ..)
  next => exact .refl s

theorem State.calms_stopTimesOut : s.calms s.stopTimesOut := by
  unfold State.stopTimesOut
  split
  · exact ((State.calms_runOut _).trans (State.calms_setRun rfl)).trans (State.calms_raise ..)
  · exact .refl s

theorem State.calms_passCheck (p : Nat) (x : Int) : s.calms (s.passCheck p x) := by
  unfold State.passCheck
  split
  · exact State.calms_ite (fun _ => State.calms_enterStopping ..) fun _ =>
      State.calms_ite (fun _ => State.calms_enterStopping ..) fun _ => .refl s
  · exact .refl s

/-! ### The sector table (chapter 6) and the watch unit (chapter 7) -/

theorem State.calms_setSectors (c : SectorTable) : s.calms { s with sectors := c } := State.calms_of_same rfl rfl rfl

theorem State.calms_setWatch (w : WatchUnit) : s.calms { s with watch := w } := State.calms_of_same rfl rfl rfl

theorem State.calms_takeSetSectors (m : Byte) (es : List SectorEntry) : s.calms (s.takeSetSectors m es).1 := by
  unfold State.takeSetSectors
  dsimp only
  repeat' split
  all_goals exact State.calms_setSectors _

theorem State.calms_takeSetWatch (n en : Byte) (ref hw : U16) (d c m a : Byte) (arg : U16) (rept : Byte) :
    s.calms (s.takeSetWatch n en ref hw d c m a arg rept).1 := by
  unfold State.takeSetWatch
  dsimp only
  split
  · exact .refl s
  split
  · exact State.calms_setWatch _
  · exact .refl s

theorem State.calms_takeSetAux (o m : Byte) : s.calms (s.takeSetAux o m).1 := by
  unfold State.takeSetAux
  split
  · dsimp only
    split
    · exact .refl s
    · exact State.calms_setWatch _
  · exact .refl s

theorem State.calms_overrunCheck (q : Nat) : s.calms (s.overrunCheck q) :=
  State.calms_ite (fun _ => State.calms_raise ..) fun _ => .refl s

theorem State.calms_approachCheck (d : Direction) (q : Nat) : s.calms (s.approachCheck d q) := by
  have act (u : State) (c : Sector) : u.calms (u.barrierAct c) := by
    unfold State.barrierAct
    split
    · exact State.calms_enterStopping ..
    · exact State.calms_enterStopping ..
    · exact .refl u
  refine State.calms_ite (fun _ => ?_) fun _ => .refl s
  split
  · exact (State.calms_setSectors _).trans (act _ _)
  · exact .refl s

theorem State.calms_sectorSample (d : Option Direction) (q : Nat) : s.calms (s.sectorSample d q) := by
  have capped : s.calms (s.installPending.establishCap q) := State.calms_of_same (by simp) (by simp) (by simp)
  unfold State.sectorSample
  refine State.calms.trans ?_ (State.calms_setSectors _)
  cases d with
  | none => exact capped
  | some d => exact (capped.trans (State.calms_overrunCheck q)).trans (State.calms_approachCheck d q)

theorem State.calms_watchAct (a : WatchAction) : s.calms (s.watchAct a).1 := by
  have taken (o : Option State) (h : ∀ t, o = some t → s.calms t) : s.calms (s.orRefused o).1 := by
    cases o with
    | none => exact .refl s
    | some t => exact h t rfl
  cases a with
  | notice => exact .refl s
  | auxOn n | auxOff n => exact State.calms_setWatch _
  | stop => exact taken _ fun t => State.calms_takeStop
  | reverse => exact taken _ fun t => State.calms_takeReverse
  | pace v => exact taken _ fun t => State.calms_takePace

theorem State.calms_fire (n : Nat) (c : Crossing) (d : Direction) : s.calms (s.fire n c d) :=
  ((State.calms_setWatch _).trans (State.calms_watchAct _)).trans (State.calms_queueNotice ..)

theorem State.calms_watchSample (p q : Nat) (x : Int) : s.calms (s.watchSample p q x) := by
  have test (n : Nat) (d : Direction) (u : State) (c : Crossing) : u.calms (State.testCrossing n d u c) :=
    State.calms_ite (fun _ => State.calms_fire ..) fun _ => .refl u
  exact State.calms_ite (fun _ => .refl s) fun _ =>
    State.calms_foldl (fun _ n => State.calms_foldl (test n _) _) _

/-! ### The angle unit (chapter 2) -/

theorem State.calms_setAngle (a : AngleUnit) : s.calms { s with angle := a } := State.calms_of_same rfl rfl rfl

theorem State.calms_handOver (o : SampleOrder) (d : Direction) (p q : Nat) (x : Int) : s.calms (s.handOver o d p q x) := by
  have run (u : State) : u.calms (u.passCheck p x) := State.calms_passCheck ..
  have sector (u : State) : u.calms (u.sectorSample (some d) q) := State.calms_sectorSample ..
  have watch (u : State) : u.calms (u.watchSample p q x) := State.calms_watchSample ..
  cases o with
  | rsw => exact ((run _).trans (sector _)).trans (watch _)
  | rws => exact ((run _).trans (watch _)).trans (sector _)
  | srw => exact ((sector _).trans (run _)).trans (watch _)
  | swr => exact ((sector _).trans (watch _)).trans (run _)
  | wrs => exact ((watch _).trans (run _)).trans (sector _)
  | wsr => exact ((watch _).trans (sector _)).trans (run _)

theorem State.calms_pivotDrift (x : Option Int) (q : Nat) : s.calms (s.pivotDrift x q) := by
  refine State.calms_ite (fun _ => ?_) fun _ => .refl s
  split
  · exact State.calms_setAngle _
  · exact State.calms_ite (fun _ => (State.calms_raise ..).trans (State.calms_setAngle _)) fun _ => .refl s

theorem State.calms_validSample (q : Nat) (o : SampleOrder) : s.calms (s.validSample q o) := by
  have held : s.calms (s.holdAngle q) := State.calms_of_same (by simp) (by simp) (by simp)
  unfold State.validSample
  split
  · exact (held.trans (State.calms_sectorSample ..)).trans (State.calms_pivotDrift ..)
  · exact (((held.trans (State.calms_setPass _)).trans (State.calms_handOver ..)).trans (State.calms_setAngle _)).trans
      (State.calms_pivotDrift ..)

theorem State.calms_invalidSample : s.calms s.invalidSample :=
  State.calms_ite (fun _ => (State.calms_setAngle _).trans (State.calms_raise ..)) fun _ => State.calms_setAngle _

theorem State.calms_readCompletes (q : Nat) (e : Bool) (o : SampleOrder) : s.calms (s.readCompletes q e o) := by
  have sample (u : State) : u.calms (u.takeSample q e o) :=
    State.calms_ite (fun _ => State.calms_validSample q o) fun _ => State.calms_invalidSample
  exact State.calms_ite (fun _ => (State.calms_setAngle _).trans (sample _)) fun _ => .refl s

theorem State.calms_readTimesOut : s.calms s.readTimesOut := by
  have ended (n : Nat) : s.calms (s.runTo n).endRead := State.calms_of_same rfl rfl rfl
  exact State.calms_ite (fun _ => (ended _).trans State.calms_invalidSample) fun _ => .refl s

theorem State.calms_closeWindow (k : Nat) (w : SlipWindow) (wheel : U16) : s.calms (s.closeWindow k w wheel) := by
  have factor (v : Nat) : s.calms (s.setDyn k fun d => if d.slipFrozen then d else { d with slip := v }) := by
    refine State.calms_setDyn ?_
    split <;> rfl
  have opened (v : Nat) (a : AngleUnit) := (factor v).trans (State.calms_setAngle a)
  exact State.calms_ite (fun _ => (opened ..).trans (State.calms_raise ..)) fun _ => opened ..

theorem State.calms_slipExamine (k : Nat) (r : Report) : s.calms (s.slipExamine k r) := by
  unfold State.slipExamine
  split
  · exact State.calms_ite (fun _ => State.calms_closeWindow ..) fun _ => .refl s
  · exact State.calms_ite (fun _ => State.calms_setAngle _) fun _ => .refl s

theorem State.calms_stallExamine (k : Nat) (p : Option Report) (r : Report) : s.calms (s.stallExamine k p r) := by
  have timed : s.calms (s.setDyn k fun d => { d with stall := stallAfter s.clock d.lastOrder r d.stall }) :=
    State.calms_setDyn rfl
  unfold State.stallExamine
  split
  · exact State.calms_ite (fun _ => timed) fun _ => timed.trans (State.calms_latchKind ..)
  · exact timed

theorem State.calms_haltExamine (k : Nat) (r : Report) : s.calms (s.haltExamine k r).1 := by
  have counted : s.calms (s.setDyn k fun d => { d with haltWheel := haltAfter d.lastOrder r d.haltWheel }) :=
    State.calms_setDyn rfl
  unfold State.haltExamine
  dsimp only
  split
  · split
    · dsimp only
      exact (counted.trans (State.calms_raise ..)).trans (State.calms_setDyn rfl)
    · exact counted
  · exact counted

theorem State.calms_stallExpires (k : Nat) : s.calms (s.stallExpires k) := by
  unfold State.stallExpires
  split
  · exact (State.calms_setDyn rfl).trans (State.calms_raise ..)
  · exact .refl s

theorem State.calms_stallTimerExpires (k : Nat) : s.calms (s.stallTimerExpires k) := by
  have run (n : Nat) : s.calms (s.runTo n) := State.calms_of_same rfl rfl rfl
  unfold State.stallTimerExpires
  split
  · exact (run _).trans (State.calms_stallExpires k)
  · exact .refl s

end Sys2Proof.Machine
end

section
/-! SUPPORT. Law 2 through the writes of the tower table, the span line, the order engine, the store and the resets, and the
panel port; then through every command (O4). -/

namespace Sys2Proof.Machine

variable {s t : State}

/-! ### The tower table (chapter 1) -/

theorem State.changeMembers_run (s : State) (old : Nat) : (s.changeMembers old).run = s.run :=
  (congrArg State.run (s.changeMembers_eq old) :)

/-- A slot whose tower leaves the machine goes on with the frame it sends (R13). -/
theorem State.changeMembers_sendsZero {old : Nat} (zero : ∀ sl, s.span.slot = some sl → sl.sendsZero) :
    ∀ sl, (s.changeMembers old).span.slot = some sl → sl.sendsZero := by
  rw [congrArg (·.span.slot) (s.changeMembers_eq old)]
  intro sl slot
  obtain ⟨was, held, rfl⟩ := Option.map_eq_some_iff.1 slot
  split
  · exact zero was held
  · exact zero was held

/-- Fields written keep Law 2 once a new tower count has been followed: a tower that enters does so with order 0 (R13). -/
theorem State.calms_writeMembers (ws : List FieldWrite) :
    let t := s.writeFields ws
    s.calms (if t.towerCount = s.towerCount then t else t.changeMembers s.towerCount) := by
  intro t
  have run : t.run = s.run := s.writeFields_run ws
  have slot : t.span.slot = s.span.slot := by rw [s.writeFields_span ws]
  have last (k : Nat) : (t.tower k).dyn = (s.tower k).dyn := s.writeFields_dyn ws k
  refine State.calms_ite (fun count => ?_) fun _ => ?_
  · refine State.calms_of_eq run ?_
    simp only [State.orders, count, last, slot]
  · refine State.calms_of_zero (by rw [State.changeMembers_run, run]) fun _ zero => ⟨fun k hk => ?_, ?_⟩
    · change ((t.changeMembers s.towerCount).tower k).dyn.lastOrder = 0
      rw [State.changeMembers_tower]
      split
      · rfl
      next stays =>
        have count : (t.changeMembers s.towerCount).towerCount = t.towerCount :=
          State.towerCount_of_machine (t.changeMembers_machine _).1
        obtain ⟨low, high⟩ := mem_upTo.1 hk
        change k ≤ (t.changeMembers s.towerCount).towerCount at high
        rw [last]
        by_cases real : k ≤ 16
        · refine zero.last k (s.mem_members.2 ⟨low, ?_⟩)
          rw [State.mem_movers] at stays
          omega
        · rw [State.tower_of_not_mem _ fun h => real h.2]
          rfl
    · exact State.changeMembers_sendsZero fun sl held => zero.slot sl (slot.symm.trans held)

theorem State.calms_agreeMisses (k : Nat) : s.calms (s.agreeMisses k) := by
  unfold State.agreeMisses
  dsimp only
  refine State.calms_ite (fun _ => ?_) fun _ =>
    State.calms_ite (fun _ => State.calms_setDyn rfl) fun _ => State.calms_setDyn rfl
  exact (State.calms_setDyn rfl).trans (State.calms_raise ..)

theorem State.calms_fieldApplied (w : FieldWrite) : s.calms (s.fieldApplied w) := by
  unfold State.fieldApplied
  split
  · exact State.calms_of_same (by simp) (by simp) (by simp)
  · exact State.calms_setAngle _
  · exact State.calms_setAngle _
  · split
    · exact State.calms_ite (fun _ => State.calms_stallExpires _) fun _ => .refl s
    · exact .refl s
  · exact .refl s

theorem State.calms_applyWrites (ws : List FieldWrite) : s.calms (s.applyWrites ws) := by
  have interval (u : State) : u.calms (if writes ws (.machine .driveInterval) then u.restartInterval else u) :=
    State.calms_ite (fun _ => State.calms_of_same (by simp) (by simp) (by simp)) fun _ => .refl u
  have limit (u : State) :
      u.calms (if writes ws (.machine .missLimit) then u.members.foldl State.agreeMisses u else u) :=
    State.calms_ite (fun _ => State.calms_foldl (fun _ k => State.calms_agreeMisses k) _) fun _ => .refl u
  exact (((State.calms_writeMembers ws).trans (interval _)).trans (limit _)).trans
    (State.calms_foldl (fun _ w => State.calms_fieldApplied w) ws)

theorem State.calms_setStaged (p : List FieldWrite) : s.calms { s with table := { s.table with pending := p } } :=
  State.calms_of_eq rfl rfl

theorem State.calms_applyPending : s.calms s.applyPending :=
  (State.calms_setStaged []).trans (State.calms_applyWrites _)

theorem State.calms_setEngine (e : OrderEngine) : s.calms { s with engine := e } := State.calms_of_same rfl rfl rfl

theorem State.calms_settleCompleteness : s.calms s.settleCompleteness := by
  have settles {m : MState} (here : s.run.mstate = m) (still : m.moving = false) (other : MState) (e : OrderEngine) :
      s.calms { s.enter other with engine := e } :=
    (State.calms_enter (here ▸ still) ..).trans (State.calms_setEngine e)
  refine State.calms_ite (fun ⟨unconfigured, _⟩ => settles unconfigured rfl ..) fun _ => ?_
  refine State.calms_ite (fun ⟨stopped, _⟩ => ?_) fun _ => .refl s
  exact (settles stopped rfl ..).trans State.calms_applyPending

theorem State.calms_takeWrite (ws : List FieldWrite) (stray : Bool) (consistent : State → Bool) :
    s.calms (s.takeWrite ws stray consistent).1 := by
  have applied : s.calms (s.applyOrStage ws) := by
    refine State.calms_ite (fun _ => ?_) fun _ => State.calms_setStaged _
    exact ((State.calms_setStaged []).trans (State.calms_applyWrites _)).trans State.calms_settleCompleteness
  unfold State.takeWrite
  split
  · exact .refl s
  split
  · exact .refl s
  split
  · exact .refl s
  · exact applied

/-! ### The span line (chapter 4) -/

theorem State.calms_judgeReport (kind : SlotKind) (d : TowerDynamic) (r : Report) (drift : Bool) :
    s.calms (s.judgeReport kind d r drift) := by
  rw [State.judgeReport_eq]
  refine State.calms_ite (fun _ => ?_) fun _ => State.calms_ite (fun _ => ?_) fun _ => .refl s
  · exact State.calms_ite (fun _ => .refl s) fun _ => State.calms_leaveQuiet
  · exact State.calms_ite (fun _ => State.calms_restartQuiet) fun _ => State.calms_leaveQuiet

theorem State.calms_takeReport (kind : SlotKind) (k : Nat) (f : ReportFrame) : s.calms (s.takeReport kind k f) := by
  have record (r : Report) : s.calms (s.setDyn k fun d => d.takeReport r) := State.calms_setDyn rfl
  unfold State.takeReport
  dsimp only
  generalize hu : (if (s.tower k).dyn.link = .missing ∨ (s.tower k).dyn.link = .lost then _ else _) = u
  have linked : s.calms u := by
    subst hu
    refine State.calms_ite (fun _ => ?_) fun _ => record _
    exact ((record _).trans (State.calms_latchKind ..)).trans (State.calms_latchKind ..)
  refine (State.calms.trans ?_ State.calms_prestartTest).trans State.calms_stoppingTest
  refine (State.calms.trans ?_ (State.calms_faultExamine ..)).trans (State.calms_judgeReport ..)
  refine ((State.calms.trans ?_ (State.calms_slipExamine ..)).trans (State.calms_stallExamine ..)).trans
    (State.calms_haltExamine ..)
  exact State.calms_ite (fun _ => linked.trans (State.calms_raise ..)) fun _ => linked

theorem State.calms_setReceiver (bytes : List Byte) : s.calms { s with span := { s.span with rx := bytes } } :=
  State.calms_of_same rfl rfl rfl

theorem State.calms_spanByte (b : Byte) : s.calms (s.spanByte b) := by
  have examined (u : State) (f : ReportFrame) : u.calms (u.examineReport f) := by
    unfold State.examineReport
    split
    · refine State.calms_ite (fun _ => State.calms.trans ?_ (State.calms_takeReport ..)) fun _ => .refl u
      exact State.calms_setPhase nofun
    · exact .refl u
  refine State.calms_ite (fun _ => .refl s) fun _ => ?_
  dsimp only
  split
  · exact (State.calms_setReceiver _).trans (examined _ _)
  · exact State.calms_setReceiver _

theorem State.calms_countMiss (k : Nat) : s.calms (s.countMiss k) := by
  unfold State.countMiss
  dsimp only
  split
  · exact .refl s
  · refine State.calms_ite (fun _ => ?_) fun _ => ?_
    · exact ((State.calms_setDyn rfl).trans (State.calms_raise ..)).trans (State.calms_raise ..)
    · exact (State.calms_setDyn rfl).trans (State.calms_raise ..)
  · exact State.calms_ite (fun _ => (State.calms_setDyn rfl).trans (State.calms_raise ..)) fun _ => State.calms_setDyn rfl
  · exact State.calms_setDyn rfl

theorem State.calms_runTo (n : Nat) : s.calms (s.runTo n) := State.calms_of_same rfl rfl rfl

theorem State.calms_windowExpires : s.calms s.windowExpires := by
  unfold State.windowExpires
  split
  next sl _ =>
    refine State.calms_ite (fun _ => ?_) fun _ => .refl s
    have waiting : s.calms ((s.runTo (sl.windowAt + 10)).setPhase sl .waiting) :=
      (State.calms_runTo _).trans (State.calms_setPhase (ph := .waiting) nofun)
    exact State.calms_ite (fun _ => waiting) fun _ =>
      (waiting.trans (State.calms_countMiss _)).trans State.calms_leaveQuiet
  next => exact .refl s

theorem State.calms_spanFrameEnds : s.calms s.spanFrameEnds := by
  unfold State.spanFrameEnds
  split
  · refine State.calms_ite (fun _ => ?_) fun _ => .refl s
    split
    · exact State.calms_setPhase nofun
    · exact State.calms_setPhase nofun
  · exact .refl s

/-- What follows the end of a slot: a DRIVE slot only to a tower of the machine (R62). -/
theorem State.calms_afterSlot (sl : Slot) : s.calms (s.afterSlot sl) := by
  unfold State.afterSlot
  dsimp only
  split
  · exact State.calms_beginDriveRound
  · refine State.calms_ite (fun more => State.calms_beginDriveSlot (s.mem_members.2 ⟨?_, more⟩)) fun _ => .refl s
    exact Nat.le_add_left 1 _
  · exact State.calms_ite (fun _ => State.calms_beginSurveySlot _) fun _ => State.calms_of_same rfl rfl rfl
  · exact State.calms_ite (fun _ => State.calms_beginRest) fun _ => .refl s
  · exact .refl s

theorem State.calms_slotEnds : s.calms s.slotEnds := by
  have idle (u : State) : u.calms { u with span := { u.span with slot := none } } := State.calms_setSpan fun _ _ => nofun
  unfold State.slotEnds
  split
  · exact ((State.calms_runTo _).trans (idle _)).trans (State.calms_afterSlot _)
  · exact .refl s

theorem State.calms_quietExpires : s.calms s.quietExpires := by
  have enters (u : State) : u.calms u.enterQuiet := by
    have told (l : SpanMaster) (slot : l.slot = u.span.slot) :
        u.calms (({ u with span := l } : State).startSurveyTimer.queueNotice .machine (.quiet false)) :=
      State.calms_of_same (by simp) (by simp) (by simpa [State.startSurveyTimer] using slot)
    have due (v : State) : v.calms { v with span := { v.span with restDue := true } } := State.calms_of_same rfl rfl rfl
    refine State.calms_ite (fun _ => ?_) fun _ => ?_
    · refine State.calms.trans ?_ State.calms_beginRest
      exact told _ rfl
    · refine State.calms.trans ?_ (due _)
      exact told _ rfl
  unfold State.quietExpires
  split
  · exact State.calms_ite (fun _ => (State.calms_runOut _).trans (enters _)) fun _ =>
      (State.calms_runOut _).trans State.calms_restartQuiet
  · exact .refl s

theorem State.calms_surveyExpires : s.calms s.surveyExpires := by
  unfold State.surveyExpires
  split
  next t _ =>
    have line (l : SpanMaster) (slot : l.slot = s.span.slot) : s.calms { s.runOut t with span := l } :=
      State.calms_of_same rfl rfl slot
    refine State.calms_ite (fun _ => ?_) fun _ => ?_
    · refine State.calms.trans ?_ (State.calms_beginSurveySlot 1)
      exact line _ rfl
    · exact line _ rfl
  next => exact .refl s

/-! ### The order engine (chapter 3) -/

/-- Outside the moving states the engine gives every tower order 0 (R41). -/
theorem State.setOrder_of_still (still : s.run.mstate.moving = false) (k : Nat) : s.setOrder k = 0 :=
  if_neg fun h => absurd (h.1.symm.trans still) (by decide)

theorem State.calms_takeOrders {v : Nat → Nat} (zero : s.run.mstate.moving = false → ∀ k, v k = 0) (ks : List Nat)
    (dir : Direction) : s.calms (s.takeOrders ks v dir) := by
  cases still : s.run.mstate.moving with
  | true =>
    have run : (s.takeOrders ks v dir).run = s.run := (congrArg State.run (State.takeOrders_frame ks v dir).1 :)
    exact State.calms_of_zero (by rw [run]) fun h => absurd (still.symm.trans h) (by decide)
  | false => exact State.calms_foldl (fun _ k => State.calms_setDyn_zero fun _ => zero still k) ks

/-- A set handed over that orders 0 outside the moving states (R58). -/
theorem State.calms_handSet {v : Nat → Nat} (zero : s.run.mstate.moving = false → ∀ k, v k = 0) (i : Byte)
    (dir : Direction) (ks : List Nat) : s.calms (s.handSet ⟨i, dir, ks.map fun k => (k, v k)⟩) := by
  have round (u : State) : u.calms (if u.span.mode = .active ∧ u.span.slot = none then u.beginDriveRound else u) :=
    State.calms_ite (fun _ => State.calms_beginDriveRound) fun _ => .refl u
  have held (u : State) : u.calms { u with
      engine := { u.engine with direction := dir }, span := { u.span with setInterval := some i } } :=
    State.calms_of_same rfl rfl rfl
  unfold State.handSet
  dsimp only
  rw [List.foldl_map]
  exact ((State.calms_takeOrders zero ks dir).trans (held _)).trans (round _)

theorem State.calms_intervalExpires : s.calms s.intervalExpires := by
  unfold State.intervalExpires
  split
  · refine State.calms.trans (State.calms.trans ?_ (State.calms_setEngine _)) State.calms_stoppingTest
    refine State.calms.trans ?_ (State.calms_handSet (fun still => State.setOrder_of_still still) _ _ _)
    exact (((State.calms_runOut _).trans State.calms_applyPending).trans (State.calms_setEngine _)).trans
      (State.calms_setEngine _)
  · exact .refl s

/-! ### The store and the resets (chapter 10) -/

theorem State.calms_setStore (c : ConfigStore) : s.calms { s with store := c } := State.calms_of_same rfl rfl rfl

theorem State.calms_takeStoreConfig (pr po : Byte) (d t : U16) : s.calms (s.takeStoreConfig pr po d t).1 := by
  unfold State.takeStoreConfig
  split
  · exact .refl s
  split
  · exact .refl s
  · exact State.calms_of_same rfl rfl rfl

theorem State.calms_writeCompletes (verified : Bool) : s.calms (s.writeCompletes verified) := by
  unfold State.writeCompletes
  split
  · exact State.calms_of_same (by simp) (by simp) (by simp)
  · exact .refl s

theorem State.ordersAtRest_of_zero (zero : s.orders.zero) : s.ordersAtRest := State.ordersAtRest_iff.2 fun _ => zero

/-- A return of power, with every order 0 (R177). -/
theorem State.powerReturn_ordersAtRest (zero : s.orders.zero) (announce : Bool) :
    (s.powerReturn announce).ordersAtRest := by
  have enters (u : State) (same : u.orders = s.orders) (m : MState) :
      (u.enterWith announce m none none none).ordersAtRest :=
    State.enterWith_ordersAtRest (fun _ => same ▸ zero) announce none none none
  have notice (u : State) (d : RecoveryData) (h : u.ordersAtRest) : (u.queueNotice .machine (.recovery d)).ordersAtRest :=
    (State.calms_queueNotice ..).rest h
  have restored (k : FaultKind) : (s.restoreTrip k).orders = s.orders := by
    unfold State.restoreTrip
    dsimp only
    split <;> rfl
  unfold State.powerReturn
  dsimp only
  split
  · exact enters _ rfl _
  split
  · exact enters _ rfl _
  · refine enters _ ?_ _
    split
    · exact restored _
    · rfl
  · split
    · exact notice _ _ (enters s rfl _)
    · refine enters _ ?_ _
      rfl
  · split
    · exact notice _ _ (enters s rfl _)
    · refine enters _ ?_ _
      rfl
    · refine notice _ _ (enters _ ?_ _)
      rfl

/-- A power-fail assertion sets every order to 0 before it enters POWER_WAIT (R63, R176). -/
theorem State.calms_powerFails : s.calms s.powerFails :=
  State.calms_ite (fun _ => .refl s) fun _ => by
    refine State.calms_of_rest (State.enter_ordersAtRest (fun _ => ?_) _ _ _)
    exact State.zeroOrders_zero _

theorem State.calms_powerReturns : s.calms s.powerReturns := by
  refine State.calms_ite (fun wait => ⟨fun h => ?_⟩) fun _ => .refl s
  exact State.powerReturn_ordersAtRest (State.ordersAtRest_iff.1 h (by rw [wait]; rfl)) true

theorem State.calms_recoveryExpires : s.calms s.recoveryExpires := by
  unfold State.recoveryExpires
  split
  next t recovering _ =>
    have still : s.run.mstate.moving = false := by rw [recovering]; rfl
    have idle : s.calms ((s.runOut t).setRun fun c => { c with recoveryTimer := none }) :=
      (State.calms_runOut t).trans (State.calms_setRun rfl)
    dsimp only
    split
    · refine (idle.trans (State.calms_enterPrestart ?_ _)).trans (State.calms_queueNotice ..)
      exact still
    · refine ((idle.trans (State.calms_setRun rfl)).trans (State.calms_enter ?_ ..)).trans (State.calms_queueNotice ..)
      exact still
  next => exact .refl s

/-- A reset brings every tower to its reset values, and the line has no slot (R5, R61, R174). -/
theorem State.fresh_zero (s : State) : s.fresh.orders.zero := by
  refine ⟨fun k _ => ?_, nofun⟩
  have tower : s.fresh.tower k = ⟨nth s.store.stored.load.towers k .empty, .reset⟩ :=
    nth_map s.store.stored.load.towers (fun c => (⟨c, .reset⟩ : TowerRecord)) k .empty
  change (s.fresh.tower k).dyn.lastOrder = 0
  rw [tower]
  rfl

theorem State.decide_ordersAtRest (zero : s.orders.zero) : s.decide.ordersAtRest := by
  unfold State.decide
  dsimp only
  split
  · have invalid : State.ordersAtRest { s with store := { s.store with record := { s.store.record with valid := false } } } :=
      State.ordersAtRest_of_zero zero
    split
    · exact (State.calms_queueNotice ..).rest invalid
    · exact invalid
  split
  · exact State.ordersAtRest_of_zero zero
  split
  · exact State.powerReturn_ordersAtRest zero false
  · exact (State.calms_setStore _).rest (State.enterWith_ordersAtRest (fun _ => zero) false none none none)

theorem State.resetPart_ordersAtRest (s : State) (device : Bool) : (s.resetPart device).ordersAtRest := by
  have told (u : State) (subject : Subject) (data : NoticeData) : (u.queueNotice subject data).orders = u.orders :=
    State.orders_of_eq (by simp) (by simp)
  refine State.decide_ordersAtRest ?_
  change (State.orders (if _ then _ else _)).zero
  rw [apply_ite State.orders, told _ .machine .configInvalid, ite_self, told]
  exact s.loseWrite.fresh_zero

/-! ### The panel port (chapter 9) -/

theorem State.calms_setPanel (p : PanelPort) : s.calms { s with panel := p } := State.calms_of_same rfl rfl rfl

theorem State.calms_noteTaken (r : Request) : s.calms (s.noteTaken r) := by
  have line : s.calms (if s.span.mode = .active then s.restartQuiet else s.leaveQuiet) :=
    State.calms_ite (fun _ => State.calms_restartQuiet) fun _ => State.calms_leaveQuiet
  have latched := line.trans (State.calms_latchKind .panelSilent none)
  exact State.calms_ite (fun _ => latched) fun _ => latched.trans (State.calms_setPanel _)

/-- Every request keeps Law 2. -/
theorem State.calms_serve (wake : Bool) (r : Request) : s.calms (s.serve wake r).1 := by
  obtain ⟨readTower, -, -, readSectors, -, -, faultList, -⟩ := State.otherRequests_core (s := s)
  cases r with
  | configMachine p vs =>
    change s.calms (s.takeConfigMachine p vs).1
    unfold State.takeConfigMachine
    exact State.calms_takeWrite ..
  | configTower k p vs =>
    change s.calms (s.takeConfigTower k p vs).1
    unfold State.takeConfigTower
    dsimp only
    split
    · exact .refl s
    · exact State.calms_takeWrite ..
  | storeConfig pr po d t => exact State.calms_takeStoreConfig ..
  | startPass d p pr sa c => exact State.calms_takeStartPass ..
  | setPace p => exact State.calms_runCheck_map fun _ => State.calms_takePace
  | stopPass => exact State.calms_runCheck_map fun _ => State.calms_takeStop
  | hold => exact State.calms_takeHold
  | resume => exact State.calms_takeResume
  | reverse => exact State.calms_runCheck_map fun _ => State.calms_takeReverse
  | tripReset => exact State.calms_takeTripReset
  | setFaultMode k m => exact State.calms_takeSetFaultMode ..
  | faultClear sel k t => exact State.calms_takeFaultClear ..
  | readTower k => exact (readTower k).symm ▸ .refl s
  | readSectors c n => exact (readSectors c n).symm ▸ .refl s
  | faultList p => exact (faultList p).symm ▸ .refl s
  | setSectors m es => exact State.calms_takeSetSectors ..
  | setWatch n en r w d c st a g rp => exact State.calms_takeSetWatch ..
  | setAux o m => exact State.calms_takeSetAux ..
  | setNoticePriority k p =>
    change s.calms (s.takeSetNoticePriority k p).1
    unfold State.takeSetNoticePriority
    repeat' split
    all_goals exact State.calms_setPanel _
  | setNoticeMask l =>
    change s.calms (s.takeSetNoticeMask l).1
    unfold State.takeSetNoticeMask
    split <;> exact State.calms_setPanel _
  | noticeFetch =>
    change s.calms s.takeNoticeFetch.1
    unfold State.takeNoticeFetch
    dsimp only
    split <;> exact State.calms_setPanel _
  | setWakeFilter n u k sub p =>
    change s.calms (s.takeSetWakeFilter n u k sub p).1
    unfold State.takeSetWakeFilter
    dsimp only
    repeat' split
    all_goals exact State.calms_setPanel _
  | panelSleep => exact State.calms_setPanel _
  | readMachine | readWatches | resetDevice | panelAwake | readPort | unknown | badLength => exact .refl s

theorem State.calms_take (f : PanelFrame) : s.calms (s.take f) :=
  ((State.calms_noteTaken (parseRequest f)).trans (State.calms_serve s.panel.wakeLine (parseRequest f))).trans
    (State.calms_setPanel _)

theorem State.calms_arrive (f : PanelFrame) : s.calms (s.arrive f) :=
  State.calms_ite (fun _ => State.calms_setPanel _) fun _ =>
    State.calms_ite (fun _ => State.calms_take f) fun _ => State.calms_setPanel _

theorem State.calms_panelByte (b : Byte) : s.calms (s.panelByte b) := by
  unfold State.panelByte
  dsimp only
  split
  · exact ((State.calms_setPanel _).trans (State.calms_arrive _)).trans State.calms_transmit
  · exact State.calms_setPanel _

theorem State.calms_replyEnds : s.calms s.replyEnds := by
  have next (u : State) : u.calms u.takeNext := by
    unfold State.takeNext
    split
    · exact (State.calms_setPanel _).trans (State.calms_take _)
    · exact .refl u
  unfold State.replyEnds
  split
  · exact State.calms_ite (fun _ => State.calms_of_rest (State.resetPart_ordersAtRest _ true)) fun _ =>
      (State.calms_setPanel _).trans (next _)
  · exact .refl s

theorem State.calms_noticeEnds : s.calms s.noticeEnds := by
  unfold State.noticeEnds
  split
  · exact State.calms_setPanel _
  · exact .refl s

theorem State.calms_silenceExpires : s.calms s.silenceExpires := by
  unfold State.silenceExpires
  split
  · exact ((State.calms_runOut _).trans (State.calms_setPanel _)).trans (State.calms_raise ..)
  · exact .refl s

theorem State.calms_submitFrame (f : PanelFrame) : s.calms (s.submitFrame f) :=
  State.calms_ite (fun _ => (State.calms_setPanel _).trans (State.calms_arrive f)) fun _ => .refl s

/-! ### Every command -/

theorem event_calms {f : State → State} (kept : s.calms (f s)) (h : event f s = .next t) : s.calms t := by
  cases h
  exact State.calms_ite (fun _ => kept.trans State.calms_transmit) fun _ => .refl s

/-- An input that takes a level before its event follows. -/
theorem event_calms_inputs {f : State → State} {i : Inputs} (kept : ∀ u : State, u.calms (f u))
    (h : event f { s with inputs := i } = .next t) : s.calms t :=
  (State.calms_of_same (s := s) (t := { s with inputs := i }) rfl rfl rfl).trans (event_calms (kept _) h)

/-- Every command keeps Law 2. -/
theorem exec_calms (c : Instr) (h : exec c s = .next t) : s.calms t := by
  cases frame : c.frame with
  | some f =>
    rw [exec_of_frame frame] at h
    exact event_calms (State.calms_submitFrame f) h
  | none =>
    cases c with
    | panelFrameComplete bytes =>
      exact event_calms (f := fun s => bytes.foldl State.panelByte s)
        (State.calms_foldl (fun _ b => State.calms_panelByte b) bytes) h
    | panelFrameGap b =>
      exact event_calms (f := fun s => ({ s with panel := { s.panel with rx := [] } } : State).panelByte b)
        ((State.calms_setPanel _).trans (State.calms_panelByte b)) h
    | panelFrameLengthAbove120 b =>
      exact event_calms (State.calms_ite (fun _ => State.calms_panelByte b) fun _ => .refl s) h
    | replySent => exact event_calms State.calms_replyEnds h
    | noticeFrameSent => exact event_calms State.calms_noticeEnds h
    | panelSilenceExpiry => exact event_calms State.calms_silenceExpires h
    | driveIntervalExpiry => exact event_calms State.calms_intervalExpires h
    | slotEnd => exact event_calms State.calms_slotEnds h
    | spanFrameSent => exact event_calms State.calms_spanFrameEnds h
    | quietTimerExpiry => exact event_calms State.calms_quietExpires h
    | surveyTimerExpiry => exact event_calms State.calms_surveyExpires h
    | replyWindowExpiry => exact event_calms State.calms_windowExpires h
    | reportReceived bytes =>
      exact event_calms (f := fun s => bytes.foldl State.spanByte s)
        (State.calms_foldl (fun _ b => State.calms_spanByte b) bytes) h
    | spanFrameGap b =>
      exact event_calms (f := fun s => ({ s with span := { s.span with rx := [] } } : State).spanByte b)
        ((State.calms_setReceiver []).trans (State.calms_spanByte b)) h
    | spanFrameKindNotReport b =>
      exact event_calms (State.calms_ite (fun _ => State.calms_spanByte b) fun _ => .refl s) h
    | stallTimerExpiry k => exact event_calms (State.calms_stallTimerExpires k) h
    | sampleTimerExpiry => exact event_calms (State.calms_of_same rfl rfl rfl) h
    | encoderReadComplete q e o => exact event_calms (State.calms_readCompletes q e o) h
    | encoderReadTimeout => exact event_calms State.calms_readTimesOut h
    | prestartTimerExpiry => exact event_calms State.calms_prestartExpires h
    | startFailTimerExpiry => exact event_calms State.calms_startFails h
    | stopTimerExpiry => exact event_calms State.calms_stopTimesOut h
    | recoveryTimerExpiry => exact event_calms State.calms_recoveryExpires h
    | chainSenseChange closed =>
      change execChainSenseChange closed s = _ at h
      unfold execChainSenseChange at h
      split at h
      · cases h; exact .refl s
      · exact event_calms_inputs (fun _ => State.calms_chainChanged) h
    | powerFailAssert =>
      change execPowerFailAssert s = _ at h
      unfold execPowerFailAssert at h
      split at h
      · cases h; exact .refl s
      · exact event_calms_inputs (fun _ => State.calms_powerFails) h
    | powerFailDeassert =>
      change execPowerFailDeassert s = _ at h
      unfold execPowerFailDeassert at h
      split at h
      · exact event_calms_inputs (fun _ => State.calms_powerReturns) h
      · cases h; exact .refl s
    | powerOnReset check =>
      cases h
      exact State.calms_of_rest (State.calms_transmit.rest (State.resetPart_ordersAtRest _ false))
    | deviceReset => exact event_calms (f := State.deviceReset) (State.calms_of_rest (State.resetPart_ordersAtRest _ true)) h
    | supplyLoss => cases h; exact State.calms_of_same (by simp) (by simp) (by simp)
    | storeWriteComplete verified => exact event_calms (State.calms_writeCompletes verified) h
    | _ => cases frame

/-- Settles O4: every command keeps Law 2 (`exec_calms`). A machine leaves the moving states at the completion of STOPPING,
at a trip, at a power-fail assertion or at a reset, each of which finds or makes every order 0 and cuts short a frame of
another; and elsewhere a tower takes an order from the order engine alone, which orders 0 (`State.setOrder_of_still`). -/
theorem ordersAreZeroOutsideTheMovingStates : Obligations.OrdersAreZeroOutsideTheMovingStates := by
  intro s t rest h
  unfold step at h
  split at h
  next c commands _ =>
    have popped : s.calms { s with pending := commands } := State.calms_of_same rfl rfl rfl
    exact (popped.trans (exec_calms c h)).rest rest
  next =>
    cases h
    have ticks : s.calms s.tick := State.calms_ite (fun _ => State.calms_of_same rfl rfl rfl) fun _ => .refl s
    exact ticks.rest rest

end Sys2Proof.Machine
end

section
/-! SUPPORT. The slots of the span line (R62 to R66, R73, R76 to R79), each operation by its cases; then what follows a frame,
a reply window and a slot (O53). -/

namespace Sys2Proof.Machine

variable {s : State}

/-! ### The slots that begin (R63, R68) -/

/-- The hold time is the time in which a tower would be lost, in units of 100 ms, within 5..255 (R68). -/
theorem State.holdTime_eq (s : State) :
    s.holdTime = max 5 (min 255 (((s.mval .missLimit + 1) * s.mval .driveInterval + 99) / 100)) := by
  unfold State.holdTime ceilDiv clampNat
  omega

theorem State.beginDriveSlot_eq (s : State) (k : Nat) : s.beginDriveSlot k = { s with span := { s.span with
    slot := some ⟨.drive, k, .sending, s.span.setInterval.getD 0, (s.tower k).dyn.lastDirection, (s.tower k).dyn.lastOrder,
      max 5 (min 255 (((s.mval .missLimit + 1) * s.mval .driveInterval + 99) / 100)), s.clock, s.clock, false⟩
    lastLine := setNth s.span.lastLine k (some (s.tower k).dyn.lastOrder) } } := by
  rw [← s.holdTime_eq]
  rfl

theorem State.beginDriveRound_begins (towers : 1 ≤ s.towerCount) (configured : s.run.mstate ≠ .unconfigured) :
    s.beginDriveRound = s.beginDriveSlot 1 := if_pos ⟨towers, configured⟩

theorem State.beginDriveRound_stays (h : s.towerCount = 0 ∨ s.run.mstate = .unconfigured) : s.beginDriveRound = s := by
  refine if_neg fun ⟨towers, configured⟩ => ?_
  rcases h with none | unconfigured
  · omega
  · exact configured unconfigured

/-! ### The end of the part's frame (R63, R76) -/

theorem State.spanFrameEnds_window {sl : Slot} (slot : s.span.slot = some sl) (sending : sl.phase = .sending)
    (kind : sl.kind ≠ .rest) : s.spanFrameEnds = s.setPhase { sl with windowAt := s.clock } .window := by
  unfold State.spanFrameEnds
  rw [slot]
  dsimp only
  rw [if_pos sending]
  split
  next rest => exact absurd rest kind
  next => rfl

theorem State.spanFrameEnds_rest {sl : Slot} (slot : s.span.slot = some sl) (sending : sl.phase = .sending)
    (kind : sl.kind = .rest) : s.spanFrameEnds = s.setPhase sl .waiting := by
  unfold State.spanFrameEnds
  rw [slot]
  dsimp only
  rw [if_pos sending, kind]

/-! ### Misses (R73) -/

/-- A tower's dynamic fields with a miss count and a link state; a LOST tower's status is ABSENT (R70, R73). -/
def TowerDynamic.missed (d : TowerDynamic) (c : Nat) (l : LinkState) : TowerDynamic :=
  { d with misses := c, link := l, status := if l = .lost then .absent else d.status }

section Misses

variable {k : Nat}

theorem State.countMiss_absent (link : (s.tower k).dyn.link = .absent) : s.countMiss k = s := by
  unfold State.countMiss
  dsimp only
  rw [link]

theorem State.countMiss_online (link : (s.tower k).dyn.link = .online) (limit : 2 ≤ s.mval .missLimit) :
    s.countMiss k = (s.setDyn k fun d => d.missed 1 .missing).raise .linkMiss (some k) := by
  unfold State.countMiss
  dsimp only
  rw [link]
  exact if_neg (by omega)

theorem State.countMiss_online_last (link : (s.tower k).dyn.link = .online) (limit : s.mval .missLimit = 1) :
    s.countMiss k = ((s.setDyn k fun d => d.missed 1 .lost).raise .linkMiss (some k)).raise .linkLost (some k) := by
  unfold State.countMiss
  dsimp only
  rw [link]
  exact if_pos (by omega)

theorem State.countMiss_missing (link : (s.tower k).dyn.link = .missing)
    (room : (s.tower k).dyn.misses + 1 < s.mval .missLimit) :
    s.countMiss k = s.setDyn k fun d => d.missed ((s.tower k).dyn.misses + 1) .missing := by
  unfold State.countMiss
  dsimp only
  rw [link]
  refine (if_neg (by omega)).trans (s.setDyn_congr ?_)
  rw [TowerDynamic.missed, if_neg (by decide), ← link]

theorem State.countMiss_missing_last (link : (s.tower k).dyn.link = .missing)
    (full : (s.tower k).dyn.misses + 1 = s.mval .missLimit) :
    s.countMiss k = (s.setDyn k fun d => d.missed (s.mval .missLimit) .lost).raise .linkLost (some k) := by
  unfold State.countMiss
  dsimp only
  rw [link]
  exact if_pos (by omega)

theorem State.countMiss_lost (link : (s.tower k).dyn.link = .lost) (status : (s.tower k).dyn.status = .absent) :
    s.countMiss k = s.setDyn k fun d => d.missed (s.mval .missLimit) .lost := by
  unfold State.countMiss
  dsimp only
  rw [link]
  refine s.setDyn_congr ?_
  simp [TowerDynamic.missed, ← link, ← status]

end Misses

/-! ### The reply window that closes (R66, R77, R79) -/

/-- The part at the close of the reply window of a slot, before what the lack of a REPORT brings about. -/
def State.replyWindowClosed (s : State) (sl : Slot) : State :=
  { s with
    clock := max s.clock (sl.windowAt + 10)
    span := { s.span with slot := some { sl with phase := .waiting } } }

theorem State.windowExpires_eq {sl : Slot} (slot : s.span.slot = some sl) (window : sl.phase = .window) :
    s.windowExpires =
      if sl.left then s.replyWindowClosed sl else ((s.replyWindowClosed sl).countMiss sl.tower).leaveQuiet := by
  unfold State.windowExpires
  rw [slot]
  exact if_pos window

/-! ### The end of a slot (R62, R76, R78, R79) -/

/-- The part at the end of a slot, before what follows it. -/
def State.slotEnded (s : State) (sl : Slot) : State :=
  { s with clock := max s.clock (sl.startedAt + 15), span := { s.span with slot := none } }

theorem State.slotEnds_eq {sl : Slot} (slot : s.span.slot = some sl) : s.slotEnds = (s.slotEnded sl).afterSlot sl := by
  unfold State.slotEnds
  rw [slot]
  rfl

section AfterSlot

variable {sl : Slot}

theorem State.afterSlot_active (active : s.span.mode = .active) (kind : sl.kind ≠ .rest) : s.afterSlot sl =
    if sl.tower + 1 ≤ s.towerCount then s.beginDriveSlot (sl.tower + 1) else s := by
  unfold State.afterSlot
  rw [active]
  cases other : sl.kind with
  | drive | survey => rfl
  | rest => exact absurd other kind

theorem State.afterSlot_active_next (active : s.span.mode = .active) (kind : sl.kind ≠ .rest)
    (more : sl.tower < s.towerCount) : s.afterSlot sl = s.beginDriveSlot (sl.tower + 1) :=
  (State.afterSlot_active active kind).trans (if_pos more)

theorem State.afterSlot_active_last (active : s.span.mode = .active) (kind : sl.kind ≠ .rest)
    (last : s.towerCount ≤ sl.tower) : s.afterSlot sl = s :=
  (State.afterSlot_active active kind).trans (if_neg (by omega))

theorem State.afterSlot_active_rest (active : s.span.mode = .active) (kind : sl.kind = .rest) :
    s.afterSlot sl = s.beginDriveRound := by
  unfold State.afterSlot
  rw [active, kind]

theorem State.afterSlot_rest_begins (active : s.span.mode = .active) (kind : sl.kind = .rest)
    (towers : 1 ≤ s.towerCount) (configured : s.run.mstate ≠ .unconfigured) : s.afterSlot sl = s.beginDriveSlot 1 :=
  (State.afterSlot_active_rest active kind).trans (State.beginDriveRound_begins towers configured)

theorem State.afterSlot_rest_stays (active : s.span.mode = .active) (kind : sl.kind = .rest)
    (h : s.towerCount = 0 ∨ s.run.mstate = .unconfigured) : s.afterSlot sl = s :=
  (State.afterSlot_active_rest active kind).trans (State.beginDriveRound_stays h)

theorem State.afterSlot_survey (quiet : s.span.mode = .quiet) (kind : sl.kind = .survey) : s.afterSlot sl =
    if sl.tower + 1 ≤ s.towerCount then s.beginSurveySlot (sl.tower + 1) else s.startSurveyTimer := by
  unfold State.afterSlot
  rw [quiet, kind]

theorem State.afterSlot_survey_next (quiet : s.span.mode = .quiet) (kind : sl.kind = .survey)
    (more : sl.tower < s.towerCount) : s.afterSlot sl = s.beginSurveySlot (sl.tower + 1) :=
  (State.afterSlot_survey quiet kind).trans (if_pos more)

theorem State.afterSlot_survey_last (quiet : s.span.mode = .quiet) (kind : sl.kind = .survey)
    (last : s.towerCount ≤ sl.tower) : s.afterSlot sl = s.startSurveyTimer :=
  (State.afterSlot_survey quiet kind).trans (if_neg (by omega))

theorem State.afterSlot_quiet_drive (quiet : s.span.mode = .quiet) (kind : sl.kind = .drive) :
    s.afterSlot sl = if s.span.restDue then s.beginRest else s := by
  unfold State.afterSlot
  rw [quiet, kind]

theorem State.afterSlot_quiet_due (quiet : s.span.mode = .quiet) (kind : sl.kind = .drive)
    (due : s.span.restDue = true) : s.afterSlot sl = s.beginRest :=
  (State.afterSlot_quiet_drive quiet kind).trans (if_pos due)

theorem State.afterSlot_quiet_not_due (quiet : s.span.mode = .quiet) (kind : sl.kind = .drive)
    (notDue : s.span.restDue = false) : s.afterSlot sl = s :=
  (State.afterSlot_quiet_drive quiet kind).trans (if_neg (by simp [notDue]))

theorem State.afterSlot_quiet_rest (quiet : s.span.mode = .quiet) (kind : sl.kind = .rest) : s.afterSlot sl = s := by
  unfold State.afterSlot
  rw [quiet, kind]

end AfterSlot

/-! ### The obligation -/

/-- A reply window that closes on no REPORT, by the link state of its tower: the table of R73. -/
theorem replyWindow_closes (s : State) (sl : Slot) (powered : s.powered = true) (slot : s.span.slot = some sl)
    (window : sl.phase = .window) :
    let k := sl.tower
    let d := (s.tower k).dyn
    let base := s.replyWindowClosed sl
    let counted (c : Nat) (l : LinkState) : State := base.setDyn k fun d => d.missed c l
    let ends (u : State) := exec .replyWindowExpiry s = .next u.leaveQuiet.transmit
    (sl.left = true → exec .replyWindowExpiry s = .next base.transmit) ∧
    (sl.left = false → d.link = .absent → ends base) ∧
    (sl.left = false → d.link = .online → 2 ≤ s.mval .missLimit → ends ((counted 1 .missing).raise .linkMiss (some k))) ∧
    (sl.left = false → d.link = .online → s.mval .missLimit = 1 →
      ends (((counted 1 .lost).raise .linkMiss (some k)).raise .linkLost (some k))) ∧
    (sl.left = false → d.link = .missing → d.misses + 1 < s.mval .missLimit → ends (counted (d.misses + 1) .missing)) ∧
    (sl.left = false → d.link = .missing → d.misses + 1 = s.mval .missLimit →
      ends ((counted (s.mval .missLimit) .lost).raise .linkLost (some k))) ∧
    (sl.left = false → d.link = .lost → d.status = .absent → ends (counted (s.mval .missLimit) .lost)) := by
  intro k d base counted ends
  have left (h : sl.left = true) : exec .replyWindowExpiry s = .next base.transmit := by
    refine (event_powered powered State.windowExpires).trans ?_
    rw [State.windowExpires_eq slot window, if_pos h]
  have counts (h : sl.left = false) {u : State} (miss : base.countMiss k = u) : ends u := by
    refine (event_powered powered State.windowExpires).trans ?_
    rw [State.windowExpires_eq slot window, if_neg (by simp [h]), miss]
  exact ⟨left,
    fun h link => counts h (State.countMiss_absent link),
    fun h link limit => counts h (State.countMiss_online link limit),
    fun h link limit => counts h (State.countMiss_online_last link limit),
    fun h link room => counts h (State.countMiss_missing link room),
    fun h link full => counts h (State.countMiss_missing_last link full),
    fun h link status => counts h (State.countMiss_lost link status)⟩

/-- Settles O53: a frame's end by the kind of its slot, a reply window by the link state of its tower
(`replyWindow_closes`), a slot's end by the line mode and the slot's kind. -/
theorem slotsFollowOneAnother : Obligations.SlotsFollowOneAnother := by
  refine ⟨fun s sl powered slot sending => ⟨fun kind => ?_, fun kind => ?_⟩,
    fun s sl powered slot window _ _ => replyWindow_closes s sl powered slot window, fun s sl powered slot => ?_⟩
  · refine (event_powered powered State.spanFrameEnds).trans ?_
    rw [State.spanFrameEnds_window slot sending kind]
    rfl
  · refine (event_powered powered State.spanFrameEnds).trans ?_
    rw [State.spanFrameEnds_rest slot sending kind]
    rfl
  · have follows {u : State} (after : (s.slotEnded sl).afterSlot sl = u) : exec .slotEnd s = .next u.transmit := by
      refine (event_powered powered State.slotEnds).trans ?_
      rw [State.slotEnds_eq slot, after]
    have drives {k : Nat} (after : (s.slotEnded sl).afterSlot sl = (s.slotEnded sl).beginDriveSlot k) :=
      follows (after.trans (State.beginDriveSlot_eq _ k))
    exact ⟨fun active kind more => drives (State.afterSlot_active_next active kind more),
      fun active kind last => follows (State.afterSlot_active_last active kind last),
      fun active kind towers configured => drives (State.afterSlot_rest_begins active kind towers configured),
      fun active kind noRound => follows (State.afterSlot_rest_stays active kind noRound),
      fun quiet kind more => follows (State.afterSlot_survey_next quiet kind more),
      fun quiet kind last => follows (State.afterSlot_survey_last quiet kind last),
      fun quiet kind due => follows (State.afterSlot_quiet_due quiet kind due),
      fun quiet kind => follows (kind.elim (fun ⟨drive, notDue⟩ => State.afterSlot_quiet_not_due quiet drive notDue)
        fun rest => State.afterSlot_quiet_rest quiet rest)⟩

end Sys2Proof.Machine
end

section
/-! SUPPORT. Quiet mode (R75, R76, R78, R79): its conditions, its entry and its end, and the expiries of the quiet and the
survey timer (O55). -/

namespace Sys2Proof.Machine

variable {s : State}

/-! ### The entry to QUIET (R76) -/

/-- The conditions for QUIET: STOPPED, and every tower ONLINE, READY and ordered 0. -/
theorem State.quietAllowed_iff (s : State) : s.quietAllowed = true ↔
    s.run.mstate = .stopped ∧ ∀ k, 1 ≤ k → k ≤ s.towerCount →
      (s.tower k).dyn.link = .online ∧ (s.tower k).dyn.status = .ready ∧ (s.tower k).dyn.lastOrder = 0 := by
  unfold State.quietAllowed State.allReady State.allZero
  simp only [Bool.and_eq_true, beq_iff_eq, List.all_eq_true, s.mem_members, and_imp, and_assoc]
  refine and_congr_right fun _ => ⟨fun ⟨ready, zero⟩ k h1 h2 => ?_, fun h => ⟨fun k h1 h2 => ?_, fun k h1 h2 => ?_⟩⟩
  · exact ⟨(ready k h1 h2).1, (ready k h1 h2).2, zero k h1 h2⟩
  · exact ⟨(h k h1 h2).1, (h k h1 h2).2.1⟩
  · exact (h k h1 h2).2.2

/-- The line in QUIET, with the survey timer started. -/
def State.quietLine (s : State) : SpanMaster :=
  { s.span with
    mode := .quiet, quietTimer := none, surveyTimer := some ⟨s.mval .surveyInterval * 1000, s.clock⟩ }

/-- A notice queued behind a change of the span line, field by field. -/
theorem State.queueNotice_line (s : State) (l : SpanMaster) (subject : Subject) (data : NoticeData) :
    ({ s with span := l } : State).queueNotice subject data =
      { s with span := l, panel := (s.queueNotice subject data).panel } :=
  State.queueNotice_of_panel (s := s) (t := { s with span := l }) rfl subject data

theorem State.enterQuiet_eq (s : State) : s.enterQuiet =
    let t := ({ s with span := s.quietLine } : State).queueNotice .machine (.quiet false)
    if s.span.slot.isNone then t.beginRest else { t with span := { t.span with restDue := true } } := by
  have slot : (({ s with span := s.quietLine } : State).queueNotice .machine (.quiet false)).span.slot = s.span.slot := by
    rw [State.queueNotice_span]
    rfl
  dsimp only
  rw [← slot]
  rfl

/-- With no slot in progress the REST is sent at once. -/
theorem State.enterQuiet_idle (idle : s.span.slot = none) : s.enterQuiet =
    ({ s with span := { s.quietLine with
        slot := some ⟨.rest, 0, .sending, 0, .forward, 0, 0, s.clock, s.clock, false⟩
        restDue := false } } : State).queueNotice .machine (.quiet false) := by
  rw [s.enterQuiet_eq, idle]
  simp only [State.queueNotice_line]
  rfl

/-- A REST follows the slot in progress. -/
theorem State.enterQuiet_busy (busy : s.span.slot ≠ none) : s.enterQuiet =
    ({ s with span := { s.quietLine with restDue := true } } : State).queueNotice .machine (.quiet false) := by
  rw [s.enterQuiet_eq, if_neg (by simpa using busy)]
  simp only [State.queueNotice_line]

/-! ### The quiet timer (R75) -/

theorem State.restartQuiet_runs (active : s.span.mode = .active) (configured : s.run.mstate ≠ .unconfigured) :
    s.restartQuiet = { s with span := { s.span with quietTimer := some ⟨s.mval .quietDelay * 1000, s.clock⟩ } } :=
  if_pos ⟨active, configured⟩

theorem State.restartQuiet_idle (h : s.span.mode = .quiet ∨ s.run.mstate = .unconfigured) : s.restartQuiet = s := by
  refine if_neg fun ⟨active, configured⟩ => ?_
  rcases h with quiet | unconfigured
  · exact absurd (active.symm.trans quiet) (by decide)
  · exact configured unconfigured

theorem State.quietExpires_eq {timer : Timer} (running : s.span.quietTimer = some timer) : s.quietExpires =
    if s.quietAllowed then (s.runOut timer).enterQuiet else (s.runOut timer).restartQuiet := by
  unfold State.quietExpires
  rw [running]
  rfl

/-! ### The survey timer (R78) -/

theorem State.surveyExpires_eq {timer : Timer} (running : s.span.surveyTimer = some timer) : s.surveyExpires =
    if s.span.slot.isNone ∧ 1 ≤ s.towerCount then
      ({ s.runOut timer with span := { s.span with surveyTimer := none } } : State).beginSurveySlot 1
    else (s.runOut timer).startSurveyTimer := by
  unfold State.surveyExpires
  rw [running]
  rfl

/-! ### The return to ACTIVE (R79) -/

/-- The line in ACTIVE again, with the quiet timer started and no REST due. -/
def State.wokenLine (s : State) : SpanMaster :=
  { s.span with
    mode := .active, surveyTimer := none, restDue := false
    quietTimer := some ⟨s.mval .quietDelay * 1000, s.clock⟩ }

theorem State.leaveQuiet_eq (quiet : s.span.mode = .quiet) : s.leaveQuiet =
    let t := ({ s with span := s.wokenLine } : State).queueNotice .machine (.quiet true)
    if s.span.slot.isNone then t.beginDriveRound else t := by
  have slot : (({ s with span := s.wokenLine } : State).queueNotice .machine (.quiet true)).span.slot = s.span.slot := by
    rw [State.queueNotice_span]
    rfl
  dsimp only
  rw [← slot]
  exact if_pos quiet

/-- A slot in progress goes on, and no round begins that has no tower to begin with. -/
theorem State.leaveQuiet_stays (quiet : s.span.mode = .quiet)
    (h : s.span.slot ≠ none ∨ s.towerCount = 0 ∨ s.run.mstate = .unconfigured) :
    s.leaveQuiet = ({ s with span := s.wokenLine } : State).queueNotice .machine (.quiet true) := by
  rw [State.leaveQuiet_eq quiet]
  dsimp only
  split
  next idle =>
    refine State.beginDriveRound_stays ?_
    rw [State.queueNotice_run, State.towerCount_of_machine (s := s) (by rw [State.queueNotice_table])]
    exact h.resolve_left fun busy => busy (Option.isNone_iff_eq_none.1 idle)
  next => rfl

/-- With no slot in progress the DRIVE round begins at once. -/
theorem State.leaveQuiet_begins (quiet : s.span.mode = .quiet) (idle : s.span.slot = none) (towers : 1 ≤ s.towerCount)
    (configured : s.run.mstate ≠ .unconfigured) :
    s.leaveQuiet = ({ s with span := (({ s with span := s.wokenLine } : State).beginDriveSlot 1).span } : State).queueNotice
      .machine (.quiet true) := by
  rw [State.leaveQuiet_eq quiet, idle]
  simp only [State.queueNotice_line]
  exact State.beginDriveRound_begins towers configured

/-! ### The obligation -/

/-- Settles O55: the quiet timer's expiry by the conditions for QUIET and the slot in progress, the survey timer's by the
slot, the return to ACTIVE by the line mode and what a round needs. -/
theorem quietAndSurveyTimers : Obligations.QuietAndSurveyTimers := by
  refine ⟨fun s timer powered running active => ⟨fun ready idle => ?_, fun ready busy => ?_, fun unready configured => ?_⟩,
    fun s timer powered running => ⟨fun idle towers => ?_, fun busy => ?_⟩,
    fun s => ⟨State.leaveQuiet_active, State.leaveQuiet_stays, fun quiet idle towers configured => ?_,
      State.restartQuiet_runs, State.restartQuiet_idle⟩⟩
  · refine (event_powered powered State.quietExpires).trans ?_
    rw [State.quietExpires_eq running, if_pos (s.quietAllowed_iff.2 ready),
      State.enterQuiet_idle (s := s.runOut timer) idle]
    rfl
  · refine (event_powered powered State.quietExpires).trans ?_
    rw [State.quietExpires_eq running, if_pos (s.quietAllowed_iff.2 ready),
      State.enterQuiet_busy (s := s.runOut timer) busy]
    rfl
  · refine (event_powered powered State.quietExpires).trans ?_
    rw [State.quietExpires_eq running, if_neg (unready ∘ s.quietAllowed_iff.1),
      State.restartQuiet_runs (s := s.runOut timer) active configured]
    rfl
  · refine (event_powered powered State.surveyExpires).trans ?_
    rw [State.surveyExpires_eq running, if_pos ⟨Option.isNone_iff_eq_none.2 idle, towers⟩]
    rfl
  · refine (event_powered powered State.surveyExpires).trans ?_
    rw [State.surveyExpires_eq running, if_neg fun h => busy (Option.isNone_iff_eq_none.1 h.1)]
    rfl
  · rw [State.leaveQuiet_begins quiet idle towers configured, State.beginDriveSlot_eq]
    rfl

end Sys2Proof.Machine
end

section
/-! SUPPORT. Laws 4, 5 and 11 and the modes of the records (R83, R79, R104, R134): what they look at, the few elementary moves
by which every operation of the part changes that, and that no such move breaks one of them. -/

namespace Sys2Proof.Machine

/-! ### What the four laws look at -/

/-- Machine state and outputs, the line mode, the fault records with their modes, and the trip kind held and retained. -/
structure Posture where
  mstate : MState
  contactor : Bool
  warning : Bool
  line : LineMode
  records : List FaultRecord
  modes : ModeTable
  trip : Option FaultKind
  retained : Option FaultKind

def State.posture (s : State) : Posture :=
  ⟨s.run.mstate, s.run.contactor, s.run.warning, s.span.mode, s.faults.records, s.faults.modes, s.run.tripKind,
    s.store.record.tripKind⟩

namespace Posture

variable {p q : Posture}

/-- A HARD record is ACTIVE. -/
def hardActive (p : Posture) : Prop := ∃ r ∈ p.records, r.mode = .hard ∧ r.condition = .active

/-- The mode that the table gives a kind, or that of a record of the kind held. -/
def gives (p : Posture) (k : FaultKind) (m : FaultMode) : Prop :=
  m = p.modes.mode k ∨ ∃ r ∈ p.records, r.kind = k ∧ r.mode = m

/-- A mode that a record of a kind may have: one so given, or HARD for the trip kind retained. -/
def admits (p : Posture) (k : FaultKind) (m : FaultMode) : Prop := p.gives k m ∨ (m = .hard ∧ p.retained = some k)

/-- What the retained record's trip kind may become as the record is rewritten (R175). -/
def retains (p : Posture) (k : Option FaultKind) : Prop := k = p.retained ∨ k = p.trip ∨ k = none

/-- A record that may stand in the list after a change of it: of an admitted mode, and HARD and ACTIVE only where there was
such a record before or the contactor is released. -/
structure lists (p : Posture) (r : FaultRecord) : Prop where
  mode : p.admits r.kind r.mode
  hard : r.mode = .hard → r.condition = .active → p.hardActive ∨ p.mstate.contactor = false

/-- The mode of a kind changed in a record (R147). -/
def remode (k : FaultKind) (m : FaultMode) (r : FaultRecord) : FaultRecord := if r.kind == k then { r with mode := m } else r

/-- The elementary moves. Only an entry to a machine state may energise the contactor, and then from an energised state or with
no HARD record ACTIVE. -/
inductive Move : Posture → Posture → Prop
  /-- A machine state is entered (R83, R84): its outputs follow, and the line leaves QUIET unless the state is STOPPED. -/
  | enters (p : Posture) (m : MState) (retained : Option FaultKind)
      (safe : m.contactor = true → p.mstate.contactor = true ∨ ¬ p.hardActive) (kept : p.retains retained) :
      Move p { p with
        mstate := m, contactor := m.contactor, warning := m.warning
        line := if m = .stopped then p.line else .active, retained := retained }
  /-- The line enters QUIET (R76). -/
  | quiets (p : Posture) (stopped : p.mstate = .stopped) : Move p { p with line := .quiet }
  /-- The line leaves QUIET (R79). -/
  | wakes (p : Posture) : Move p { p with line := .active }
  /-- The retained record is rewritten (R175). -/
  | rewrites (p : Posture) (retained : Option FaultKind) (kept : p.retains retained) : Move p { p with retained := retained }
  /-- The trip kind is set or made absent (R104, R105, R177). -/
  | trips (p : Posture) (trip : Option FaultKind) (hard : ∀ k, trip = some k → p.admits k .hard) : Move p { p with trip := trip }
  /-- Records are raised, latched or removed (R136, R140, R151). -/
  | relists (p : Posture) (records : List FaultRecord) (listed : ∀ r ∈ records, p.lists r) : Move p { p with records := records }
  /-- The mode of a deferrable kind changes (R147). -/
  | remodes (p : Posture) (k : FaultKind) (deferred : Bool) (deferrable : k.deferrable = true) : Move p { p with
      modes := p.modes.put k deferred
      records := p.records.map (remode k (if deferred then .deferred else .immediate)) }
  /-- The part resets (R174). -/
  | resets (p : Posture) (modes : ModeTable) : Move p ⟨.unconfigured, false, false, .active, [], modes, none, p.retained⟩

/-! ### The laws -/

def outputsFollow (p : Posture) : Prop := p.contactor = p.mstate.contactor ∧ p.warning = p.mstate.warning

def quietOnlyStopped (p : Posture) : Prop := p.line = .quiet → p.mstate = .stopped

def hardStopped (p : Posture) : Prop := p.hardActive → p.mstate.contactor = false

structure modesAgree (p : Posture) : Prop where
  records : ∀ r ∈ p.records, r.mode = p.modes.mode r.kind
  trip : ∀ k, p.trip = some k → k.deferrable = false
  retained : ∀ k, p.retained = some k → k.deferrable = false

/-- A kind that cannot be deferred is HARD (R133, R134). -/
theorem mode_eq_hard_iff {t : ModeTable} {k : FaultKind} : t.mode k = .hard ↔ k.deferrable = false := by
  cases k
  case jointWarn | slip | stall | linkMiss | drift | panelSilent =>
    simp only [ModeTable.mode, FaultKind.deferrable]
    split <;> simp
  all_goals simp [ModeTable.mode, FaultKind.deferrable]

theorem mode_put_self {t : ModeTable} {k : FaultKind} (deferrable : k.deferrable = true) (deferred : Bool) :
    (t.put k deferred).mode k = if deferred then .deferred else .immediate := by
  cases k
  case jointWarn | slip | stall | linkMiss | drift | panelSilent => rfl
  all_goals cases deferrable

theorem mode_put_of_ne {t : ModeTable} {j k : FaultKind} (ne : j ≠ k) (deferred : Bool) :
    (t.put k deferred).mode j = t.mode j := by
  cases k <;> cases j
  any_goals rfl
  all_goals exact absurd rfl ne

/-- Where the modes agree, the mode that a kind may be given is the mode table's. -/
theorem modesAgree.mode_of_admits (h : p.modesAgree) {k : FaultKind} {m : FaultMode} (hm : p.admits k m) :
    m = p.modes.mode k := by
  rcases hm with (table | ⟨r, held, rfl, rfl⟩) | ⟨rfl, retained⟩
  · exact table
  · exact h.records r held
  · exact (mode_eq_hard_iff.2 (h.retained k retained)).symm

theorem modesAgree.retains (h : p.modesAgree) {retained : Option FaultKind} (kept : p.retains retained) :
    ∀ k, retained = some k → k.deferrable = false := by
  rcases kept with rfl | rfl | rfl
  · exact h.retained
  · exact h.trip
  · nofun

namespace Move

theorem outputsFollow (move : p.Move q) (h : p.outputsFollow) : q.outputsFollow := by
  cases move with
  | enters | resets => exact ⟨rfl, rfl⟩
  | quiets | wakes | rewrites | trips | relists | remodes => exact h

theorem quietOnlyStopped (move : p.Move q) (h : p.quietOnlyStopped) : q.quietOnlyStopped := by
  cases move with
  | enters m =>
    intro quiet
    by_contra other
    have line : (if m = .stopped then p.line else .active) = LineMode.quiet := quiet
    rw [if_neg other] at line
    cases line
  | quiets stopped => exact fun _ => stopped
  | wakes | resets => exact nofun
  | rewrites | trips | relists | remodes => exact h

theorem hardStopped (move : p.Move q) (h : p.hardStopped) : q.hardStopped := by
  cases move with
  | enters m _ safe =>
    intro hard
    cases energised : m.contactor with
    | false => rfl
    | true =>
      rcases safe energised with was | none
      · exact absurd (was.symm.trans (h hard)) (by decide)
      · exact absurd hard none
  | relists records listed =>
    rintro ⟨r, held, mode, condition⟩
    exact ((listed r held).hard mode condition).elim h id
  | remodes k deferred =>
    rintro ⟨r, held, mode, condition⟩
    obtain ⟨was, mem, rfl⟩ := List.mem_map.1 held
    refine h ⟨was, mem, ?_⟩
    unfold remode at mode condition
    split at mode
    · cases deferred <;> cases mode
    next other => exact ⟨mode, by rwa [if_neg other] at condition⟩
  | resets => rintro ⟨_, held, _⟩; cases held
  | quiets | wakes | rewrites | trips => exact h

theorem modesAgree (move : p.Move q) (h : p.modesAgree) : q.modesAgree := by
  cases move with
  | enters _ _ _ kept | rewrites _ kept => exact ⟨h.records, h.trip, h.retains kept⟩
  | trips trip hard =>
    exact ⟨h.records, fun k set => mode_eq_hard_iff.1 (h.mode_of_admits (hard k set)).symm, h.retained⟩
  | relists records listed => exact ⟨fun r held => h.mode_of_admits (listed r held).mode, h.trip, h.retained⟩
  | remodes k deferred deferrable =>
    refine ⟨fun r held => ?_, h.trip, h.retained⟩
    obtain ⟨was, mem, rfl⟩ := List.mem_map.1 held
    change (remode _ _ was).mode = (p.modes.put k deferred).mode (remode _ _ was).kind
    unfold remode
    split
    next same =>
      rw [beq_iff_eq] at same
      rw [same, mode_put_self deferrable]
    next other => rw [mode_put_of_ne (by simpa using other), h.records was mem]
  | resets => exact ⟨nofun, nofun, h.retained⟩
  | quiets | wakes => exact ⟨h.records, h.trip, h.retained⟩

end Move

end Posture

variable {s t u : State}

theorem State.activeHard_iff : s.activeHard = true ↔ s.posture.hardActive := by
  simp [State.activeHard, Posture.hardActive, State.posture]

theorem State.hardStopped_iff : s.hardStopped ↔ s.posture.hardStopped := by
  unfold State.hardStopped
  rw [State.activeHard_iff]
  rfl

theorem State.modesAgree_iff : s.modesAgree ↔ s.posture.modesAgree :=
  ⟨fun ⟨records, trip, retained⟩ => ⟨records, trip, retained⟩, fun h => ⟨h.records, h.trip, h.retained⟩⟩

/-! ### Moves in a row -/

/-- The elementary moves lead from the posture of s to that of t. -/
def State.leads (s t : State) : Prop := Relation.ReflTransGen Posture.Move s.posture t.posture

/-- What every move keeps, moves in a row keep. -/
theorem State.leads.keeps (h : s.leads t) {law : Posture → Prop} (kept : ∀ {p q : Posture}, p.Move q → law p → law q)
    (hs : law s.posture) : law t.posture := by
  unfold State.leads at h
  generalize t.posture = q at h
  induction h with
  | refl => exact hs
  | tail _ move ih => exact kept move ih

theorem State.leads.refl (s : State) : s.leads s := Relation.ReflTransGen.refl

theorem State.leads.trans (first : s.leads t) (second : t.leads u) : s.leads u := Relation.ReflTransGen.trans first second

theorem State.leads_of_eq (h : t.posture = s.posture) : s.leads t := by
  unfold State.leads
  rw [h]

theorem State.leads_of_move (move : s.posture.Move t.posture) : s.leads t := Relation.ReflTransGen.single move

theorem State.posture_of_same (run : t.run = s.run) (line : t.span.mode = s.span.mode) (faults : t.faults = s.faults)
    (record : t.store.record = s.store.record) : t.posture = s.posture := by
  unfold State.posture
  rw [run, line, faults, record]

/-- Run controller, line mode, fault list and retained record stand. -/
theorem State.leads_of_same (run : t.run = s.run) (line : t.span.mode = s.span.mode) (faults : t.faults = s.faults)
    (record : t.store.record = s.store.record) : s.leads t := State.leads_of_eq (State.posture_of_same run line faults record)

theorem State.leads_ite {p : Prop} [Decidable p] (yes : p → s.leads t) (no : ¬p → s.leads u) :
    s.leads (if p then t else u) := by
  split
  next h => exact yes h
  next h => exact no h

theorem State.leads_foldl {α : Type} {f : State → α → State} (step : ∀ (s : State) (a : α), s.leads (f s a))
    (as : List α) : s.leads (as.foldl f s) := by
  induction as generalizing s with
  | nil => exact .refl s
  | cons a as ih => exact (step s a).trans ih

end Sys2Proof.Machine
end

section
/-! SUPPORT. The shared operations as elementary moves: quiet mode, the changes of machine state, the steering of a pass, and
the raising, latching and removing of faults. -/

namespace Sys2Proof.Machine

variable {s t u : State}

/-! ### Moves by name -/

theorem State.leads_wakes (run : t.run = s.run) (line : t.span.mode = .active) (faults : t.faults = s.faults)
    (record : t.store.record = s.store.record) : s.leads t := by
  have posture : t.posture = { s.posture with line := .active } := by
    unfold State.posture
    rw [run, line, faults, record]
  exact State.leads_of_move (posture ▸ .wakes s.posture)

/-- The fault list is rewritten, each of its records one that may stand there. -/
theorem State.leads_relists (run : t.run = s.run) (line : t.span.mode = s.span.mode)
    (modes : t.faults.modes = s.faults.modes) (record : t.store.record = s.store.record)
    (listed : ∀ r ∈ t.faults.records, s.posture.lists r) : s.leads t := by
  have posture : t.posture = { s.posture with records := t.faults.records } := by
    unfold State.posture
    rw [run, line, modes, record]
  exact State.leads_of_move (posture ▸ .relists s.posture _ listed)

/-- A record of the list, LATCHED or as it was, may stand in it. -/
theorem State.lists_of_held {r q : FaultRecord} (held : q ∈ s.faults.records) (kind : r.kind = q.kind) (mode : r.mode = q.mode)
    (condition : r.condition = .active → q.condition = .active) : s.posture.lists r where
  mode := .inl (.inr ⟨q, held, kind.symm, mode.symm⟩)
  hard hard active := .inl ⟨q, held, mode ▸ hard, condition active⟩

/-! ### Operations that leave the posture -/

@[simp] theorem State.posture_queueNotice (s : State) (subject : Subject) (data : NoticeData) :
    (s.queueNotice subject data).posture = s.posture := State.posture_of_same (by simp) (by simp) (by simp) (by simp)

@[simp] theorem State.posture_transmit (s : State) : s.transmit.posture = s.posture :=
  State.posture_of_same (by simp) (by simp) (by simp) (by simp)

theorem State.leads_queueNotice (subject : Subject) (data : NoticeData) : s.leads (s.queueNotice subject data) :=
  State.leads_of_eq (by simp)

theorem State.leads_setDyn (k : Nat) (f : TowerDynamic → TowerDynamic) : s.leads (s.setDyn k f) := State.leads_of_eq rfl

theorem State.leads_setDyns (ks : List Nat) (f : TowerDynamic → TowerDynamic) : s.leads (s.setDyns ks f) :=
  State.leads_foldl (fun _ k => State.leads_setDyn k f) ks

@[simp] theorem State.cutFrame_mode (s : State) : s.cutFrame.span.mode = s.span.mode := by
  unfold State.cutFrame
  repeat' split
  all_goals rfl

@[simp] theorem State.zeroOrders_mode (s : State) : s.zeroOrders.span.mode = s.span.mode := by
  simp [State.zeroOrders]

@[simp] theorem State.beginDriveRound_mode (s : State) : s.beginDriveRound.span.mode = s.span.mode := by
  unfold State.beginDriveRound
  split <;> rfl

@[simp] theorem State.restartQuiet_mode (s : State) : s.restartQuiet.span.mode = s.span.mode := by
  unfold State.restartQuiet
  split <;> rfl

@[simp] theorem State.leaveQuiet_mode (s : State) : s.leaveQuiet.span.mode = .active := by
  unfold State.leaveQuiet
  split
  · dsimp only
    split <;> simp
  next other => exact (LineMode.casesOn (motive := fun m => m ≠ .quiet → m = .active) s.span.mode (fun _ => rfl)
      fun no => absurd rfl no) other

theorem State.leads_restartQuiet : s.leads s.restartQuiet :=
  State.leads_of_same (by simp) (by simp) (by simp) (by simp)

theorem State.leads_leaveQuiet : s.leads s.leaveQuiet := State.leads_wakes (by simp) (by simp) (by simp) (by simp)

/-! ### Changes of machine state (R84) -/

@[simp] theorem State.lineFollows_mode (s : State) :
    s.lineFollows.span.mode = if s.run.mstate = .stopped then s.span.mode else .active := by
  unfold State.lineFollows
  split
  · simp
  · split <;> simp

/-- What the four laws see of a machine state entered. -/
theorem State.enterWith_posture (s : State) (announce : Bool) (m : MState) (d : Option Destination) (r : Option PassEnd)
    (o : Option Origin) : (s.enterWith announce m d r o).posture = { s.posture with
      mstate := m, contactor := m.contactor, warning := m.warning
      line := if m = .stopped then s.span.mode else .active
      retained := if m = .powerWait then s.store.record.tripKind else if m = .tripped then s.run.tripKind else none } := by
  have told : ∃ p, (if announce then (s.setMachine m d r o).queueNotice .machine (.state m d) else s.setMachine m d r o) =
      { s.setMachine m d r o with panel := p } := by
    split
    · exact ⟨_, State.queueNotice_frame ..⟩
    · exact ⟨_, rfl⟩
  obtain ⟨p, told⟩ := told
  have record (u : State) : u.recordFollows.store.record.tripKind = if u.run.mstate = .powerWait then
      u.store.record.tripKind else if u.run.mstate = .tripped then u.run.tripKind else none := by
    unfold State.recordFollows
    split <;> rfl
  unfold State.enterWith
  dsimp only
  rw [told]
  simp [State.posture, record, State.setMachine]

theorem State.leads_enterWith {m : MState}
    (safe : m.contactor = true → s.run.mstate.contactor = true ∨ ¬ s.posture.hardActive) (announce : Bool)
    (d : Option Destination) (r : Option PassEnd) (o : Option Origin) : s.leads (s.enterWith announce m d r o) := by
  have kept : s.posture.retains
      (if m = .powerWait then s.store.record.tripKind else if m = .tripped then s.run.tripKind else none) := by
    split
    · exact .inl rfl
    · split
      · exact .inr (.inl rfl)
      · exact .inr (.inr rfl)
  exact State.leads_of_move (s.enterWith_posture .. ▸ .enters s.posture m _ safe kept)

theorem State.leads_enter {m : MState}
    (safe : m.contactor = true → s.run.mstate.contactor = true ∨ ¬ s.posture.hardActive) (d : Option Destination)
    (r : Option PassEnd) (o : Option Origin) : s.leads (s.enter m d r o) := State.leads_enterWith safe true d r o

theorem State.leads_enter_released {m : MState} (released : m.contactor = false) (d : Option Destination)
    (r : Option PassEnd) (o : Option Origin) : s.leads (s.enter m d r o) :=
  State.leads_enter (fun energised => absurd (released.symm.trans energised) (by decide)) d r o

theorem State.leads_rewriteRecord (c : Option (Nat × Bool)) : s.leads (s.rewriteRecord c) := by
  refine State.leads_of_move (.rewrites s.posture _ ?_)
  by_cases tripped : s.run.mstate = .tripped
  · exact .inr (.inl (if_pos tripped))
  · exact .inr (.inr (if_neg tripped))

theorem State.leads_redirect (d : Destination) (r : Option PassEnd) : s.leads (s.redirect d r) := by
  have set : s.leads (s.setRun fun c => { c with dest := some d, reason := r }) := State.leads_of_eq rfl
  exact (set.trans (State.leads_queueNotice ..)).trans (State.leads_rewriteRecord none)

theorem State.leads_setPass (f : Pass → Pass) : s.leads (s.setPass f) := State.leads_of_eq rfl

theorem State.leads_endPass (r : PassEnd) : s.leads (s.endPass r) := State.leads_of_eq (State.posture_queueNotice _ _ _)

/-- The run controller rewritten but for what the four laws look at. -/
theorem State.leads_setRun {f : RunController → RunController} (mstate : (f s.run).mstate = s.run.mstate)
    (contactor : (f s.run).contactor = s.run.contactor) (warning : (f s.run).warning = s.run.warning)
    (trip : (f s.run).tripKind = s.run.tripKind) : s.leads (s.setRun f) := by
  refine State.leads_of_eq ?_
  unfold State.posture State.setRun
  rw [mstate, contactor, warning, trip]

theorem State.leads_setTrip {f : RunController → RunController} (mstate : (f s.run).mstate = s.run.mstate)
    (contactor : (f s.run).contactor = s.run.contactor) (warning : (f s.run).warning = s.run.warning)
    (hard : ∀ k, (f s.run).tripKind = some k → s.posture.admits k .hard) : s.leads (s.setRun f) := by
  have posture : (s.setRun f).posture = { s.posture with trip := (f s.run).tripKind } := by
    unfold State.posture State.setRun
    rw [mstate, contactor, warning]
  exact State.leads_of_move (posture ▸ .trips s.posture _ hard)

theorem State.leads_prestartTest : s.leads s.prestartTest := by
  refine State.leads_ite (fun ⟨prestart, _⟩ => ?_) fun _ => .refl s
  refine State.leads.trans (State.leads_setRun rfl rfl rfl rfl) (State.leads_enter (fun _ => .inl ?_) ..)
  change s.run.mstate.contactor = true
  rw [prestart]
  rfl

theorem State.leads_enterPrestart (safe : s.run.mstate.contactor = true ∨ ¬ s.posture.hardActive) (o : Origin) :
    s.leads (s.enterPrestart o) := by
  have timed (f : RunController → RunController) (h : (s.setRun f).posture = s.posture)
      (mstate : (f s.run).mstate = s.run.mstate) : s.leads ((s.setRun f).enter .prestart none none (some o)).prestartTest := by
    refine ((State.leads_of_eq h).trans (State.leads_enter (fun _ => ?_) ..)).trans State.leads_prestartTest
    rw [h]
    change (f s.run).mstate.contactor = true ∨ _
    rwa [mstate]
  exact timed (fun c => { c with
    prestartTimer := if s.mval .prestartTime * 1000 = 0 then none else some (s.startTimer (s.mval .prestartTime * 1000))
    startFailTimer := some (s.startTimer (s.mval .prestartTime * 1000 + s.mval .stopTimeout * 1000)) }) rfl rfl

/-- STOPPING completes into STOPPED or HELD, or for a reversal into PRESTART with the contactor still energised (R96). -/
theorem State.leads_stoppingTest : s.leads s.stoppingTest := by
  refine State.leads_ite (fun ⟨stopping, _⟩ => ?_) fun _ => .refl s
  have cut (f : RunController → RunController) (h : (s.setRun f).posture = s.posture) :
      s.leads (s.setRun f).cutFrame :=
    State.leads.trans (State.leads_of_eq h) (State.leads_of_same (by simp) (by simp) (by simp) (by simp))
  have timed := cut (fun c => { c with stopTimer := none }) rfl
  dsimp only
  split
  · exact (timed.trans (State.leads_endPass _)).trans (State.leads_enter_released rfl ..)
  · exact timed.trans (State.leads_enter_released rfl ..)
  · refine (timed.trans (State.leads_setPass _)).trans (State.leads_enterPrestart (.inl ?_) _)
    have run (v : State) : v.cutFrame.run.mstate = v.run.mstate := by simp
    change (State.cutFrame _).run.mstate.contactor = true
    rw [run]
    change s.run.mstate.contactor = true
    rw [stopping]
    rfl
  · exact .refl s

/-- STOPPING is entered from an energised state. -/
theorem State.leads_enterStopping (energised : s.run.mstate.contactor = true) (d : Destination) (r : Option PassEnd) :
    s.leads (s.enterStopping d r) := by
  have timed (f : RunController → RunController) (h : (s.setRun f).posture = s.posture)
      (mstate : (f s.run).mstate = s.run.mstate) : s.leads ((s.setRun f).enter .stopping (some d) r) := by
    refine (State.leads_of_eq h).trans (State.leads_enter (fun _ => .inl ?_) ..)
    change (f s.run).mstate.contactor = true
    rwa [mstate]
  exact (timed (fun c => { c with
    prestartTimer := none, startFailTimer := none
    stopTimer := some (s.startTimer (s.mval .stopTimeout * 1000)) }) rfl rfl).trans State.leads_stoppingTest

/-! ### Steering a pass -/

theorem State.leads_takeStop {r : PassEnd} (h : s.takeStop r = some t) : s.leads t := by
  have ends : s.leads (((s.setRun fun c => { c with recoveryTimer := none }).endPass r).enter .stopped) :=
    State.leads.trans (State.leads.trans (State.leads_setRun rfl rfl rfl rfl) (State.leads_endPass r))
      (State.leads_enter_released rfl ..)
  unfold State.takeStop at h
  split at h <;> cases h
  next running => exact State.leads_enterStopping (by rw [running]; rfl) ..
  next prestart => exact State.leads_enterStopping (by rw [prestart]; rfl) ..
  next => exact State.leads_ite (fun _ => .refl s) fun _ => State.leads_redirect ..
  next => exact ends
  next => exact ends

theorem State.leads_takeReverse (h : s.takeReverse = some t) : s.leads t := by
  unfold State.takeReverse at h
  split at h <;> cases h
  next running => exact State.leads_enterStopping (by rw [running]; rfl) ..
  next => exact (State.leads_setPass _).trans (State.leads_rewriteRecord none)

theorem State.leads_takePace {v : Nat} (h : s.takePace v = some t) : s.leads t := by
  unfold State.takePace at h
  split at h <;> cases h <;> exact State.leads_setPass _

theorem State.leads_holdRequest : s.leads s.holdRequest := by
  unfold State.holdRequest
  split
  next running => exact State.leads_enterStopping (by rw [running]; rfl) ..
  next => exact State.leads.trans (State.leads_setRun rfl rfl rfl rfl) (State.leads_enter_released rfl ..)
  next => exact State.leads_ite (fun _ => State.leads_redirect ..) fun _ => .refl s
  next => exact .refl s

/-- What the four laws see of a trip request in an energised state (R104). -/
theorem State.tripRequest_posture (energised : s.run.mstate.contactor = true) (k : FaultKind) :
    (s.tripRequest k).posture = { s.posture with
      mstate := .tripped, contactor := false, warning := false, line := .active, trip := some k, retained := some k } := by
  unfold State.tripRequest
  rw [if_pos energised]
  refine (State.enterWith_posture ..).trans ?_
  simp [State.posture, State.endPass, State.setRun, MState.contactor, MState.warning]

theorem State.leads_zeroOrders : s.leads s.zeroOrders :=
  State.leads_of_same (by simp) (by simp) (by simp) (by simp)

/-! ### Faults (R136 to R140, R145, R151) -/

theorem State.removeRecords_faults (s : State) (sel : FaultRecord → Bool) :
    (s.removeRecords sel).faults = { s.faults with records := s.faults.records.filter fun r => !sel r } := by
  have unfrozen (rs : List FaultRecord) (u : State) : (rs.foldl State.unfreeze u).faults = u.faults := by
    induction rs generalizing u with
    | nil => rfl
    | cons r rs ih => exact (ih _).trans (by simp)
  exact unfrozen _ _

theorem State.leads_removeRecords (sel : FaultRecord → Bool) : s.leads (s.removeRecords sel) := by
  refine State.leads_relists (by simp) (by simp) (by rw [State.removeRecords_faults]) (by simp) fun r held => ?_
  rw [State.removeRecords_faults] at held
  exact State.lists_of_held (List.mem_filter.1 held).1 rfl rfl id

theorem State.leads_latch (sel : FaultRecord → Bool) : s.leads (s.latch sel) := by
  refine State.leads_relists rfl rfl rfl rfl fun r held => ?_
  obtain ⟨was, mem, rfl⟩ := List.mem_map.1 held
  split
  · exact State.lists_of_held mem rfl rfl nofun
  · exact State.lists_of_held mem rfl rfl id

theorem State.leads_latchKind (k : FaultKind) (t : Option Nat) : s.leads (s.latchKind k t) := State.leads_latch _

theorem State.leads_chainClears : s.leads s.chainClears := State.leads_ite (fun _ => State.leads_latch _) fun _ => .refl s

/-- What a raising makes of the list (R136, R137): it has a mode that its kind is given, the mode table stands, and each record
afterwards is given its mode, and is HARD and ACTIVE only if such a record was held or the raising is HARD. -/
theorem State.recordRaising_listed (s : State) (k : FaultKind) (t : Option Nat) :
    let u := (s.recordRaising k t).1
    let mode := (s.recordRaising k t).2.mode
    s.posture.gives k mode ∧ u.faults.modes = s.faults.modes ∧
      ∀ r ∈ u.faults.records, s.posture.gives r.kind r.mode ∧
        (r.mode = .hard → r.condition = .active → s.posture.hardActive ∨ mode = .hard) := by
  have held {r : FaultRecord} (mem : r ∈ s.faults.records) {p : Prop} : s.posture.gives r.kind r.mode ∧
      (r.mode = .hard → r.condition = .active → s.posture.hardActive ∨ p) :=
    ⟨.inr ⟨r, mem, rfl, rfl⟩, fun hard active => .inl ⟨r, mem, hard, active⟩⟩
  unfold State.recordRaising
  dsimp only
  split
  next q found =>
    have member := List.mem_of_find?_eq_some found
    have kind : q.kind = k := by
      have := List.find?_some found
      simp only [Bool.and_eq_true, beq_iff_eq] at this
      exact this.1
    refine ⟨.inr ⟨q, member, kind, rfl⟩, rfl, fun r mem => ?_⟩
    obtain ⟨was, wasHeld, rfl⟩ := List.mem_map.1 mem
    split
    · exact ⟨.inr ⟨q, member, rfl, rfl⟩, fun hard _ => .inr hard⟩
    · exact held wasHeld
  next =>
    have added {rs : List FaultRecord} (sub : ∀ r ∈ rs, r ∈ s.faults.records) (c : Condition) (a : Nat) :
        ∀ r ∈ rs ++ [⟨k, t, s.faults.modes.mode k, c, a, a, 1⟩], s.posture.gives r.kind r.mode ∧
          (r.mode = .hard → r.condition = .active → s.posture.hardActive ∨ s.faults.modes.mode k = .hard) := by
      intro r mem
      rcases List.mem_append.1 mem with old | new
      · exact held (sub r old)
      · cases List.mem_singleton.1 new
        exact ⟨.inl rfl, fun hard _ => .inr hard⟩
    split
    · exact ⟨.inl rfl, rfl, added (fun _ => id) _ _⟩
    split
    · split
      · refine ⟨.inl rfl, by rw [State.removeRecords_faults], added (fun r mem => ?_) _ _⟩
        rw [State.removeRecords_faults] at mem
        exact (List.mem_filter.1 mem).1
      · exact ⟨.inl rfl, rfl, fun r mem => held mem⟩
    · exact ⟨.inl rfl, rfl, fun r mem => held mem⟩

/-- A raising is a change of the list; a HARD one in an energised state trips the machine, which the four laws see before the
record (R104, R139). -/
theorem State.leads_raise (k : FaultKind) (t : Option Nat) : s.leads (s.raise k t) := by
  obtain ⟨gives, modes, listed⟩ := s.recordRaising_listed k t
  unfold State.raise
  dsimp only at *
  generalize hrec : s.recordRaising k t = rec at *
  obtain ⟨u, r⟩ := rec
  have run : u.run = s.run := by simpa [hrec] using s.recordRaising_run k t
  have span : u.span = s.span := by simpa [hrec] using s.recordRaising_span k t
  have store : u.store = s.store := by simpa [hrec] using s.recordRaising_store k t
  dsimp only at *
  set v := (u.freezeSlip k t r).queueNotice (faultSubject t) (.fault k r.mode r.count r.outcome r.displaced) with hv
  have posture : v.posture = { s.posture with records := u.faults.records } := by
    have : v.posture = u.posture := (State.posture_queueNotice ..).trans
      (State.posture_of_same (by simp) (by simp) (by simp) (by simp))
    rw [this]
    unfold State.posture
    rw [run, span, store, modes]
  have relisted (safe : r.mode = .hard → s.run.mstate.contactor = false) : s.leads v :=
    State.leads_of_move (posture ▸ .relists s.posture _ fun x mem =>
      ⟨.inl (listed x mem).1, fun hard active => ((listed x mem).2 hard active).imp_right safe⟩)
  clear_value v
  unfold State.actOnRaising
  split
  next immediate =>
    have listed := relisted fun hard => absurd (immediate.symm.trans hard) (by decide)
    exact State.leads_ite (fun _ => listed.trans State.leads_holdRequest) fun _ => listed
  next deferred => exact relisted fun hard => absurd (deferred.symm.trans hard) (by decide)
  next hard =>
    have mstate : v.run.mstate = s.run.mstate := congrArg Posture.mstate posture
    cases energised : s.run.mstate.contactor with
    | false =>
      have stays : v.tripRequest k = v := if_neg (by rw [mstate, energised]; decide)
      rw [stays]
      exact relisted fun _ => energised
    | true =>
      have tripped := State.tripRequest_posture (mstate ▸ energised) k
      rw [posture] at tripped
      have trip := Posture.Move.trips s.posture (some k) fun j same => by
        cases same
        exact .inl (hard ▸ gives)
      have enter := Posture.Move.enters { s.posture with trip := some k } .tripped (some k) nofun (.inr (.inl rfl))
      have relist := Posture.Move.relists { s.posture with
          mstate := .tripped, contactor := false, warning := false, line := .active, trip := some k, retained := some k }
        u.faults.records fun x mem => ⟨.inl (listed x mem).1, fun _ _ => .inr rfl⟩
      unfold State.leads
      rw [tripped]
      exact ((Relation.ReflTransGen.single trip).tail enter).tail relist

end Sys2Proof.Machine
end

section
/-! SUPPORT. The operations of the single blocks as elementary moves: the fault list, the run controller, the sector table, the
watch unit, the angle unit and the tower table. -/

namespace Sys2Proof.Machine

variable {s t : State}

/-! ### Blocks that the four laws do not look at -/

theorem State.leads_setSectors (c : SectorTable) : s.leads { s with sectors := c } := State.leads_of_eq rfl

theorem State.leads_setWatch (w : WatchUnit) : s.leads { s with watch := w } := State.leads_of_eq rfl

theorem State.leads_setAngle (a : AngleUnit) : s.leads { s with angle := a } := State.leads_of_eq rfl

theorem State.leads_setEngine (e : OrderEngine) : s.leads { s with engine := e } := State.leads_of_eq rfl

theorem State.leads_setPanel (p : PanelPort) : s.leads { s with panel := p } := State.leads_of_eq rfl

theorem State.leads_runTo (n : Nat) : s.leads (s.runTo n) := State.leads_of_eq rfl

theorem State.leads_runOut (t : Timer) : s.leads (s.runOut t) := State.leads_of_eq rfl

/-! ### The fault list (chapter 8) -/

theorem State.leads_changeMode {k : FaultKind} (deferrable : k.deferrable = true) (deferred : Bool) :
    s.leads (s.changeMode k deferred) := by
  have remoded : s.leads { s with faults := { s.faults with
      modes := s.faults.modes.put k deferred
      records := s.faults.records.map (Posture.remode k (if deferred then .deferred else .immediate)) } } :=
    State.leads_of_move (.remodes s.posture k deferred deferrable)
  refine State.leads_ite (fun _ => ?_) fun _ => ?_
  · exact State.leads_ite (fun _ => remoded.trans (State.leads_setDyns ..)) fun _ => remoded
  · exact State.leads_ite (fun _ => remoded.trans State.leads_holdRequest) fun _ => remoded

theorem State.leads_takeSetFaultMode (kind mode : Byte) : s.leads (s.takeSetFaultMode kind mode).1 := by
  unfold State.takeSetFaultMode
  split
  next k deferred _ _ =>
    split
    · exact .refl s
    next deferrable =>
      rw [apply_ite Prod.fst]
      exact State.leads_ite (fun _ => .refl s) fun _ => State.leads_changeMode (by simpa using deferrable) _
  · exact .refl s

theorem State.leads_takeFaultClear (sel kind tower : Byte) : s.leads (s.takeFaultClear sel kind tower).1 := by
  unfold State.takeFaultClear
  split
  · exact .refl s
  · exact State.leads_removeRecords _

theorem State.leads_warnCheck (k a : Nat) : s.leads (s.warnCheck k a) := by
  unfold State.warnCheck
  dsimp only
  refine State.leads_ite (fun _ => State.leads_ite (fun _ => ?_) fun _ => State.leads_setDyn ..) fun _ => ?_
  · exact (State.leads_setDyn ..).trans (State.leads_raise ..)
  · exact (State.leads_setDyn ..).trans (State.leads_latchKind ..)

theorem State.leads_tripCheck (k a : Nat) : s.leads (s.tripCheck k a) := by
  have marked (m : Vector Bool 16) : s.leads { s with faults := { s.faults with tripMarks := m } } := State.leads_of_eq rfl
  unfold State.tripCheck
  refine State.leads_ite (fun _ => State.leads_ite (fun _ => .refl s) fun _ => ?_) fun _ => marked _
  exact (marked _).trans (State.leads_raise ..)

theorem State.leads_faultExamine (k : Nat) (r : Report) : s.leads (s.faultExamine k r) := by
  have switch (u : State) : u.leads (u.switchCheck k r) :=
    State.leads_ite (fun _ => State.leads_raise ..) fun _ => .refl u
  have joints : s.leads (if k < s.towerCount then
      (s.warnCheck k (jointAngle (some r)).natAbs).tripCheck k (jointAngle (some r)).natAbs else s) :=
    State.leads_ite (fun _ => (State.leads_warnCheck ..).trans (State.leads_tripCheck ..)) fun _ => .refl s
  exact (joints.trans (switch _)).trans State.leads_chainClears

theorem State.leads_chainChanged : s.leads s.chainChanged := by
  refine State.leads_ite (fun _ => State.leads_chainClears) fun _ => ?_
  exact State.leads_ite (fun _ => State.leads_raise ..) fun _ => .refl s

/-! ### The run controller (chapter 5) -/

/-- A run request does, where it is taken, what has to be told. -/
theorem State.leads_runCheck {taken : Option (State × Answer)} (h : ∀ p, taken = some p → s.leads p.1) :
    s.leads (s.runCheck taken).1 := by
  unfold State.runCheck
  split
  · exact .refl s
  · cases taken with
    | none => exact .refl s
    | some p => exact h p rfl

theorem State.leads_runCheck_map {taken : Option State} {answer : State → Answer} (h : ∀ t, taken = some t → s.leads t) :
    s.leads (s.runCheck (taken.map fun t => (t, answer t))).1 := by
  refine State.leads_runCheck fun p hp => ?_
  obtain ⟨t, ht, rfl⟩ := Option.map_eq_some_iff.1 hp
  exact h t ht

/-- A HARD record, ACTIVE or not, is one that blocks a start (R87, R102, R179). -/
theorem State.not_hardActive (clear : ¬ s.blockingFault = true) : ¬ s.posture.hardActive := by
  rintro ⟨r, held, hard, -⟩
  refine clear (List.any_eq_true.2 ⟨r, held, ?_⟩)
  rw [hard]
  rfl

theorem State.startBlocked_none {d : Direction} (h : s.startBlocked d = none) : ¬ s.blockingFault = true := by
  intro fault
  unfold State.startBlocked at h
  rw [fault] at h
  split at h
  · cases h
  split at h
  · cases h
  · cases h

theorem State.leads_takeStartPass (d : Byte) (p : U16) (pr : Byte) (sa : U16) (c : Byte) :
    s.leads (s.takeStartPass d p pr sa c).1 := by
  refine State.leads_runCheck fun q hq => ?_
  dsimp only at hq
  generalize (if pr.getLsbD 0 then some sa.toNat else none) = stop at hq
  generalize (if pr.getLsbD 1 then some c.toNat else none) = target at hq
  repeat' split at hq
  all_goals cases hq
  · exact .refl s
  · exact .refl s
  · exact .refl s
  next free =>
    have starts (f : RunController → RunController) (same : (s.setRun f).posture = s.posture) :
        s.leads ((s.setRun f).enterPrestart .new) :=
      (State.leads_of_eq same).trans
        (State.leads_enterPrestart (.inr (same ▸ State.not_hardActive (State.startBlocked_none free))) _)
    exact starts _ rfl

theorem State.leads_takeHold : s.leads s.takeHold.1 := by
  refine State.leads_runCheck fun q hq => ?_
  split at hq <;> cases hq
  next running => exact State.leads_enterStopping (by rw [running]; rfl) ..

theorem State.leads_takeResume : s.leads s.takeResume.1 := by
  refine State.leads_runCheck fun q hq => ?_
  repeat' split at hq
  all_goals cases hq
  · exact .refl s
  · exact .refl s
  next clear => exact State.leads_enterPrestart (.inr (State.not_hardActive clear)) _

theorem State.leads_takeTripReset : s.leads s.takeTripReset.1 := by
  refine State.leads_runCheck fun q hq => ?_
  dsimp only at hq
  repeat' split at hq
  all_goals cases hq
  · exact .refl s
  · exact .refl s
  · have reset (u : State) : u.leads ((u.setRun fun c => { c with tripKind := none }).enter .stopped) :=
      (State.leads_setTrip rfl rfl rfl fun _ absent => by cases absent).trans (State.leads_enter_released rfl ..)
    exact (State.leads_removeRecords _).trans (reset _)

theorem State.leads_prestartExpires : s.leads s.prestartExpires := by
  unfold State.prestartExpires
  split
  · exact ((State.leads_runOut _).trans (State.leads_setRun rfl rfl rfl rfl)).trans State.leads_prestartTest
  · exact .refl s

theorem State.leads_startFails : s.leads s.startFails := by
  unfold State.startFails
  split
  · refine State.leads.trans (State.leads.trans ?_ (State.leads_enter_released ?_ ..)) (State.leads_queueNotice ..)
    · exact (State.leads_runOut _).trans (State.leads_setRun rfl rfl rfl rfl)
    · split <;> rfl
  · exact .refl s

theorem State.leads_stopTimesOut : s.leads s.stopTimesOut := by
  unfold State.stopTimesOut
  split
  · exact ((State.leads_runOut _).trans (State.leads_setRun rfl rfl rfl rfl)).trans (State.leads_raise ..)
  · exact .refl s

theorem State.leads_passCheck (p : Nat) (x : Int) : s.leads (s.passCheck p x) := by
  unfold State.passCheck
  split
  next running _ =>
    have energised : s.run.mstate.contactor = true := by rw [running]; rfl
    exact State.leads_ite (fun _ => State.leads_enterStopping energised ..) fun _ =>
      State.leads_ite (fun _ => State.leads_enterStopping energised ..) fun _ => .refl s
  next => exact .refl s

/-! ### The sector table (chapter 6) and the watch unit (chapter 7) -/

theorem State.leads_takeSetSectors (m : Byte) (es : List SectorEntry) : s.leads (s.takeSetSectors m es).1 := by
  unfold State.takeSetSectors
  dsimp only
  repeat' split
  all_goals exact State.leads_setSectors _

theorem State.leads_takeSetWatch (n en : Byte) (ref hw : U16) (d c m a : Byte) (arg : U16) (rept : Byte) :
    s.leads (s.takeSetWatch n en ref hw d c m a arg rept).1 := by
  unfold State.takeSetWatch
  dsimp only
  repeat' split
  all_goals exact State.leads_setWatch _

theorem State.leads_takeSetAux (o m : Byte) : s.leads (s.takeSetAux o m).1 := by
  unfold State.takeSetAux
  dsimp only
  repeat' split
  all_goals exact State.leads_setWatch _

/-- A barrier acts in RUNNING alone (R114). -/
theorem State.leads_approachCheck (d : Direction) (q : Nat) : s.leads (s.approachCheck d q) := by
  refine State.leads_ite (fun running => ?_) fun _ => .refl s
  split
  next table c _ =>
    have acts (u : State) (here : u.run.mstate = .running) : u.leads (u.barrierAct c) := by
      have energised : u.run.mstate.contactor = true := by rw [here]; rfl
      unfold State.barrierAct
      split
      · exact State.leads_enterStopping energised ..
      · exact State.leads_enterStopping energised ..
      · exact .refl u
    exact (State.leads_setSectors _).trans (acts _ running)
  · exact .refl s

theorem State.leads_sectorSample (d : Option Direction) (q : Nat) : s.leads (s.sectorSample d q) := by
  have capped : s.leads (s.installPending.establishCap q) := State.leads_of_same (by simp) (by simp) (by simp) (by simp)
  have overrun (u : State) : u.leads (u.overrunCheck q) := State.leads_ite (fun _ => State.leads_raise ..) fun _ => .refl u
  unfold State.sectorSample
  refine State.leads.trans ?_ (State.leads_setSectors _)
  cases d with
  | none => exact capped
  | some d => exact (capped.trans (overrun _)).trans (State.leads_approachCheck d q)

theorem State.leads_watchAct (a : WatchAction) : s.leads (s.watchAct a).1 := by
  have taken (o : Option State) (h : ∀ t, o = some t → s.leads t) : s.leads (s.orRefused o).1 := by
    cases o with
    | none => exact .refl s
    | some t => exact h t rfl
  cases a with
  | notice => exact .refl s
  | auxOn n | auxOff n => exact State.leads_setWatch _
  | stop => exact taken _ fun t => State.leads_takeStop
  | reverse => exact taken _ fun t => State.leads_takeReverse
  | pace v => exact taken _ fun t => State.leads_takePace

theorem State.leads_fire (n : Nat) (c : Crossing) (d : Direction) : s.leads (s.fire n c d) :=
  ((State.leads_setWatch _).trans (State.leads_watchAct _)).trans (State.leads_queueNotice ..)

theorem State.leads_watchSample (p q : Nat) (x : Int) : s.leads (s.watchSample p q x) := by
  have test (n : Nat) (d : Direction) (u : State) (c : Crossing) : u.leads (State.testCrossing n d u c) :=
    State.leads_ite (fun _ => State.leads_fire ..) fun _ => .refl u
  exact State.leads_ite (fun _ => .refl s) fun _ =>
    State.leads_foldl (fun _ n => State.leads_foldl (test n _) _) _

/-! ### The angle unit (chapter 2) -/

theorem State.leads_handOver (o : SampleOrder) (d : Direction) (p q : Nat) (x : Int) : s.leads (s.handOver o d p q x) := by
  have run (u : State) : u.leads (u.passCheck p x) := State.leads_passCheck ..
  have sector (u : State) : u.leads (u.sectorSample (some d) q) := State.leads_sectorSample ..
  have watch (u : State) : u.leads (u.watchSample p q x) := State.leads_watchSample ..
  cases o with
  | rsw => exact ((run _).trans (sector _)).trans (watch _)
  | rws => exact ((run _).trans (watch _)).trans (sector _)
  | srw => exact ((sector _).trans (run _)).trans (watch _)
  | swr => exact ((sector _).trans (watch _)).trans (run _)
  | wrs => exact ((watch _).trans (run _)).trans (sector _)
  | wsr => exact ((watch _).trans (sector _)).trans (run _)

theorem State.leads_pivotDrift (x : Option Int) (q : Nat) : s.leads (s.pivotDrift x q) := by
  refine State.leads_ite (fun _ => ?_) fun _ => .refl s
  split
  · exact State.leads_setAngle _
  · exact State.leads_ite (fun _ => (State.leads_raise ..).trans (State.leads_setAngle _)) fun _ => .refl s

theorem State.leads_holdAngle (q : Nat) : s.leads (s.holdAngle q) :=
  State.leads_ite (fun _ => (State.leads_setAngle _).trans (State.leads_latchKind ..)) fun _ => State.leads_setAngle _

theorem State.leads_validSample (q : Nat) (o : SampleOrder) : s.leads (s.validSample q o) := by
  unfold State.validSample
  split
  · exact ((State.leads_holdAngle q).trans (State.leads_sectorSample ..)).trans (State.leads_pivotDrift ..)
  · exact ((((State.leads_holdAngle q).trans (State.leads_setPass _)).trans (State.leads_handOver ..)).trans
      (State.leads_setAngle _)).trans (State.leads_pivotDrift ..)

theorem State.leads_invalidSample : s.leads s.invalidSample :=
  State.leads_ite (fun _ => (State.leads_setAngle _).trans (State.leads_raise ..)) fun _ => State.leads_setAngle _

theorem State.leads_readCompletes (q : Nat) (e : Bool) (o : SampleOrder) : s.leads (s.readCompletes q e o) := by
  have sample (u : State) : u.leads (u.takeSample q e o) :=
    State.leads_ite (fun _ => State.leads_validSample q o) fun _ => State.leads_invalidSample
  exact State.leads_ite (fun _ => (State.leads_setAngle _).trans (sample _)) fun _ => .refl s

theorem State.leads_readTimesOut : s.leads s.readTimesOut :=
  State.leads_ite (fun _ => ((State.leads_runTo _).trans (State.leads_setAngle _)).trans State.leads_invalidSample)
    fun _ => .refl s

theorem State.leads_closeWindow (k : Nat) (w : SlipWindow) (wheel : U16) : s.leads (s.closeWindow k w wheel) := by
  have opened (v : Nat) (a : AngleUnit) :=
    (State.leads_setDyn (s := s) k fun d => if d.slipFrozen then d else { d with slip := v }).trans (State.leads_setAngle a)
  exact State.leads_ite (fun _ => (opened ..).trans (State.leads_raise ..)) fun _ => opened ..

theorem State.leads_angleExamine (k : Nat) (p : Option Report) (r : Report) : s.leads (s.angleExamine k p r).1 := by
  have slip : s.leads (s.slipExamine k r) := by
    unfold State.slipExamine
    split
    · exact State.leads_ite (fun _ => State.leads_closeWindow ..) fun _ => .refl s
    · exact State.leads_ite (fun _ => State.leads_setAngle _) fun _ => .refl s
  have stall (u : State) : u.leads (u.stallExamine k p r) := by
    unfold State.stallExamine
    split
    · exact State.leads_ite (fun _ => State.leads_setDyn ..) fun _ =>
        (State.leads_setDyn ..).trans (State.leads_latchKind ..)
    · exact State.leads_setDyn ..
  have halt (u : State) : u.leads (u.haltExamine k r).1 := by
    have counted (f : TowerDynamic → TowerDynamic) : u.leads (u.setDyn k f) := State.leads_setDyn ..
    unfold State.haltExamine
    dsimp only
    split
    · split
      · exact ((counted _).trans (State.leads_raise ..)).trans (State.leads_setDyn ..)
      · exact counted _
    · exact counted _
  exact (slip.trans (stall _)).trans (halt _)

theorem State.leads_stallExpires (k : Nat) : s.leads (s.stallExpires k) := by
  unfold State.stallExpires
  split
  · exact (State.leads_setDyn ..).trans (State.leads_raise ..)
  · exact .refl s

theorem State.leads_stallTimerExpires (k : Nat) : s.leads (s.stallTimerExpires k) := by
  unfold State.stallTimerExpires
  split
  · exact (State.leads_runTo _).trans (State.leads_stallExpires k)
  · exact .refl s

/-! ### The tower table (chapter 1) -/

theorem State.leads_changeMembers (old : Nat) : s.leads (s.changeMembers old) := by
  have changed := s.changeMembers_eq old
  refine State.leads_relists (s.changeMembers_run old) (congrArg (·.span.mode) changed) (congrArg (·.faults.modes) changed)
    (congrArg (·.store.record) changed) fun r held => ?_
  rw [congrArg (·.faults.records) changed] at held
  obtain ⟨was, mem, rfl⟩ := List.mem_map.1 held
  split
  · exact State.lists_of_held mem rfl rfl nofun
  · exact State.lists_of_held mem rfl rfl id

theorem State.leads_agreeMisses (k : Nat) : s.leads (s.agreeMisses k) := by
  unfold State.agreeMisses
  dsimp only
  refine State.leads_ite (fun _ => ?_) fun _ => State.leads_ite (fun _ => State.leads_setDyn ..) fun _ => State.leads_setDyn ..
  exact (State.leads_setDyn ..).trans (State.leads_raise ..)

theorem State.leads_fieldApplied (w : FieldWrite) : s.leads (s.fieldApplied w) := by
  unfold State.fieldApplied
  split
  · exact State.leads_of_same (by simp) (by simp) (by simp) (by simp)
  · exact State.leads_setAngle _
  · exact State.leads_setAngle _
  · split
    · exact State.leads_ite (fun _ => State.leads_stallExpires _) fun _ => .refl s
    · exact .refl s
  · exact .refl s

theorem State.leads_applyWrites (ws : List FieldWrite) : s.leads (s.applyWrites ws) := by
  have written : s.leads (s.writeFields ws) := State.leads_of_same (by simp) (by simp) (by simp) (by simp)
  have members (u : State) (old : Nat) : u.leads (if u.towerCount = old then u else u.changeMembers old) :=
    State.leads_ite (fun _ => .refl u) fun _ => State.leads_changeMembers old
  have interval (u : State) : u.leads (if writes ws (.machine .driveInterval) then u.restartInterval else u) :=
    State.leads_ite (fun _ => State.leads_of_same (by simp) (by simp) (by simp) (by simp)) fun _ => .refl u
  have limit (u : State) :
      u.leads (if writes ws (.machine .missLimit) then u.members.foldl State.agreeMisses u else u) :=
    State.leads_ite (fun _ => State.leads_foldl (fun _ k => State.leads_agreeMisses k) _) fun _ => .refl u
  exact (((written.trans (members _ _)).trans (interval _)).trans (limit _)).trans
    (State.leads_foldl (fun _ w => State.leads_fieldApplied w) ws)

theorem State.leads_setStaged (p : List FieldWrite) : s.leads { s with table := { s.table with pending := p } } :=
  State.leads_of_eq rfl

theorem State.leads_applyPending : s.leads s.applyPending := (State.leads_setStaged []).trans (State.leads_applyWrites _)

theorem State.leads_settleCompleteness : s.leads s.settleCompleteness := by
  have settles {m : MState} (released : m.contactor = false) (e : OrderEngine) :
      s.leads { s.enter m with engine := e } := (State.leads_enter_released released ..).trans (State.leads_setEngine e)
  refine State.leads_ite (fun _ => settles rfl _) fun _ => State.leads_ite (fun _ => ?_) fun _ => .refl s
  exact (settles rfl _).trans State.leads_applyPending

theorem State.leads_takeWrite (ws : List FieldWrite) (stray : Bool) (consistent : State → Bool) :
    s.leads (s.takeWrite ws stray consistent).1 := by
  have applied : s.leads (s.applyOrStage ws) := by
    refine State.leads_ite (fun _ => ?_) fun _ => State.leads_setStaged _
    exact ((State.leads_setStaged []).trans (State.leads_applyWrites _)).trans State.leads_settleCompleteness
  unfold State.takeWrite
  split
  · exact .refl s
  split
  · exact .refl s
  split
  · exact .refl s
  · exact applied

end Sys2Proof.Machine
end

section
/-! SUPPORT. The span line, the order engine, the store, the resets and the panel port as elementary moves, and then every
command (O3, O9). -/

namespace Sys2Proof.Machine

variable {s t : State}

/-! ### The span line (chapter 4) -/

theorem State.leads_judgeReport (kind : SlotKind) (d : TowerDynamic) (r : Report) (drift : Bool) :
    s.leads (s.judgeReport kind d r drift) := by
  rw [State.judgeReport_eq]
  refine State.leads_ite (fun _ => ?_) fun _ => State.leads_ite (fun _ => ?_) fun _ => .refl s
  · exact State.leads_ite (fun _ => .refl s) fun _ => State.leads_leaveQuiet
  · exact State.leads_ite (fun _ => State.leads_restartQuiet) fun _ => State.leads_leaveQuiet

theorem State.leads_takeReport (kind : SlotKind) (k : Nat) (f : ReportFrame) : s.leads (s.takeReport kind k f) := by
  have record (r : Report) : s.leads (s.setDyn k fun d => d.takeReport r) := State.leads_setDyn ..
  unfold State.takeReport
  dsimp only
  generalize hu : (if (s.tower k).dyn.link = .missing ∨ (s.tower k).dyn.link = .lost then _ else _) = u
  have linked : s.leads u := by
    subst hu
    refine State.leads_ite (fun _ => ?_) fun _ => record _
    exact ((record _).trans (State.leads_latchKind ..)).trans (State.leads_latchKind ..)
  refine (State.leads.trans ?_ State.leads_prestartTest).trans State.leads_stoppingTest
  refine (State.leads.trans ?_ (State.leads_faultExamine ..)).trans (State.leads_judgeReport ..)
  refine State.leads.trans ?_ (State.leads_angleExamine ..)
  exact State.leads_ite (fun _ => linked.trans (State.leads_raise ..)) fun _ => linked

/-- The span line rewritten but for its mode. -/
theorem State.leads_setSpan {l : SpanMaster} (mode : l.mode = s.span.mode) : s.leads { s with span := l } :=
  State.leads_of_same rfl mode rfl rfl

theorem State.leads_setPhase (sl : Slot) (ph : SlotPhase) : s.leads (s.setPhase sl ph) := State.leads_of_eq rfl

theorem State.leads_setReceiver (bytes : List Byte) : s.leads { s with span := { s.span with rx := bytes } } :=
  State.leads_of_eq rfl

theorem State.leads_spanByte (b : Byte) : s.leads (s.spanByte b) := by
  have examined (u : State) (f : ReportFrame) : u.leads (u.examineReport f) := by
    unfold State.examineReport
    split
    · exact State.leads_ite (fun _ => (State.leads_setPhase ..).trans (State.leads_takeReport ..)) fun _ => .refl u
    · exact .refl u
  refine State.leads_ite (fun _ => .refl s) fun _ => ?_
  dsimp only
  split
  · exact (State.leads_setReceiver _).trans (examined _ _)
  · exact State.leads_setReceiver _

theorem State.leads_countMiss (k : Nat) : s.leads (s.countMiss k) := by
  have counted (f : TowerDynamic → TowerDynamic) (kind : FaultKind) : s.leads ((s.setDyn k f).raise kind (some k)) :=
    (State.leads_setDyn ..).trans (State.leads_raise ..)
  unfold State.countMiss
  dsimp only
  split
  · exact .refl s
  · exact State.leads_ite (fun _ => (counted ..).trans (State.leads_raise ..)) fun _ => counted ..
  · exact State.leads_ite (fun _ => counted ..) fun _ => State.leads_setDyn ..
  · exact State.leads_setDyn ..

theorem State.leads_windowExpires : s.leads s.windowExpires := by
  unfold State.windowExpires
  split
  next sl _ =>
    refine State.leads_ite (fun _ => ?_) fun _ => .refl s
    have waiting : s.leads ((s.runTo (sl.windowAt + 10)).setPhase sl .waiting) := State.leads_of_eq rfl
    exact State.leads_ite (fun _ => waiting) fun _ =>
      (waiting.trans (State.leads_countMiss _)).trans State.leads_leaveQuiet
  next => exact .refl s

theorem State.leads_spanFrameEnds : s.leads s.spanFrameEnds := by
  unfold State.spanFrameEnds
  split
  · refine State.leads_ite (fun _ => ?_) fun _ => .refl s
    split
    all_goals exact State.leads_setPhase ..
  · exact .refl s

theorem State.leads_beginDriveRound : s.leads s.beginDriveRound :=
  State.leads_of_same (by simp) (by simp) (by simp) (by simp)

theorem State.leads_slotEnds : s.leads s.slotEnds := by
  have after (u : State) (sl : Slot) : u.leads (u.afterSlot sl) := by
    unfold State.afterSlot
    dsimp only
    split
    · exact State.leads_beginDriveRound
    · exact State.leads_ite (fun _ => State.leads_setSpan rfl) fun _ => .refl u
    · exact State.leads_ite (fun _ => State.leads_setSpan rfl) fun _ => State.leads_setSpan rfl
    · exact State.leads_ite (fun _ => State.leads_setSpan rfl) fun _ => .refl u
    · exact .refl u
  have idle (u : State) : u.leads { u with span := { u.span with slot := none } } := State.leads_of_eq rfl
  unfold State.slotEnds
  split
  · exact ((State.leads_runTo _).trans (idle _)).trans (after _ _)
  · exact .refl s

/-- QUIET is entered in STOPPED alone (R76). -/
theorem State.leads_quietExpires : s.leads s.quietExpires := by
  have enters (u : State) (allowed : u.quietAllowed = true) : u.leads u.enterQuiet := by
    have stopped : u.run.mstate = .stopped := by
      simp only [State.quietAllowed, Bool.and_eq_true, beq_iff_eq] at allowed
      exact allowed.1.1
    have quiet : u.enterQuiet.posture = { u.posture with line := .quiet } := by
      have mode : u.enterQuiet.span.mode = .quiet := by
        unfold State.enterQuiet
        dsimp only
        split
        all_goals simp [State.startSurveyTimer, State.beginRest]
      unfold State.posture
      rw [mode]
      simp
    exact State.leads_of_move (quiet ▸ .quiets u.posture stopped)
  unfold State.quietExpires
  split
  · exact State.leads_ite (fun allowed => (State.leads_runOut _).trans (enters _ allowed)) fun _ =>
      (State.leads_runOut _).trans State.leads_restartQuiet
  · exact .refl s

theorem State.leads_surveyExpires : s.leads s.surveyExpires := by
  unfold State.surveyExpires
  split
  · exact State.leads_ite (fun _ => State.leads_of_eq rfl) fun _ => State.leads_of_eq rfl
  · exact .refl s

/-! ### The order engine (chapter 3) -/

theorem State.leads_handSet (o : OrderSet) : s.leads (s.handSet o) := by
  have round (u : State) : u.leads (if u.span.mode = .active ∧ u.span.slot = none then u.beginDriveRound else u) :=
    State.leads_ite (fun _ => State.leads_beginDriveRound) fun _ => .refl u
  have held (u : State) : u.leads { u with
      engine := { u.engine with direction := o.direction }, span := { u.span with setInterval := some o.interval } } :=
    State.leads_of_eq rfl
  unfold State.handSet
  dsimp only
  refine (State.leads.trans (State.leads_foldl (fun _ _ => ?_) _) (held _)).trans (round _)
  exact State.leads_setDyn ..

theorem State.leads_intervalExpires : s.leads s.intervalExpires := by
  unfold State.intervalExpires
  split
  · refine State.leads.trans (State.leads.trans ?_ (State.leads_setEngine _)) State.leads_stoppingTest
    refine State.leads.trans ?_ (State.leads_handSet _)
    exact (((State.leads_runOut _).trans State.leads_applyPending).trans (State.leads_setEngine _)).trans
      (State.leads_setEngine _)
  · exact .refl s

/-! ### The store and the resets (chapter 10) -/

/-- The store rewritten but for its retained record's trip kind. -/
theorem State.leads_setStore {c : ConfigStore} (trip : c.record.tripKind = s.store.record.tripKind) :
    s.leads { s with store := c } := by
  refine State.leads_of_eq ?_
  unfold State.posture
  rw [trip]

theorem State.leads_takeStoreConfig (pr po : Byte) (d t : U16) : s.leads (s.takeStoreConfig pr po d t).1 := by
  unfold State.takeStoreConfig
  split
  · exact .refl s
  split
  · exact .refl s
  · exact State.leads_setStore rfl

theorem State.leads_writeCompletes (verified : Bool) : s.leads (s.writeCompletes verified) := by
  unfold State.writeCompletes
  split
  · exact State.leads_of_same (by simp) (by simp) (by simp) (by simp)
  · exact .refl s

/-- The record placed at a return of class TRIPPED is HARD of the trip kind retained, and LATCHED (R177). -/
theorem State.leads_restoreTrip {k : FaultKind} (retained : s.store.record.tripKind = some k) :
    s.leads (s.restoreTrip k) := by
  have placed (a : Nat) : s.leads { s with faults := { s.faults with
      records := s.faults.records ++ [⟨k, none, .hard, .latched, a, a, 1⟩] } } := by
    refine State.leads_relists rfl rfl rfl rfl fun r mem => ?_
    rcases List.mem_append.1 mem with old | new
    · exact State.lists_of_held old rfl rfl id
    · cases List.mem_singleton.1 new
      exact ⟨.inr ⟨rfl, retained⟩, fun _ active => by cases active⟩
  exact State.leads_ite (fun _ => placed _) fun _ => .refl s

/-- A return of power enters a state with the contactor released (R177). -/
theorem State.leads_powerReturn (announce : Bool) : s.leads (s.powerReturn announce) := by
  have enters (u : State) {m : MState} (released : m.contactor = false) :
      u.leads (u.enterWith announce m none none none) :=
    State.leads_enterWith (fun energised => absurd (released.symm.trans energised) (by decide)) ..
  unfold State.powerReturn
  dsimp only
  split
  · exact enters s rfl
  split
  · exact enters s rfl
  · have restored : s.leads (match s.run.tripKind, s.store.record.tripKind with
        | none, some k => s.restoreTrip k
        | _, _ => s) ∧ (match s.run.tripKind, s.store.record.tripKind with
        | none, some k => s.restoreTrip k
        | _, _ => s).store = s.store := by
      split
      next retained =>
        refine ⟨State.leads_restoreTrip retained, ?_⟩
        unfold State.restoreTrip
        dsimp only
        split <;> rfl
      next => exact ⟨.refl s, rfl⟩
    obtain ⟨leads, store⟩ := restored
    refine (leads.trans ?_).trans (enters _ rfl)
    refine State.leads_setTrip rfl rfl rfl fun k retained => .inr ⟨rfl, ?_⟩
    exact (congrArg (·.record.tripKind) store).trans retained
  · split
    · exact (enters s rfl).trans (State.leads_queueNotice ..)
    · exact (State.leads_setRun rfl rfl rfl rfl).trans (enters _ rfl)
  · split
    · exact (enters s rfl).trans (State.leads_queueNotice ..)
    · exact (State.leads_setRun rfl rfl rfl rfl).trans (enters _ rfl)
    · refine State.leads.trans (State.leads.trans ?_ (enters _ rfl)) (State.leads_queueNotice ..)
      exact (State.leads_setRun rfl rfl rfl rfl).trans (State.leads_setRun rfl rfl rfl rfl)

theorem State.leads_powerFails : s.leads s.powerFails :=
  State.leads_ite (fun _ => .refl s) fun _ =>
    (((State.leads_rewriteRecord _).trans State.leads_zeroOrders).trans (State.leads_setRun rfl rfl rfl rfl)).trans
      (State.leads_enter_released rfl ..)

theorem State.recoveryRefusal_none (h : s.recoveryRefusal = none) : ¬ s.blockingFault = true := by
  intro fault
  unfold State.recoveryRefusal at h
  dsimp only at h
  rw [fault] at h
  repeat' split at h
  all_goals simp_all

theorem State.leads_recoveryExpires : s.leads s.recoveryExpires := by
  unfold State.recoveryExpires
  split
  next t _ _ =>
    have idle : s.leads ((s.runOut t).setRun fun c => { c with recoveryTimer := none }) := State.leads_of_eq rfl
    dsimp only
    split
    next free =>
      refine (idle.trans (State.leads_enterPrestart (.inr ?_) _)).trans (State.leads_queueNotice ..)
      exact State.not_hardActive (State.recoveryRefusal_none free)
    · exact ((idle.trans (State.leads_setRun rfl rfl rfl rfl)).trans (State.leads_enter_released rfl ..)).trans
        (State.leads_queueNotice ..)
  next => exact .refl s

/-- STOPPED at a reset leaves the retained record as it stands. -/
theorem State.leads_stoppedAtReset : s.leads s.stoppedAtReset := by
  have posture : s.stoppedAtReset.posture = { s.posture with
      mstate := .stopped, contactor := MState.stopped.contactor, warning := MState.stopped.warning
      line := if MState.stopped = .stopped then s.span.mode else .active, retained := s.store.record.tripKind } := by
    have entered := s.enterWith_posture false .stopped none none none
    exact congrArg (fun p => { p with retained := s.store.record.tripKind }) entered
  refine State.leads_of_move (posture ▸ .enters s.posture .stopped _ (fun energised => ?_) (.inl rfl))
  cases energised

theorem State.leads_decide (contactor : s.posture.contactor = false) (warning : s.posture.warning = false)
    (line : s.posture.line = .active) : s.leads s.decide := by
  unfold State.decide
  dsimp only
  split
  · have invalid : s.leads { s with store := { s.store with record := { s.store.record with valid := false } } } :=
      State.leads_setStore rfl
    split
    · exact invalid.trans (State.leads_queueNotice ..)
    · exact invalid
  split
  · have posture : (s.setRun fun c => { c with mstate := .powerWait }).posture = { s.posture with
        mstate := .powerWait, contactor := MState.powerWait.contactor, warning := MState.powerWait.warning
        line := if MState.powerWait = .stopped then s.posture.line else .active, retained := s.posture.retained } := by
      rw [show MState.powerWait.contactor = s.run.contactor from contactor.symm,
        show MState.powerWait.warning = s.run.warning from warning.symm, if_neg (by decide), ← line]
      rfl
    refine State.leads_of_move (posture ▸ .enters s.posture .powerWait _ (fun energised => ?_) (.inl rfl))
    cases energised
  split
  · exact State.leads_powerReturn false
  · exact State.leads_stoppedAtReset

theorem State.leads_resetPart (device : Bool) : s.leads (s.resetPart device) := by
  have lost : s.leads s.loseWrite := State.leads_ite (fun _ => State.leads_setStore rfl) fun _ => .refl s
  have fresh (u : State) : u.leads u.fresh := State.leads_of_move (.resets u.posture u.store.stored.load.modes)
  have told (u : State) : (State.startTimers
      (if (u.queueNotice .machine (.restarted device)).store.stored.passes then u.queueNotice .machine (.restarted device)
      else (u.queueNotice .machine (.restarted device)).queueNotice .machine .configInvalid)).posture = u.posture := by
    have timers (v : State) : v.startTimers.posture = v.posture := rfl
    rw [timers]
    split <;> simp
  have posture := told s.loseWrite.fresh
  refine ((lost.trans (fresh _)).trans (State.leads_of_eq posture)).trans (State.leads_decide ?_ ?_ ?_)
  all_goals rw [posture]; rfl

theorem State.leads_invalidateRecord : s.leads s.invalidateRecord := State.leads_setStore rfl

theorem State.leads_deviceReset : s.leads s.deviceReset := State.leads_invalidateRecord.trans (State.leads_resetPart true)

/-! ### The panel port (chapter 9) -/

theorem State.leads_noteTaken (r : Request) : s.leads (s.noteTaken r) := by
  have line : s.leads (if s.span.mode = .active then s.restartQuiet else s.leaveQuiet) :=
    State.leads_ite (fun _ => State.leads_restartQuiet) fun _ => State.leads_leaveQuiet
  have latched := line.trans (State.leads_latchKind .panelSilent none)
  exact State.leads_ite (fun _ => latched) fun _ => latched.trans (State.leads_setPanel _)

theorem State.leads_serve (wake : Bool) (r : Request) : s.leads (s.serve wake r).1 := by
  obtain ⟨readTower, -, -, readSectors, -, -, faultList, -⟩ := State.otherRequests_core (s := s)
  cases r with
  | configMachine p vs =>
    change s.leads (s.takeConfigMachine p vs).1
    unfold State.takeConfigMachine
    exact State.leads_takeWrite ..
  | configTower k p vs =>
    change s.leads (s.takeConfigTower k p vs).1
    unfold State.takeConfigTower
    dsimp only
    split
    · exact .refl s
    · exact State.leads_takeWrite ..
  | storeConfig pr po d t => exact State.leads_takeStoreConfig ..
  | startPass d p pr sa c => exact State.leads_takeStartPass ..
  | setPace p => exact State.leads_runCheck_map fun _ => State.leads_takePace
  | stopPass => exact State.leads_runCheck_map fun _ => State.leads_takeStop
  | hold => exact State.leads_takeHold
  | resume => exact State.leads_takeResume
  | reverse => exact State.leads_runCheck_map fun _ => State.leads_takeReverse
  | tripReset => exact State.leads_takeTripReset
  | setFaultMode k m => exact State.leads_takeSetFaultMode ..
  | faultClear sel k t => exact State.leads_takeFaultClear ..
  | readTower k => exact (readTower k).symm ▸ .refl s
  | readSectors c n => exact (readSectors c n).symm ▸ .refl s
  | faultList p => exact (faultList p).symm ▸ .refl s
  | setSectors m es => exact State.leads_takeSetSectors ..
  | setWatch n en r w d c st a g rp => exact State.leads_takeSetWatch ..
  | setAux o m => exact State.leads_takeSetAux ..
  | setNoticePriority k p =>
    change s.leads (s.takeSetNoticePriority k p).1
    unfold State.takeSetNoticePriority
    repeat' split
    all_goals exact State.leads_setPanel _
  | setNoticeMask l =>
    change s.leads (s.takeSetNoticeMask l).1
    unfold State.takeSetNoticeMask
    split <;> exact State.leads_setPanel _
  | noticeFetch =>
    change s.leads s.takeNoticeFetch.1
    unfold State.takeNoticeFetch
    dsimp only
    split <;> exact State.leads_setPanel _
  | setWakeFilter n u k sub p =>
    change s.leads (s.takeSetWakeFilter n u k sub p).1
    unfold State.takeSetWakeFilter
    dsimp only
    repeat' split
    all_goals exact State.leads_setPanel _
  | panelSleep => exact State.leads_setPanel _
  | readMachine | readWatches | resetDevice | panelAwake | readPort | unknown | badLength => exact .refl s

theorem State.leads_take (f : PanelFrame) : s.leads (s.take f) :=
  ((State.leads_noteTaken (parseRequest f)).trans (State.leads_serve s.panel.wakeLine (parseRequest f))).trans
    (State.leads_setPanel _)

theorem State.leads_arrive (f : PanelFrame) : s.leads (s.arrive f) :=
  State.leads_ite (fun _ => State.leads_setPanel _) fun _ =>
    State.leads_ite (fun _ => State.leads_take f) fun _ => State.leads_setPanel _

theorem State.leads_transmit : s.leads s.transmit := State.leads_of_eq (by simp)

theorem State.leads_panelByte (b : Byte) : s.leads (s.panelByte b) := by
  unfold State.panelByte
  dsimp only
  split
  · exact ((State.leads_setPanel _).trans (State.leads_arrive _)).trans State.leads_transmit
  · exact State.leads_setPanel _

theorem State.leads_replyEnds : s.leads s.replyEnds := by
  have next (u : State) : u.leads u.takeNext := by
    unfold State.takeNext
    split
    · exact (State.leads_setPanel _).trans (State.leads_take _)
    · exact .refl u
  unfold State.replyEnds
  split
  · exact State.leads_ite (fun _ => State.leads_deviceReset) fun _ => (State.leads_setPanel _).trans (next _)
  · exact .refl s

theorem State.leads_noticeEnds : s.leads s.noticeEnds := by
  unfold State.noticeEnds
  split
  · exact State.leads_setPanel _
  · exact .refl s

theorem State.leads_silenceExpires : s.leads s.silenceExpires := by
  unfold State.silenceExpires
  split
  · exact ((State.leads_runOut _).trans (State.leads_setPanel _)).trans (State.leads_raise ..)
  · exact .refl s

/-! ### Every command -/

theorem event_leads {f : State → State} (moves : s.leads (f s)) (h : event f s = .next t) : s.leads t := by
  cases h
  exact State.leads_ite (fun _ => moves.trans State.leads_transmit) fun _ => .refl s

/-- An input that takes a level before its event follows. -/
theorem event_leads_inputs {f : State → State} {i : Inputs} (moves : ∀ u : State, u.leads (f u))
    (h : event f { s with inputs := i } = .next t) : s.leads t :=
  (State.leads_of_eq (s := s) (t := { s with inputs := i }) rfl).trans (event_leads (moves _) h)

/-- What every command can do to a posture. -/
theorem exec_leads (c : Instr) (h : exec c s = .next t) : s.leads t := by
  cases frame : c.frame with
  | some f =>
    rw [exec_of_frame frame] at h
    exact event_leads (State.leads_ite (fun _ => (State.leads_setPanel _).trans (State.leads_arrive f)) fun _ => .refl s) h
  | none =>
    cases c with
    | panelFrameComplete bytes =>
      exact event_leads (f := fun s => bytes.foldl State.panelByte s)
        (State.leads_foldl (fun _ b => State.leads_panelByte b) bytes) h
    | panelFrameGap b =>
      exact event_leads (f := fun s => ({ s with panel := { s.panel with rx := [] } } : State).panelByte b)
        ((State.leads_setPanel _).trans (State.leads_panelByte b)) h
    | panelFrameLengthAbove120 b =>
      exact event_leads (State.leads_ite (fun _ => State.leads_panelByte b) fun _ => .refl s) h
    | replySent => exact event_leads State.leads_replyEnds h
    | noticeFrameSent => exact event_leads State.leads_noticeEnds h
    | panelSilenceExpiry => exact event_leads State.leads_silenceExpires h
    | driveIntervalExpiry => exact event_leads State.leads_intervalExpires h
    | slotEnd => exact event_leads State.leads_slotEnds h
    | spanFrameSent => exact event_leads State.leads_spanFrameEnds h
    | quietTimerExpiry => exact event_leads State.leads_quietExpires h
    | surveyTimerExpiry => exact event_leads State.leads_surveyExpires h
    | replyWindowExpiry => exact event_leads State.leads_windowExpires h
    | reportReceived bytes =>
      exact event_leads (f := fun s => bytes.foldl State.spanByte s)
        (State.leads_foldl (fun _ b => State.leads_spanByte b) bytes) h
    | spanFrameGap b =>
      exact event_leads (f := fun s => ({ s with span := { s.span with rx := [] } } : State).spanByte b)
        ((State.leads_setReceiver []).trans (State.leads_spanByte b)) h
    | spanFrameKindNotReport b =>
      exact event_leads (State.leads_ite (fun _ => State.leads_spanByte b) fun _ => .refl s) h
    | stallTimerExpiry k => exact event_leads (State.leads_stallTimerExpires k) h
    | sampleTimerExpiry => exact event_leads (State.leads_of_eq rfl) h
    | encoderReadComplete q e o => exact event_leads (State.leads_readCompletes q e o) h
    | encoderReadTimeout => exact event_leads State.leads_readTimesOut h
    | prestartTimerExpiry => exact event_leads State.leads_prestartExpires h
    | startFailTimerExpiry => exact event_leads State.leads_startFails h
    | stopTimerExpiry => exact event_leads State.leads_stopTimesOut h
    | recoveryTimerExpiry => exact event_leads State.leads_recoveryExpires h
    | chainSenseChange closed =>
      change execChainSenseChange closed s = _ at h
      unfold execChainSenseChange at h
      split at h
      · cases h; exact .refl s
      · exact event_leads_inputs (fun _ => State.leads_chainChanged) h
    | powerFailAssert =>
      change execPowerFailAssert s = _ at h
      unfold execPowerFailAssert at h
      split at h
      · cases h; exact .refl s
      · exact event_leads_inputs (fun _ => State.leads_powerFails) h
    | powerFailDeassert =>
      change execPowerFailDeassert s = _ at h
      unfold execPowerFailDeassert at h
      split at h
      · exact event_leads_inputs (fun _ => State.leads_ite (fun _ => State.leads_powerReturn true) fun _ => .refl _) h
      · cases h; exact .refl s
    | powerOnReset check =>
      cases h
      refine State.leads.trans (State.leads.trans ?_ (State.leads_resetPart false)) State.leads_transmit
      exact State.leads_ite (fun _ => .refl s) fun _ => State.leads_invalidateRecord
    | deviceReset => exact event_leads (f := State.deviceReset) State.leads_deviceReset h
    | supplyLoss =>
      cases h
      exact State.leads_of_same (by simp) (by simp) (by simp) (by unfold State.loseWrite; split <;> rfl)
    | storeWriteComplete verified => exact event_leads (State.leads_writeCompletes verified) h
    | _ => cases frame

/-- Every step is a row of elementary moves. -/
theorem step_leads (h : step s = .next t) : s.leads t := by
  unfold step at h
  split at h
  next c commands _ =>
    have popped : s.leads { s with pending := commands } := State.leads_of_eq rfl
    exact popped.trans (exec_leads c h)
  next =>
    cases h
    exact State.leads_ite (fun _ => State.leads_of_eq rfl) fun _ => .refl s

/-- Settles O3: a step is a row of elementary moves (`step_leads`), and each of those keeps both laws. A machine state is
entered with its outputs, and the line is in QUIET only after a move made in STOPPED, which every other entry ends. -/
theorem outputsAndQuietFollowTheMachineState : Obligations.OutputsAndQuietFollowTheMachineState :=
  ⟨fun _ _ follow h => (step_leads h).keeps (law := Posture.outputsFollow) Posture.Move.outputsFollow follow,
    fun _ _ quiet h => (step_leads h).keeps (law := Posture.quietOnlyStopped) Posture.Move.quietOnlyStopped quiet⟩

/-- Settles O9: a step is a row of elementary moves (`step_leads`). An energised state is entered from another or with no HARD
record ACTIVE, and a HARD raising in one trips the machine; a record takes the mode table's mode for its kind, or another
record's of that kind, or HARD for a kind that tripped the machine. -/
theorem faultRecordsKeepTheMachineSafe : Obligations.FaultRecordsKeepTheMachineSafe := by
  refine ⟨fun s t stopped h => ?_, fun s t agree h => ?_⟩
  · exact State.hardStopped_iff.2
      ((step_leads h).keeps (law := Posture.hardStopped) Posture.Move.hardStopped (State.hardStopped_iff.1 stopped))
  · exact State.modesAgree_iff.2
      ((step_leads h).keeps (law := Posture.modesAgree) Posture.Move.modesAgree (State.modesAgree_iff.1 agree))

end Sys2Proof.Machine
end

section
/-! SUPPORT. A change of machine state on an ACTIVE line, as one state written out and the STATE notice (R83, R84): what hangs
on the change, piece by piece, and the order in which notices are queued. -/

namespace Sys2Proof.Machine

variable {s : State}

/-! ### What hangs on a change of machine state (R31, R36, R75, R115, R131, R175) -/

/-- The angle unit of a part that has entered a machine state (R31, R36). -/
def AngleUnit.entering (a : AngleUnit) (m : MState) : AngleUnit :=
  { a with
    windows := if m.moving then a.windows else Vector.replicate 16 none
    overLimit := if m.moving then a.overLimit else Vector.replicate 16 0
    haltAngle := if (m = .stopped ∨ m = .held) ∧ a.heldValid then some a.held else none }

/-- The watch unit of a part whose machine state has changed (R131). -/
def WatchUnit.leaving (w : WatchUnit) (was m : MState) : WatchUnit :=
  if was.moving && !m.moving then { w with aux := w.aux.map fun a => { a with level := false } } else w

/-- A part on an ACTIVE line that has entered a machine state, but for the STATE notice. -/
def State.entered (s : State) (m : MState) (dest : Option Destination) (reason : Option PassEnd) (origin : Option Origin) :
    State :=
  { s with
    run := { s.run with
      mstate := m, dest := dest, reason := reason, origin := origin, contactor := m.contactor, warning := m.warning }
    span := if m = .stopped then { s.span with quietTimer := some ⟨s.mval .quietDelay * 1000, s.clock⟩ } else s.span
    angle := s.angle.entering m
    watch := s.watch.leaving s.run.mstate m
    sectors := if m = .running then { s.sectors with installed := s.sectors.installed.map Sector.rearm } else s.sectors
    store := { s.store with
      record := ⟨true, lossClass m dest, s.run.pass, if m = .tripped then s.run.tripKind else none, none⟩ } }

/-- The machine states whose entry neither keeps a captured angle nor stops the quiet timer (R17, R175). -/
abbrev MState.plain (m : MState) : Prop := m ≠ .unconfigured ∧ m ≠ .powerWait ∧ m ≠ .recovering

theorem State.recordFollows_eq (plain : s.run.mstate.plain) : s.recordFollows = s.rewriteRecord none := by
  obtain ⟨-, wait, recovering⟩ := plain
  unfold State.recordFollows
  rw [if_neg wait, if_neg recovering]

theorem State.lineFollows_eq (active : s.span.mode = .active) (plain : s.run.mstate.plain) : s.lineFollows = { s with
    span := if s.run.mstate = .stopped then { s.span with quietTimer := some ⟨s.mval .quietDelay * 1000, s.clock⟩ }
      else s.span } := by
  unfold State.lineFollows
  split
  · exact State.restartQuiet_runs active plain.1
  · rw [if_neg plain.1, State.leaveQuiet_active active]

theorem State.angleFollows_eq (s : State) : s.angleFollows = { s with angle := s.angle.entering s.run.mstate } := by
  unfold State.angleFollows AngleUnit.entering
  dsimp only
  split <;> rfl

theorem State.levelsFollow_eq (s : State) (was : MState) :
    s.levelsFollow was = { s with watch := s.watch.leaving was s.run.mstate } := by
  unfold State.levelsFollow WatchUnit.leaving
  split <;> rfl

theorem State.marksFollow_eq (s : State) : s.marksFollow = { s with
    sectors := if s.run.mstate = .running then { s.sectors with installed := s.sectors.installed.map Sector.rearm }
      else s.sectors } := by
  unfold State.marksFollow
  split <;> rfl

/-- A change of machine state: the state entered, and its STATE notice. -/
theorem State.enter_eq (active : s.span.mode = .active) {m : MState} (plain : m.plain) (dest : Option Destination)
    (reason : Option PassEnd) (origin : Option Origin) :
    s.enter m dest reason origin = (s.entered m dest reason origin).queueNotice .machine (.state m dest) := by
  have queued : (s.setMachine m dest reason origin).queueNotice .machine (.state m dest) =
      { s.setMachine m dest reason origin with panel := (s.queueNotice .machine (.state m dest)).panel } :=
    State.queueNotice_of_panel (s.setMachine_panel ..) ..
  unfold State.enter State.enterWith
  dsimp only
  rw [if_pos rfl, queued, State.recordFollows_eq (by exact plain), State.lineFollows_eq (by exact active) (by exact plain),
    State.angleFollows_eq, State.levelsFollow_eq, State.marksFollow_eq,
    State.queueNotice_of_panel (s := s) (t := s.entered ..) rfl]
  rfl

/-- A notice queued before a change of machine state stands before its STATE notice (assumption log 14). -/
theorem State.queueNotice_entered (s : State) (subject : Subject) (data : NoticeData) (m : MState)
    (dest : Option Destination) (reason : Option PassEnd) (origin : Option Origin) :
    (s.queueNotice subject data).entered m dest reason origin = (s.entered m dest reason origin).queueNotice subject data := by
  rw [State.queueNotice_of_panel (s := s) (t := s.entered ..) rfl, State.queueNotice_frame]
  rfl

theorem State.queueNotice_rewriteRecord (s : State) (subject : Subject) (data : NoticeData) (c : Option (Nat × Bool)) :
    (s.queueNotice subject data).rewriteRecord c = (s.rewriteRecord c).queueNotice subject data := by
  rw [State.queueNotice_of_panel (s := s) (t := s.rewriteRecord c) rfl, State.queueNotice_frame]
  rfl

/-- The end of a pass with a change of machine state: PASS_END is queued first. -/
theorem State.endPass_enter (active : s.span.mode = .active) {m : MState} (plain : m.plain) (r : PassEnd) :
    (s.endPass r).enter m = (((s.setRun fun c => { c with pass := none }).entered m none none none).queueNotice .machine
      (.passEnd r)).queueNotice .machine (.state m none) := by
  unfold State.endPass
  rw [State.enter_eq (by simpa using active) plain, State.queueNotice_entered]

/-! ### Entries with their timers (R89, R95) -/

/-- PRESTART entered: its two timers run from the entry. -/
theorem State.enterPrestart_eq (active : s.span.mode = .active) (origin : Origin) : s.enterPrestart origin =
    (((s.setRun fun c => { c with
      prestartTimer := if s.mval .prestartTime * 1000 = 0 then none else some ⟨s.mval .prestartTime * 1000, s.clock⟩
      startFailTimer := some ⟨s.mval .prestartTime * 1000 + s.mval .stopTimeout * 1000, s.clock⟩ }).entered .prestart none
        none (some origin)).queueNotice .machine (.state .prestart none)).prestartTest := by
  unfold State.enterPrestart
  dsimp only
  rw [State.enter_eq (by exact active) (by decide)]
  rfl

/-- STOPPING entered: the stop timer runs from the entry. -/
theorem State.enterStopping_eq (active : s.span.mode = .active) (dest : Destination) (reason : Option PassEnd) :
    s.enterStopping dest reason = (((s.setRun fun c => { c with
      prestartTimer := none, startFailTimer := none
      stopTimer := some ⟨s.mval .stopTimeout * 1000, s.clock⟩ }).entered .stopping (some dest) reason none).queueNotice
        .machine (.state .stopping (some dest))).stoppingTest := by
  unfold State.enterStopping
  dsimp only
  rw [State.enter_eq (by exact active) (by decide)]
  rfl

/-- A change of the STOPPING destination is captured and reported (R84, R97). -/
theorem State.redirect_eq (s : State) (dest : Destination) (reason : Option PassEnd) (stopping : s.run.mstate = .stopping) :
    s.redirect dest reason = ({ s with
      run := { s.run with dest := some dest, reason := reason }
      store := { s.store with record := ⟨true, lossClass .stopping (some dest), s.run.pass, none, none⟩ } } : State).queueNotice
        .machine (.state .stopping (some dest)) := by
  unfold State.redirect
  dsimp only
  rw [State.queueNotice_rewriteRecord, stopping]
  rfl

end Sys2Proof.Machine
end

section
/-! SUPPORT. PRESTART and STOPPING completed (R89, R96), hold and trip requests (R101, R104), and the timers of the run
controller (R90, R98). -/

namespace Sys2Proof.Machine

variable {s t : State}

/-! ### Pieces of a state entered -/

/-- The watch levels stand unless the machine ceases to move (R131). -/
theorem WatchUnit.leaving_of_not (w : WatchUnit) {was m : MState} (h : ¬ (was.moving = true ∧ m.moving = false)) :
    w.leaving was m = w := by
  unfold WatchUnit.leaving
  exact if_neg fun both => h (by simpa using both)

theorem WatchUnit.leaving_of (w : WatchUnit) {was m : MState} (moved : was.moving = true) (still : m.moving = false) :
    w.leaving was m = { w with aux := w.aux.map fun a => { a with level := false } } := by
  unfold WatchUnit.leaving
  rw [moved, still]
  rfl

/-- The pivot halt angle is recorded at the entries to STOPPED and HELD (R36). -/
theorem AngleUnit.entering_of_halt (a : AngleUnit) {m : MState} (halt : m = .stopped ∨ m = .held) : a.entering m = { a with
    windows := Vector.replicate 16 none, overLimit := Vector.replicate 16 0
    haltAngle := if a.heldValid then some a.held else none } := by
  unfold AngleUnit.entering
  simp only [halt, true_and]
  rcases halt with rfl | rfl <;> rfl

/-- The span line with a DRIVE frame of a non-zero order cut short (R63). -/
def SpanMaster.cut (l : SpanMaster) : SpanMaster :=
  { l with slot := l.slot.map fun sl =>
      if sl.kind = .drive ∧ sl.phase = .sending ∧ 0 < sl.order then { sl with phase := .waiting } else sl }

theorem State.cutFrame_eq (s : State) : s.cutFrame = { s with span := s.span.cut } := by
  unfold State.cutFrame SpanMaster.cut
  cases slot : s.span.slot with
  | none => exact congrArg (fun slot => ({ s with span := { s.span with slot := slot } } : State)) slot
  | some sl =>
    dsimp only [Option.map_some]
    split
    · rfl
    · exact congrArg (fun slot => ({ s with span := { s.span with slot := slot } } : State)) slot

/-- Every tower 1..N is ONLINE and READY. -/
theorem State.allReady_iff (s : State) : s.allReady = true ↔
    ∀ k, 1 ≤ k → k ≤ s.towerCount → (s.tower k).dyn.link = .online ∧ (s.tower k).dyn.status = .ready := by
  simp [State.allReady, State.mem_members]

theorem TowerDynamic.halted_iff (d : TowerDynamic) : d.halted = true ↔ match d.report with
    | some r => r.executing = 0 ∧ r.driveState = .stopped
    | none => d.link = .absent := by
  unfold TowerDynamic.halted
  cases d.report <;> simp

/-- Every tower 1..N is ordered 0 and halted. -/
theorem State.atRest_iff (s : State) : s.atRest = true ↔ ∀ k, 1 ≤ k → k ≤ s.towerCount →
    (s.tower k).dyn.lastOrder = 0 ∧ match (s.tower k).dyn.report with
      | some r => r.executing = 0 ∧ r.driveState = .stopped
      | none => (s.tower k).dyn.link = .absent := by
  unfold State.atRest
  simp only [List.all_eq_true, State.mem_members, Bool.and_eq_true, beq_iff_eq, TowerDynamic.halted_iff, and_imp]

/-! ### PRESTART (R89, R90) -/

theorem State.prestartTest_completes (active : s.span.mode = .active) (prestart : s.run.mstate = .prestart)
    (expired : s.run.prestartTimer = none) (ready : s.allReady = true) : s.prestartTest =
      ((s.setRun fun c => { c with startFailTimer := none }).entered .running none none none).queueNotice .machine
        (.state .running none) := by
  unfold State.prestartTest
  rw [if_pos ⟨prestart, expired, ready⟩, State.enter_eq (by exact active) (by decide)]

theorem State.prestartTest_stays (h : ¬ (s.run.mstate = .prestart ∧ s.run.prestartTimer = none ∧ s.allReady = true)) :
    s.prestartTest = s := if_neg h

/-- The start fails into STOPPED or HELD (R90). -/
theorem State.startFails_eq (active : s.span.mode = .active) (prestart : s.run.mstate = .prestart) {timer : Timer}
    (running : s.run.startFailTimer = some timer) :
    let fresh := s.run.origin = some .new
    let m : MState := if fresh then .stopped else .held
    s.startFails = ((((s.runOut timer).setRun fun c => { c with
      prestartTimer := none, startFailTimer := none, pass := if fresh then none else c.pass }).entered m none none
        none).queueNotice .machine (.state m none)).queueNotice .machine (.startFailed m) := by
  have plain : (if s.run.origin = some .new then MState.stopped else .held).plain := by split <;> decide
  unfold State.startFails
  rw [prestart, running]
  dsimp only
  rw [State.enter_eq (by exact active) plain]

/-- Settles O30: the test of PRESTART is an entry to RUNNING or nothing, and each timer's expiry is told by its timer. -/
theorem prestartCompletesOrFails : Obligations.PrestartCompletesOrFails := by
  refine ⟨fun s active => ⟨?_, fun undone => ?_⟩, fun s timer powered prestart active => ⟨fun running => ?_, fun running => ?_⟩⟩
  · rintro ⟨prestart, expired, ready⟩
    rw [State.prestartTest_completes active prestart expired (s.allReady_iff.2 ready)]
    refine congrArg (State.queueNotice · _ _) ?_
    unfold State.entered
    rw [WatchUnit.leaving_of_not _ (by simp [MState.moving])]
    rfl
  · exact State.prestartTest_stays (by rwa [State.allReady_iff])
  · change event State.prestartExpires s = _
    rw [event, if_pos powered]
    unfold State.prestartExpires
    rw [prestart, running]
    rfl
  · change event State.startFails s = _
    rw [event, if_pos powered, State.startFails_eq active prestart running]
    refine congrArg (fun u : State => Host.Outcome.next (State.transmit (State.queueNotice (State.queueNotice u _ _) _ _))) ?_
    unfold State.entered
    rw [WatchUnit.leaving_of_not _ (by
      change ¬ (s.run.mstate.moving = true ∧ _)
      rw [prestart]
      simp [MState.moving])]
    by_cases fresh : s.run.origin = some .new
    · simp only [if_pos fresh]
      rw [AngleUnit.entering_of_halt _ (.inl rfl)]
      rfl
    · simp only [if_neg fresh]
      rw [AngleUnit.entering_of_halt _ (.inr rfl)]
      rfl

end Sys2Proof.Machine
end

section
/-! SUPPORT. STOPPING completed or timed out (R96, R98), and what a hold and a trip do in each machine state (R101, R104). -/

namespace Sys2Proof.Machine

variable {s t : State}

/-! ### Towers whose dynamic fields are rewritten together -/

/-- Each tower named is rewritten once, however often it is named, and the others stand. -/
theorem State.setDyns_tower {f : TowerDynamic → TowerDynamic} (again : ∀ d, f (f d) = f d) (reset : f .reset = .reset)
    (ks : List Nat) (j : Nat) :
    (s.setDyns ks f).tower j = if j ∈ ks then ⟨(s.tower j).cfg, f (s.tower j).dyn⟩ else s.tower j := by
  have absent (real : ¬ (1 ≤ j ∧ j ≤ 16)) (u : State) : (⟨(u.tower j).cfg, f (u.tower j).dyn⟩ : TowerRecord) = u.tower j := by
    rw [u.tower_of_not_mem real, reset]
  unfold State.setDyns
  induction ks generalizing s with
  | nil => simp
  | cons k ks ih =>
    rw [List.foldl_cons, ih]
    by_cases same : j = k
    · subst same
      by_cases real : 1 ≤ j ∧ j ≤ 16
      · simp [s.setDyn_tower_self real.1 real.2, again]
      · have stands : (s.setDyn j f).tower j = s.tower j := by
          rw [State.tower_of_not_mem _ real, State.tower_of_not_mem _ real]
        simp [stands, absent real]
    · simp [s.setDyn_tower_of_ne same, same]

/-- A tower that takes order 0 at a trip or a power-fail assertion (R7, R32). -/
def TowerDynamic.ordersZero (d : TowerDynamic) : TowerDynamic := { d with lastOrder := 0, stall := .idle }

theorem State.zeroOrders_eq (s : State) :
    s.zeroOrders = { s with table := s.zeroOrders.table, span := s.span.cut } := by
  have span : s.zeroOrders.span = s.span.cut := by
    refine (congrArg State.span (State.cutFrame_eq _)).trans ?_
    exact congrArg SpanMaster.cut (s.setDyns_span ..)
  refine s.zeroOrders_frame.trans ?_
  rw [span]

/-- Every order of towers 1..N becomes 0 and their stall timers idle; the other towers stand. -/
theorem State.zeroOrders_tower (s : State) (j : Nat) : s.zeroOrders.tower j =
    if j ∈ s.members then ⟨(s.tower j).cfg, (s.tower j).dyn.ordersZero⟩ else s.tower j := by
  have table : s.zeroOrders.table = (s.setDyns s.members TowerDynamic.ordersZero).table := State.cutFrame_table _
  rw [State.tower_of_table table]
  exact State.setDyns_tower (f := TowerDynamic.ordersZero) (fun _ => rfl) rfl _ j

/-! ### STOPPING (R96) -/

/-- The part at the completion of STOPPING: its stop timer stops, and a frame of a non-zero order is cut short. -/
def State.comeToRest (s : State) : State :=
  { s with run := { s.run with stopTimer := none }, span := s.span.cut }

theorem State.stoppingTest_stays (h : ¬ (s.run.mstate = .stopping ∧ s.atRest = true)) : s.stoppingTest = s := if_neg h

theorem State.stoppingTest_completes (stopping : s.run.mstate = .stopping) (rest : s.atRest = true) :
    s.stoppingTest = match s.run.dest with
      | some .stopped => (s.comeToRest.endPass (s.run.reason.getD .panel)).enter .stopped
      | some .held => s.comeToRest.enter .held
      | some .reversing => (s.comeToRest.setPass fun p => { p with direction := p.direction.flip }).enterPrestart .reversal
      | none => s := by
  unfold State.stoppingTest
  rw [if_pos ⟨stopping, rest⟩]
  dsimp only
  rw [State.cutFrame_eq]
  rfl

/-- The entry at rest to STOPPED or HELD: what the statement of R96 writes out. -/
theorem State.comeToRest_entered (stopping : s.run.mstate = .stopping) {m : MState} (halt : m = .stopped ∨ m = .held)
    (pass : Option Pass) : ({ s.comeToRest with run := { s.comeToRest.run with pass := pass } } : State).entered m none none
      none = { s with
        run := { s.run with
          mstate := m, dest := none, reason := none, origin := none, pass := pass, stopTimer := none
          contactor := false, warning := false }
        span := if m = .stopped then { s.span.cut with quietTimer := some ⟨s.mval .quietDelay * 1000, s.clock⟩ }
          else s.span.cut
        angle := { s.angle with
          windows := Vector.replicate 16 none, overLimit := Vector.replicate 16 0
          haltAngle := if s.angle.heldValid then some s.angle.held else none }
        watch := { s.watch with aux := s.watch.aux.map fun a => { a with level := false } }
        store := { s.store with record := ⟨true, if m = .held then .held else .other, pass, none, none⟩ } } := by
  unfold State.entered
  rw [AngleUnit.entering_of_halt _ halt, WatchUnit.leaving_of]
  · rcases halt with rfl | rfl <;> rfl
  · change s.run.mstate.moving = true
    rw [stopping]
    rfl
  · rcases halt with rfl | rfl <;> rfl

/-! ### A trip (R104) -/

/-- A trip in an energised state on an ACTIVE line. -/
theorem State.tripRequest_eq (active : s.span.mode = .active) (energised : s.run.mstate.contactor = true) (k : FaultKind) :
    s.tripRequest k = ((({ s with
      table := s.zeroOrders.table
      run := { s.run with
        mstate := .tripped, dest := none, reason := none, origin := none, pass := none, tripKind := some k
        prestartTimer := none, startFailTimer := none, stopTimer := none, recoveryTimer := none
        contactor := false, warning := false }
      span := s.span.cut
      angle := { s.angle with
        windows := Vector.replicate 16 none, overLimit := Vector.replicate 16 0, haltAngle := none }
      watch := s.watch.leaving s.run.mstate .tripped
      store := { s.store with record := ⟨true, .tripped, none, some k, none⟩ } } : State)).queueNotice .machine
        (.passEnd .faultTrip)).queueNotice .machine (.state .tripped none) := by
  unfold State.tripRequest
  rw [if_pos energised]
  dsimp only
  rw [State.endPass_enter (by simpa using active) (by decide), s.zeroOrders_eq]
  rfl

theorem State.tripRequest_stays (released : s.run.mstate.contactor = false) (k : FaultKind) : s.tripRequest k = s :=
  if_neg (by rw [released]; decide)

/-- The three energised states. -/
theorem MState.contactor_iff (m : MState) : m.contactor = true ↔ m ∈ [.prestart, .running, .stopping] := by
  cases m <;> decide

/-! ### STOP_TIMEOUT (R98) -/

/-- A change of machine state on any line: but for the line and the notices, the state entered. -/
theorem State.enter_but_line (s : State) {m : MState} (plain : m.plain) (dest : Option Destination)
    (reason : Option PassEnd) (origin : Option Origin) : ∃ span panel, s.enter m dest reason origin =
      { s.entered m dest reason origin with span := span, panel := panel } := by
  have queued : (s.setMachine m dest reason origin).queueNotice .machine (.state m dest) =
      { s.setMachine m dest reason origin with panel := (s.queueNotice .machine (.state m dest)).panel } :=
    State.queueNotice_of_panel (s.setMachine_panel ..) ..
  have line (u : State) : ∃ l p, u.lineFollows = { u with span := l, panel := p } := ⟨_, _, u.lineFollows_frame⟩
  obtain ⟨l, p, follows⟩ := line (State.rewriteRecord { s.setMachine m dest reason origin with
    panel := (s.queueNotice .machine (.state m dest)).panel } none)
  refine ⟨l, p, ?_⟩
  unfold State.enter State.enterWith
  dsimp only
  rw [if_pos rfl, queued, State.recordFollows_eq (by exact plain), follows, State.angleFollows_eq, State.levelsFollow_eq,
    State.marksFollow_eq]
  rfl

/-- A trip in STOPPING, on any line. -/
theorem State.tripRequest_stopping (stopping : s.run.mstate = .stopping) (k : FaultKind) :
    ∃ span panel watch, watch.entries = s.watch.entries ∧ s.tripRequest k = { s with
      table := s.zeroOrders.table
      run := { s.run with
        mstate := .tripped, dest := none, reason := none, origin := none, pass := none, tripKind := some k
        prestartTimer := none, startFailTimer := none, stopTimer := none, recoveryTimer := none
        contactor := false, warning := false }
      span := span, panel := panel, watch := watch
      angle := { s.angle with
        windows := Vector.replicate 16 none, overLimit := Vector.replicate 16 0, haltAngle := none }
      store := { s.store with record := ⟨true, .tripped, none, some k, none⟩ } } := by
  have energised : s.run.mstate.contactor = true := by rw [stopping]; rfl
  have trip : s.tripRequest k = ((s.zeroOrders.setRun fun c => { c with
      prestartTimer := none, startFailTimer := none, stopTimer := none, recoveryTimer := none
      tripKind := some k }).endPass .faultTrip).enter .tripped := if_pos energised
  obtain ⟨l, p, entered⟩ := State.enter_but_line _ (m := .tripped) (by decide) none none none
  refine ⟨l, p, s.watch.leaving s.run.mstate .tripped, ?_, (trip.trans entered).trans ?_⟩
  · unfold WatchUnit.leaving
    split <;> rfl
  · rw [State.endPass, State.queueNotice_entered, State.queueNotice_frame, s.zeroOrders_eq]
    rfl

end Sys2Proof.Machine
end

section
/-! SUPPORT. A STOP_TIMEOUT raised in STOPPING (R98, R136, R139); then the completion of STOPPING, and hold and trip requests
by machine state (O31, O33). -/

namespace Sys2Proof.Machine

variable {s t : State}

/-! ### STOP_TIMEOUT (R98) -/

/-- A raising is of the mode that the table gives its kind, where the records agree with it (R134). -/
theorem State.recordRaising_mode (agree : s.modesAgree) (k : FaultKind) (t : Option Nat) :
    (s.recordRaising k t).2.mode = s.faults.modes.mode k :=
  (State.modesAgree_iff.1 agree).mode_of_admits (.inl (s.recordRaising_listed k t).1)

/-- A list with room holds the record of a raising, LATCHED for a kind whose cause clears at once (R136, R140). -/
theorem State.recordRaising_held (agree : s.modesAgree) {k : FaultKind} (latches : k.latchesAtOnce = true) (t : Option Nat)
    (room : s.faults.records.length < 32) : ∃ r ∈ (s.recordRaising k t).1.faults.records,
      r.kind = k ∧ r.tower = t ∧ r.mode = s.faults.modes.mode k ∧ r.condition = .latched := by
  unfold State.recordRaising
  dsimp only
  split
  next q found =>
    have key : q.kind = k ∧ q.tower = t := by simpa using List.find?_some found
    have member := List.mem_of_find?_eq_some found
    refine ⟨_, List.mem_map.2 ⟨q, member, if_pos (by simp [key])⟩, key.1, key.2, ?_, if_pos latches⟩
    exact key.1 ▸ agree.1 q member
  next =>
    rw [if_pos room]
    exact ⟨_, List.mem_append_right _ (.head _), rfl, rfl, rfl, if_pos latches⟩

/-- A raising that is HARD: its record, its FAULT notice and the trip. -/
theorem State.raise_hard {k : FaultKind} {t : Option Nat} (hard : (s.recordRaising k t).2.mode = .hard) :
    let r := (s.recordRaising k t).2
    s.raise k t = (((s.recordRaising k t).1.freezeSlip k t r).queueNotice (faultSubject t)
      (.fault k r.mode r.count r.outcome r.displaced)).tripRequest k := by
  unfold State.raise State.actOnRaising
  dsimp only
  rw [hard]

/-- STOP_TIMEOUT in STOPPING trips the machine: what it leaves of the part. -/
theorem State.stopTimeout_trips (stopping : s.run.mstate = .stopping) (agree : s.modesAgree) :
    let t := s.raise .stopTimeout none
    t.clock = s.clock ∧
      t.run = { s.run with
        mstate := .tripped, dest := none, reason := none, origin := none, pass := none, tripKind := some .stopTimeout
        prestartTimer := none, startFailTimer := none, stopTimer := none, recoveryTimer := none
        contactor := false, warning := false } ∧
      (∀ k ∈ s.members, (t.tower k).dyn.lastOrder = 0 ∧ (t.tower k).dyn.stall = .idle) ∧
      (s.faults.records.length < 32 →
        ∃ r ∈ t.faults.records, r.kind = .stopTimeout ∧ r.tower = none ∧ r.mode = .hard ∧ r.condition = .latched) ∧
      t.engine = s.engine ∧ t.sectors = s.sectors ∧ t.inputs = s.inputs ∧ t.watch.entries = s.watch.entries ∧
      t.store.record = ⟨true, .tripped, none, some .stopTimeout, none⟩ := by
  have raised := State.raise_hard (s := s) (k := .stopTimeout) (t := none) (State.recordRaising_mode agree _ _)
  have freeze (r : Raising) (u : State) : u.freezeSlip .stopTimeout none r = u := rfl
  dsimp only at raised ⊢
  rw [raised, freeze]
  have held := State.recordRaising_held agree (k := .stopTimeout) rfl none
  have members : (s.recordRaising .stopTimeout none).1.members = s.members :=
    State.members_of_machine (TowerTable.core_inj (s.recordRaising_core .stopTimeout none)).1
  generalize hv : (s.recordRaising .stopTimeout none).1.queueNotice (faultSubject none) _ = v
  have run : v.run = s.run := by simp [← hv]
  have table : v.table = (s.recordRaising .stopTimeout none).1.table := by simp [← hv]
  obtain ⟨l, p, w, entries, trip⟩ := State.tripRequest_stopping (s := v) (by rw [run, stopping]) .stopTimeout
  rw [trip]
  refine ⟨by simp [← hv], by rw [run], fun k hk => ?_, fun room => ?_, by simp [← hv], by simp [← hv], by simp [← hv], ?_, rfl⟩
  · change (v.zeroOrders.tower k).dyn.lastOrder = 0 ∧ (v.zeroOrders.tower k).dyn.stall = .idle
    rw [State.zeroOrders_tower, if_pos]
    · exact ⟨rfl, rfl⟩
    · rwa [State.members_of_machine (congrArg TowerTable.machine table), members]
  · have faults : v.faults = (s.recordRaising .stopTimeout none).1.faults := by simp [← hv]
    obtain ⟨r, mem, found⟩ := held room
    exact ⟨r, faults ▸ mem, found⟩
  · rw [entries, ← hv]
    simp

/-- Settles O31: STOPPING completes at rest, by its destination, or times out into a trip (`State.stopTimeout_trips`). -/
theorem stoppingCompletesOrTimesOut : Obligations.StoppingCompletesOrTimesOut := by
  refine ⟨fun s active => ?_, fun s timer powered stopping running agree => ?_⟩
  · refine ⟨fun undone => ?_, fun ⟨stopping, rest⟩ reason dest why => ?_, fun ⟨stopping, rest⟩ dest => ?_,
      fun ⟨stopping, rest⟩ dest => ?_⟩
    · exact State.stoppingTest_stays (by rwa [State.atRest_iff])
    all_goals rw [State.stoppingTest_completes stopping (s.atRest_iff.2 rest), dest]; dsimp only
    · rw [why, State.endPass_enter (by exact active) (by decide)]
      exact congrArg (fun u : State => State.queueNotice (State.queueNotice u _ _) _ _)
        (State.comeToRest_entered stopping (.inl rfl) none)
    · rw [State.enter_eq (by exact active) (by decide)]
      exact congrArg (State.queueNotice · _ _) (State.comeToRest_entered stopping (.inr rfl) s.run.pass)
    · rw [State.enterPrestart_eq (by exact active)]
      refine congrArg (fun u : State => (State.queueNotice u _ _).prestartTest) ?_
      unfold State.entered
      rw [WatchUnit.leaving_of]
      · rfl
      · change s.run.mstate.moving = true
        rw [stopping]
        rfl
      · rfl
  · have expires : exec .stopTimerExpiry s =
        .next (((s.runOut timer).setRun fun c => { c with stopTimer := none }).raise .stopTimeout none).transmit := by
      change event State.stopTimesOut s = _
      rw [event, if_pos powered]
      unfold State.stopTimesOut
      rw [stopping, running]
    refine ⟨_, expires, ?_⟩
    generalize hu : (s.runOut timer).setRun (fun c => { c with stopTimer := none }) = u
    have table : u.table = s.table := hu ▸ rfl
    have tower := State.tower_of_table (s := s) table
    obtain ⟨tableCore, storeCore⟩ := u.raise_core .stopTimeout none
    obtain ⟨machine, pending⟩ := TowerTable.core_inj tableCore
    obtain ⟨stored, -, -⟩ := ConfigStore.core_inj storeCore
    have cores (k : Nat) := TowerRecord.core_inj (State.tower_core_of_eq tableCore k)
    obtain ⟨clock, run, orders, listed, engine, sectors, inputs, entries, record⟩ :=
      State.stopTimeout_trips (s := u) (hu ▸ stopping) (hu ▸ agree)
    have transmitted (v : State) (k : Nat) : v.transmit.tower k = v.tower k := State.tower_of_table v.transmit_table k
    simp only [transmitted, State.transmit_clock, State.transmit_run, State.transmit_faults, State.transmit_table,
      State.transmit_engine, State.transmit_sectors, State.transmit_inputs, State.transmit_watch, State.transmit_store]
    refine ⟨clock.trans (hu ▸ rfl), run, fun k low high => orders k ?_, fun room => listed (hu ▸ room),
      fun k => ⟨?_, ?_⟩, machine.trans (by rw [table]), pending.trans (by rw [table]), engine.trans (hu ▸ rfl),
      sectors.trans (hu ▸ rfl), inputs.trans (hu ▸ rfl), entries.trans (hu ▸ rfl), record, stored.trans (hu ▸ rfl)⟩
    · rw [State.members_of_machine (congrArg TowerTable.machine table)]
      exact s.mem_members.2 ⟨low, high⟩
    · rw [(cores k).1, tower]
    · rw [(cores k).2.1, tower]

/-! ### Hold and trip requests (R101, R104) -/

theorem State.holdRequest_running (running : s.run.mstate = .running) : s.holdRequest = s.enterStopping .held none := by
  unfold State.holdRequest
  rw [running]

theorem State.holdRequest_prestart (prestart : s.run.mstate = .prestart) : s.holdRequest =
    (s.setRun fun c => { c with prestartTimer := none, startFailTimer := none }).enter .held := by
  unfold State.holdRequest
  rw [prestart]

theorem State.holdRequest_stopping (stopping : s.run.mstate = .stopping) :
    s.holdRequest = if s.run.dest = some .reversing then s.redirect .held none else s := by
  unfold State.holdRequest
  rw [stopping]

theorem State.holdRequest_stays (h : s.run.mstate ∉ [.running, .prestart, .stopping]) : s.holdRequest = s := by
  unfold State.holdRequest
  split
  next running => exact absurd (running ▸ h) (by decide)
  next prestart => exact absurd (prestart ▸ h) (by decide)
  next stopping => exact absurd (stopping ▸ h) (by decide)
  next => rfl

/-- Settles O33: a hold request by the machine state that finds it, and a trip request in the energised states and in the
others. -/
theorem holdAndTripRequestsActByState : Obligations.HoldAndTripRequestsActByState := by
  refine ⟨fun s active => ⟨fun running => ?_, fun prestart => ?_, fun stopping dest => ?_, fun other => ?_⟩,
    fun s k active => ⟨fun released => ?_, fun energised => ?_⟩⟩
  · rw [State.holdRequest_running running, State.enterStopping_eq active]
    refine congrArg (fun u : State => (State.queueNotice u _ _).stoppingTest) ?_
    unfold State.entered
    rw [WatchUnit.leaving_of_not _ (by simp [MState.moving])]
    rfl
  · rw [State.holdRequest_prestart prestart, State.enter_eq (by exact active) (by decide)]
    refine congrArg (State.queueNotice · _ _) ?_
    unfold State.entered
    rw [AngleUnit.entering_of_halt _ (.inr rfl), WatchUnit.leaving_of_not]
    · rfl
    · change ¬ (s.run.mstate.moving = true ∧ _)
      rw [prestart]
      simp [MState.moving]
  · rw [State.holdRequest_stopping stopping, if_pos dest, State.redirect_eq _ _ _ stopping]
    rfl
  · rcases other with away | ⟨stopping, dest⟩
    · exact State.holdRequest_stays away
    · rw [State.holdRequest_stopping stopping, if_neg dest]
  · exact State.tripRequest_stays (Bool.eq_false_iff.2 (mt (MState.contactor_iff _).1 released)) k
  · have trip := State.tripRequest_eq active ((MState.contactor_iff _).2 energised) k
    have table : (s.tripRequest k).table = s.zeroOrders.table := by rw [trip]; simp
    have members (j : Nat) (high : s.towerCount < j) : j ∉ s.members := fun mem => by
      have := (s.mem_members.1 mem).2
      omega
    have aux : s.watch.leaving s.run.mstate .tripped = { s.watch with
        aux := s.watch.aux.map fun a => if s.run.mstate ≠ .prestart then { a with level := false } else a } := by
      by_cases prestart : s.run.mstate = .prestart
      · rw [WatchUnit.leaving_of_not _ (by rw [prestart]; simp [MState.moving])]
        simp [prestart]
      · have moved : s.run.mstate.moving = true := by
          generalize s.run.mstate = m at energised prestart
          cases m <;> simp_all [MState.moving]
        rw [WatchUnit.leaving_of _ moved rfl]
        simp [prestart]
    refine ⟨?_, ?_, ?_, fun j low high => ?_, fun j high => ?_⟩
    · rw [table, ← aux]
      exact trip
    · rw [table]
      exact (TowerTable.core_inj s.zeroOrders_core.1).1
    · rw [table]
      exact (TowerTable.core_inj s.zeroOrders_core.1).2
    · rw [State.tower_of_table table, State.zeroOrders_tower, if_pos (s.mem_members.2 ⟨low, high⟩)]
      rfl
    · rw [State.tower_of_table table, State.zeroOrders_tower, if_neg (members j high)]

end Sys2Proof.Machine
end

section
/-! SUPPORT. The run requests at a part that is ready for them (R86): from the command to its owner, what hearing a request
leaves, and the refusals. -/

namespace Sys2Proof.Machine

variable {s : State}

/-! ### From the command to its owner -/

theorem parseRequest_startPass (direction : Byte) (pace : U16) (presence : Byte) (stopAngle : U16) (circles : Byte) :
    parseRequest (frameOf (.startPass direction pace presence stopAngle circles)) =
      .startPass direction pace presence stopAngle circles := by
  change Request.startPass direction (u16 (loByte pace) (hiByte pace)) presence
    (u16 (loByte stopAngle) (hiByte stopAngle)) circles = _
  rw [u16_loByte_hiByte, u16_loByte_hiByte]

theorem parseRequest_setPace (pace : U16) : parseRequest (frameOf (.setPace pace)) = .setPace pace := by
  change Request.setPace (u16 (loByte pace) (hiByte pace)) = _
  rw [u16_loByte_hiByte]

theorem exec_startPass (ready : s.receptive) {direction presence circles : Byte} {pace stopAngle : U16} {u : State}
    {a : Answer} (taken : (s.heard (.startPass direction pace presence stopAngle circles)).takeStartPass direction pace
      presence stopAngle circles = (u, a)) :
    exec (.startPass direction pace presence stopAngle circles) s = .next (u.replying 0x10 a).transmit := by
  obtain ⟨fits, -⟩ := Laws.FrameFits.startPass direction pace presence stopAngle circles _ rfl rfl
  exact exec_answered ready rfl fits (parseRequest_startPass ..) fun _ => congrArg (Prod.map id some) taken

theorem exec_setPace (ready : s.receptive) {pace : U16} {u : State} {a : Answer}
    (taken : (s.heard (.setPace pace)).takeSetPace pace = (u, a)) :
    exec (.setPace pace) s = .next (u.replying 0x11 a).transmit := by
  obtain ⟨fits, -⟩ := Laws.FrameFits.setPace pace _ rfl rfl
  exact exec_answered ready rfl fits (parseRequest_setPace _) fun _ => congrArg (Prod.map id some) taken

theorem exec_stopPass (ready : s.receptive) {u : State} {a : Answer} (taken : (s.heard .stopPass).takeStopPass = (u, a)) :
    exec .stopPass s = .next (u.replying 0x12 a).transmit :=
  exec_answered ready (f := ⟨0x12, []⟩) rfl (Nat.zero_le _) (r := .stopPass) rfl fun _ =>
    congrArg (Prod.map id some) taken

theorem exec_hold (ready : s.receptive) {u : State} {a : Answer} (taken : (s.heard .hold).takeHold = (u, a)) :
    exec .hold s = .next (u.replying 0x13 a).transmit :=
  exec_answered ready (f := ⟨0x13, []⟩) rfl (Nat.zero_le _) (r := .hold) rfl fun _ =>
    congrArg (Prod.map id some) taken

theorem exec_resume (ready : s.receptive) {u : State} {a : Answer} (taken : (s.heard .resume).takeResume = (u, a)) :
    exec .resume s = .next (u.replying 0x14 a).transmit :=
  exec_answered ready (f := ⟨0x14, []⟩) rfl (Nat.zero_le _) (r := .resume) rfl fun _ =>
    congrArg (Prod.map id some) taken

theorem exec_reverse (ready : s.receptive) {u : State} {a : Answer}
    (taken : (s.heard .reverse).takeReverseRequest = (u, a)) : exec .reverse s = .next (u.replying 0x15 a).transmit :=
  exec_answered ready (f := ⟨0x15, []⟩) rfl (Nat.zero_le _) (r := .reverse) rfl fun _ =>
    congrArg (Prod.map id some) taken

theorem exec_tripReset (ready : s.receptive) {u : State} {a : Answer}
    (taken : (s.heard .tripReset).takeTripReset = (u, a)) : exec .tripReset s = .next (u.replying 0x16 a).transmit :=
  exec_answered ready (f := ⟨0x16, []⟩) rfl (Nat.zero_le _) (r := .tripReset) rfl fun _ =>
    congrArg (Prod.map id some) taken

/-! ### What hearing a request leaves (R157) -/

/-- A request heard leaves all but the line, which is ACTIVE, the fault list and the panel port. -/
theorem State.heard_parts (s : State) (r : Request) : ∃ span faults panel,
    s.heard r = { s with span := span, faults := faults, panel := panel } ∧ span.mode = .active :=
  ⟨_, _, _, s.heard_frame r, s.heard_active r⟩

/-- Hearing a request latches PANEL_SILENT (R157). -/
theorem State.heard_faults (s : State) (r : Request) : (s.heard r).faults = (s.latchKind .panelSilent none).faults := by
  have same (u v : State) (h : u.faults = v.faults) :
      (u.latchKind .panelSilent none).faults = (v.latchKind .panelSilent none).faults := by
    unfold State.latchKind State.latch
    rw [h]
  unfold State.heard State.noteTaken
  dsimp only
  rw [apply_ite State.faults, State.wakePanel_faults, ite_self]
  refine same _ _ ?_
  split <;> simp

theorem State.heard_records (s : State) (r : Request) : (s.heard r).faults.records = s.faults.records.map fun q =>
    if (q.kind == .panelSilent && q.tower == none) = true then { q with condition := .latched } else q := by
  rw [State.heard_faults]
  exact latch_records s _

/-- Hearing a request changes no record's mode. -/
theorem State.heard_blockingFault (s : State) (r : Request) : (s.heard r).blockingFault = s.blockingFault := by
  have mode (q : FaultRecord) : (if (q.kind == .panelSilent && q.tower == none) = true then
      { q with condition := .latched } else q).mode = q.mode := by split <;> rfl
  unfold State.blockingFault
  rw [State.heard_records, List.any_map]
  simp only [Function.comp_def, mode]

theorem State.blockingFault_iff (s : State) : s.blockingFault = true ↔ ∃ r ∈ s.faults.records, r.mode ≠ .deferred := by
  simp [State.blockingFault]

theorem State.heard_modesAgree (agree : s.modesAgree) (r : Request) : (s.heard r).modesAgree :=
  State.modesAgree_iff.2 (((State.leads_setPanel _).trans (State.leads_noteTaken r)).keeps (law := Posture.modesAgree)
    Posture.Move.modesAgree (State.modesAgree_iff.1 agree))

/-- The record that hearing a request latches is not HARD, where the modes agree (R134). -/
theorem State.heard_activeHard (agree : s.modesAgree) (r : Request) : (s.heard r).activeHard = s.activeHard := by
  unfold State.activeHard
  rw [State.heard_records, List.any_map, Bool.eq_iff_iff, List.any_eq_true, List.any_eq_true]
  refine exists_congr fun q => and_congr_right fun held => ?_
  dsimp only [Function.comp]
  split
  next silent =>
    have soft : q.mode ≠ .hard := by
      rw [agree.1 q held]
      simp only [Bool.and_eq_true, beq_iff_eq] at silent
      rw [silent.1, Ne, Posture.mode_eq_hard_iff]
      decide
    have (c : Condition) : (q.mode == .hard && c == .active) = false := by simp [soft]
    rw [this, this]
  next => exact Iff.rfl

/-! ### The checks of the state (R86) -/

theorem State.runCheck_none (s : State) :
    s.runCheck none = (s, .fail (if s.run.mstate = .unconfigured then .unconfigured else .wrongState)) := by
  unfold State.runCheck
  split <;> rfl

theorem State.runCheck_some (configured : s.run.mstate ≠ .unconfigured) (p : State × Answer) :
    s.runCheck (some p) = p := if_neg configured

theorem State.takeStop_none {r : PassEnd} (h : s.run.mstate ∉ [.running, .prestart, .stopping, .held, .recovering]) :
    s.takeStop r = none := by
  unfold State.takeStop
  generalize s.run.mstate = m at h
  cases m
  case unconfigured | stopped | tripped | powerWait => rfl
  all_goals exact absurd h (by decide)

theorem State.takeReverse_none (h : s.run.mstate ∉ [.running, .held]) : s.takeReverse = none := by
  unfold State.takeReverse
  generalize s.run.mstate = m at h
  cases m
  case running | held => exact absurd h (by decide)
  all_goals rfl

theorem State.takePace_none {v : Nat} (h : s.run.mstate ∉ [.prestart, .running, .held]) : s.takePace v = none := by
  unfold State.takePace
  generalize s.run.mstate = m at h
  cases m
  case prestart | running | held => exact absurd h (by decide)
  all_goals rfl

theorem State.takePace_some {v : Nat} (h : s.run.mstate ∈ [.prestart, .running, .held]) :
    s.takePace v = some (s.setPass fun p => { p with pace := min 1000 v }) := by
  unfold State.takePace
  generalize s.run.mstate = m at h
  cases m
  case prestart | running | held => rfl
  all_goals exact absurd h (by decide)

/-- A run request in a state in which it is not taken leaves the part, and is refused by the state (R86). -/
theorem exec_refused (ready : s.receptive) {i : Instr} {f : PanelFrame} {states : List MState} (frame : i.frame = some f)
    (run : takenIn i = some states) (away : s.run.mstate ∉ states) : exec i s = .next ((s.heard (parseRequest f)).replying
      f.type (.fail (if s.run.mstate = .unconfigured then .unconfigured else .wrongState))).transmit := by
  have refused (r : Request) : (s.heard r).runCheck none = (s.heard r, .fail (if s.run.mstate = .unconfigured then
      .unconfigured else .wrongState)) := by
    rw [State.runCheck_none, State.heard_run]
  have here (r : Request) {l : List MState} (h : s.run.mstate ∉ l) : (s.heard r).run.mstate ∉ l := by rwa [State.heard_run]
  cases i with
  | startPass direction pace presence stopAngle circles =>
    cases frame
    cases run
    rw [parseRequest_startPass]
    refine exec_startPass ready ((congrArg (State.runCheck _) (if_pos ?_)).trans (refused _))
    simpa using away
  | setPace pace =>
    cases frame
    cases run
    rw [parseRequest_setPace]
    refine exec_setPace ready (Eq.trans ?_ (refused _))
    rw [State.takeSetPace, State.takePace_none (here _ away)]
    rfl
  | stopPass =>
    cases frame
    cases run
    refine exec_stopPass ready (Eq.trans ?_ (refused _))
    rw [State.takeStopPass, State.takeStop_none (here _ away)]
    rfl
  | hold =>
    cases frame
    cases run
    refine exec_hold ready (Eq.trans ?_ (refused _))
    rw [State.takeHold, if_neg (by simpa using away)]
    rfl
  | resume =>
    cases frame
    cases run
    refine exec_resume ready ((congrArg (State.runCheck _) (if_pos ?_)).trans (refused _))
    simpa using away
  | reverse =>
    cases frame
    cases run
    refine exec_reverse ready (Eq.trans ?_ (refused _))
    rw [State.takeReverseRequest, State.takeReverse_none (here _ away)]
    rfl
  | tripReset =>
    cases frame
    cases run
    refine exec_tripReset ready ((congrArg (State.runCheck _) (if_pos ?_)).trans (refused _))
    simpa using away
  | _ => cases run

end Sys2Proof.Machine
end

section
/-! SUPPORT. The run requests where they are taken: START_PASS (O26), STOP_PASS, HOLD and REVERSE (O27), RESUME and TRIP_RESET
(O28). -/

namespace Sys2Proof.Machine

variable {s : State}

/-! ### START_PASS (R86 to R88) -/

/-- The stop angle and the circle target that a START_PASS marks as present. -/
abbrev passStop (presence : Byte) (stopAngle : U16) : Option Nat := if presence.getLsbD 0 then some stopAngle.toNat else none

abbrev passCircles (presence circles : Byte) : Option Nat := if presence.getLsbD 1 then some circles.toNat else none

/-- A stop angle or a circle target out of range (R86). -/
abbrev passStray (presence : Byte) (stopAngle : U16) (circles : Byte) : Prop :=
  (passStop presence stopAngle).any (36000 ≤ ·) ∨ (passCircles presence circles).any (fun n => n < 1 || 99 < n)

theorem passStray_iff (presence : Byte) (stopAngle : U16) (circles : Byte) : passStray presence stopAngle circles ↔
    (presence.getLsbD 0 = true ∧ 36000 ≤ stopAngle.toNat) ∨
      (presence.getLsbD 1 = true ∧ (circles.toNat < 1 ∨ 99 < circles.toNat)) := by
  unfold passStray passStop passCircles
  cases presence.getLsbD 0 <;> cases presence.getLsbD 1 <;> simp

section StartPass

variable {direction presence circles : Byte} {pace stopAngle : U16} {d : Direction}

theorem State.takeStartPass_bad (stopped : s.run.mstate = .stopped)
    (bad : directionOf direction = none ∨ passStray presence stopAngle circles) :
    s.takeStartPass direction pace presence stopAngle circles = (s, .fail .badValue) := by
  have configured : s.run.mstate ≠ .unconfigured := by rw [stopped]; decide
  unfold State.takeStartPass
  rw [if_neg (not_not.2 stopped)]
  dsimp only
  cases heading : directionOf direction with
  | none => exact State.runCheck_some configured _
  | some d =>
    dsimp only
    rw [if_pos (bad.resolve_left (by simp [heading]))]
    exact State.runCheck_some configured _

theorem State.takeStartPass_blocked (stopped : s.run.mstate = .stopped) (heading : directionOf direction = some d)
    (fits : ¬ passStray presence stopAngle circles) {r : BlockReason} (blocked : s.startBlocked d = some r) :
    s.takeStartPass direction pace presence stopAngle circles = (s, .blocked r) := by
  unfold State.takeStartPass
  rw [if_neg (not_not.2 stopped)]
  dsimp only
  rw [heading]
  dsimp only
  rw [if_neg fits, blocked]
  exact State.runCheck_some (by rw [stopped]; decide) _

theorem State.takeStartPass_starts (stopped : s.run.mstate = .stopped) (heading : directionOf direction = some d)
    (fits : ¬ passStray presence stopAngle circles) (free : s.startBlocked d = none) :
    s.takeStartPass direction pace presence stopAngle circles =
      ((s.setRun fun c => { c with pass := some ⟨d, min 1000 pace.toNat, passStop presence stopAngle,
        passCircles presence circles, 0, s.angle.held⟩ }).enterPrestart .new, .ok (.pace (min 1000 pace.toNat))) := by
  unfold State.takeStartPass
  rw [if_neg (not_not.2 stopped)]
  dsimp only
  rw [heading]
  dsimp only
  rw [if_neg fits, free]
  exact State.runCheck_some (by rw [stopped]; decide) _

end StartPass

/-- The blocking conditions of START_PASS see nothing that hearing a request changes. -/
theorem State.heard_startBlocked (s : State) (r : Request) (d : Direction) :
    (s.heard r).startBlocked d = s.startBlocked d := by
  unfold State.startBlocked
  simp only [State.heard_inputs, State.heard_angle, State.heard_sectors, State.heard_blockingFault]

/-- The first barrier ahead is the one before which none lies ahead (R116). -/
theorem barrierAhead_append {before after : List Sector} {b : Sector} {d : Direction} {x : Nat}
    (clear : ∀ c ∈ before, c.ahead d x = false) (ahead : b.ahead d x = true) :
    barrierAhead (before ++ b :: after) d x = some (before.length + 1) := by
  have none : before.findIdx? (fun c => c.ahead d x) = none := List.findIdx?_eq_none_iff.2 clear
  unfold barrierAhead
  rw [List.findIdx?_append, none, List.findIdx?_cons, if_pos ahead]
  simp

theorem barrierAhead_none {table : List Sector} {d : Direction} {x : Nat} (clear : ∀ c ∈ table, c.ahead d x = false) :
    barrierAhead table d x = none := by
  unfold barrierAhead
  rw [List.findIdx?_eq_none_iff.2 clear, Option.map_none]

theorem State.startBlocked_of_clear (s : State) (d : Direction) (chain : s.inputs.chainClosed = true)
    (valid : s.angle.heldValid = true) (soft : ∀ r ∈ s.faults.records, r.mode = .deferred) :
    s.startBlocked d = (barrierAhead s.sectors.installed d s.angle.held).map .barrier := by
  have fault : ¬ s.blockingFault = true := by simpa [State.blockingFault_iff] using soft
  unfold State.startBlocked
  rw [if_neg (by simp [chain]), if_neg (by simp [valid]), if_neg fault]

/-- The entry to PRESTART from a state that does not move, written out (R89). -/
theorem State.enterPrestart_written (active : s.span.mode = .active) (still : s.run.mstate.moving = false)
    (origin : Origin) : s.enterPrestart origin = (({ s with
      run := { s.run with
        mstate := .prestart, dest := none, reason := none, origin := some origin
        prestartTimer := if s.mval .prestartTime * 1000 = 0 then none else some ⟨s.mval .prestartTime * 1000, s.clock⟩
        startFailTimer := some ⟨s.mval .prestartTime * 1000 + s.mval .stopTimeout * 1000, s.clock⟩
        contactor := true, warning := true }
      angle := { s.angle with
        windows := Vector.replicate 16 none, overLimit := Vector.replicate 16 0, haltAngle := none }
      store := { s.store with record := ⟨true, .moving, s.run.pass, none, none⟩ } } : State).queueNotice .machine
        (.state .prestart none)).prestartTest := by
  rw [State.enterPrestart_eq active]
  refine congrArg (fun u : State => (State.queueNotice u _ _).prestartTest) ?_
  unfold State.entered
  rw [WatchUnit.leaving_of_not _ (by simp [State.setRun, still])]
  rfl

/-- Settles O26: START_PASS by its value checks, its blocking conditions and the entry to PRESTART. -/
theorem startPassStartsOrIsBlocked : Obligations.StartPassStartsOrIsBlocked := by
  refine ⟨fun s direction presence circles pace stopAngle d ready stopped heading stop circle chain valid soft clear => ?_,
    fun s direction presence circles pace stopAngle ready stopped => ⟨fun bad => ?_, fun good => ?_⟩⟩
  · have fits : ¬ passStray presence stopAngle circles := by
      rw [passStray_iff]
      rintro (⟨present, above⟩ | ⟨present, out⟩)
      · exact absurd (stop present) (by omega)
      · exact absurd (circle present) (by omega)
    have free : (s.heard (.startPass direction pace presence stopAngle circles)).startBlocked d = none := by
      rw [State.heard_startBlocked, State.startBlocked_of_clear s d chain valid soft, barrierAhead_none clear]
      rfl
    refine exec_startPass ready ?_
    rw [State.takeStartPass_starts (by simpa using stopped) heading fits free,
      State.enterPrestart_written (by exact s.heard_active _) (by simp [State.setRun, stopped, MState.moving])]
    obtain ⟨l, f, q, parts, -⟩ := s.heard_parts (.startPass direction pace presence stopAngle circles)
    rw [parts]
    rfl
  · refine exec_startPass ready (State.takeStartPass_bad (by simpa using stopped) ?_)
    rwa [passStray_iff]
  · rw [← passStray_iff, not_or] at good
    obtain ⟨d, heading⟩ := Option.ne_none_iff_exists'.1 good.1
    have answered {r : BlockReason} (blocked : s.startBlocked d = some r) := exec_startPass ready (pace := pace)
      (State.takeStartPass_blocked (pace := pace) (by simpa using stopped) heading good.2
        ((s.heard_startBlocked (.startPass direction pace presence stopAngle circles) d).trans blocked))
    refine ⟨fun chain => answered ?_, fun chain valid => answered ?_, fun chain valid fault => answered ?_,
      fun d' before b after chain valid soft heading' table clear ahead => answered ?_⟩
    · simp [State.startBlocked, chain]
    · simp [State.startBlocked, chain, valid]
    · simp [State.startBlocked, chain, valid, s.blockingFault_iff.2 fault]
    · cases heading.symm.trans heading'
      rw [State.startBlocked_of_clear s d chain valid soft, table, barrierAhead_append clear ahead]
      rfl

/-! ### STOP_PASS, HOLD and REVERSE (R95, R97, R100, R101, R103) -/

theorem State.takeStop_stops (h : s.run.mstate = .running ∨ s.run.mstate = .prestart) (r : PassEnd) :
    s.takeStop r = some (s.enterStopping .stopped (some r)) := by
  unfold State.takeStop
  rcases h with h | h <;> rw [h]

theorem State.takeStop_stopping (h : s.run.mstate = .stopping) (r : PassEnd) :
    s.takeStop r = some (if s.run.dest = some .stopped then s else s.redirect .stopped (some r)) := by
  unfold State.takeStop
  rw [h]

theorem State.takeStop_ends (h : s.run.mstate = .held ∨ s.run.mstate = .recovering) (r : PassEnd) :
    s.takeStop r = some (((s.setRun fun c => { c with recoveryTimer := none }).endPass r).enter .stopped) := by
  unfold State.takeStop
  rcases h with h | h <;> rw [h]

theorem State.takeReverse_running (h : s.run.mstate = .running) : s.takeReverse = some (s.enterStopping .reversing none) := by
  unfold State.takeReverse
  rw [h]

theorem State.takeReverse_held (h : s.run.mstate = .held) : s.takeReverse =
    some ((s.setPass fun p => { p with direction := p.direction.flip }).rewriteRecord none) := by
  unfold State.takeReverse
  rw [h]

/-- The entry to STOPPING of a pass that is steered there, written out (R95). -/
theorem State.enterStopping_written (active : s.span.mode = .active) (dest : Destination) (reason : Option PassEnd) :
    s.enterStopping dest reason = (({ s with
      run := { s.run with
        mstate := .stopping, dest := some dest, reason := reason, origin := none
        prestartTimer := none, startFailTimer := none, stopTimer := some ⟨s.mval .stopTimeout * 1000, s.clock⟩
        contactor := true, warning := false }
      angle := { s.angle with haltAngle := none }
      store := { s.store with
        record := ⟨true, if dest = .stopped then .other else .moving, s.run.pass, none, none⟩ } } : State).queueNotice
          .machine (.state .stopping (some dest))).stoppingTest := by
  rw [State.enterStopping_eq active]
  refine congrArg (fun u : State => (State.queueNotice u _ _).stoppingTest) ?_
  unfold State.entered
  rw [WatchUnit.leaving_of_not _ (by simp [MState.moving])]
  cases dest <;> rfl

/-- The pass ended in a state that neither moves nor is energised: STOPPED at once, written out (R100). -/
theorem State.endPass_stopped (active : s.span.mode = .active) (still : s.run.mstate.moving = false) (r : PassEnd) :
    ((s.setRun fun c => { c with recoveryTimer := none }).endPass r).enter .stopped = (({ s with
      run := { s.run with
        mstate := .stopped, dest := none, reason := none, origin := none, pass := none, recoveryTimer := none
        contactor := false, warning := false }
      span := { s.span with quietTimer := some ⟨s.mval .quietDelay * 1000, s.clock⟩ }
      angle := { s.angle with
        windows := Vector.replicate 16 none, overLimit := Vector.replicate 16 0
        haltAngle := if s.angle.heldValid then some s.angle.held else none }
      store := { s.store with record := ⟨true, .other, none, none, none⟩ } } : State).queueNotice .machine
        (.passEnd r)).queueNotice .machine (.state .stopped none) := by
  rw [State.endPass_enter (by exact active) (by decide)]
  refine congrArg (fun u : State => State.queueNotice (State.queueNotice u _ _) _ _) ?_
  unfold State.entered
  rw [WatchUnit.leaving_of_not _ (by simp [State.setRun, still]), AngleUnit.entering_of_halt _ (.inl rfl)]
  rfl

theorem State.redirect_stopped (stopping : s.run.mstate = .stopping) (reason : Option PassEnd) :
    s.redirect .stopped reason = ({ s with
      run := { s.run with dest := some .stopped, reason := reason }
      store := { s.store with record := ⟨true, .other, s.run.pass, none, none⟩ } } : State).queueNotice .machine
        (.state .stopping (some .stopped)) := State.redirect_eq s _ _ stopping

/-- REVERSE in HELD, written out (R103). -/
theorem State.flip_held (held : s.run.mstate = .held) :
    (s.setPass fun p => { p with direction := p.direction.flip }).rewriteRecord none =
      let p := s.run.pass.map fun p => { p with direction := p.direction.flip }
      { s with
        run := { s.run with pass := p }
        store := { s.store with record := ⟨true, .held, p, none, none⟩ } } := by
  unfold State.rewriteRecord
  simp only [State.setPass, State.setRun, held]
  rfl

theorem State.takeStopPass_of {t : State} (h : s.takeStop .panel = some t) (configured : s.run.mstate ≠ .unconfigured) :
    s.takeStopPass = (t, .ok) := by
  rw [State.takeStopPass, h]
  exact State.runCheck_some configured _

theorem State.takeReverseRequest_of {t : State} (h : s.takeReverse = some t) (configured : s.run.mstate ≠ .unconfigured) :
    s.takeReverseRequest = (t, .ok) := by
  rw [State.takeReverseRequest, h]
  exact State.runCheck_some configured _

/-- The entry to STOPPING of a part that has heard a request, in the words of O27. -/
theorem State.heard_enterStopping (s : State) (r : Request) (dest : Destination) (reason : Option PassEnd) :
    (s.heard r).enterStopping dest reason = (({ s.heard r with
      run := { s.run with
        mstate := .stopping, dest := some dest, reason := reason, origin := none
        prestartTimer := none, startFailTimer := none, stopTimer := some ⟨s.mval .stopTimeout * 1000, s.clock⟩
        contactor := true, warning := false }
      angle := { s.angle with haltAngle := none }
      store := { s.store with
        record := ⟨true, if dest = .stopped then .other else .moving, s.run.pass, none, none⟩ } } : State).queueNotice
          .machine (.state .stopping (some dest))).stoppingTest := by
  rw [State.enterStopping_written (s.heard_active r)]
  obtain ⟨l, f, q, parts, -⟩ := s.heard_parts r
  rw [parts]
  rfl

/-- Settles O27: each request by the machine state that finds it. -/
theorem stopHoldAndReverseSteerThePass : Obligations.StopHoldAndReverseSteerThePass := by
  refine ⟨fun s i f dest reason ready frame steers => ?_, fun s ready stopping => ⟨fun dest => ?_, fun dest => ?_⟩,
    fun s ready => ⟨fun ends => ?_, fun held => ?_⟩⟩
  · have configured (r : Request) {m : MState} (here : s.run.mstate = m) (hm : m ≠ .unconfigured) :
        (s.heard r).run.mstate ≠ .unconfigured := by rwa [State.heard_run, here]
    rcases steers with ⟨rfl, rfl, rfl, here⟩ | ⟨rfl, rfl, rfl, running⟩ | ⟨rfl, rfl, rfl, running⟩ <;> cases frame
    · refine exec_stopPass ready (Eq.trans (State.takeStopPass_of (State.takeStop_stops (by simpa using here) _) ?_) ?_)
      · rcases here with here | here <;> exact configured _ here (by decide)
      · rw [State.heard_enterStopping]
        rfl
    · refine exec_hold ready ?_
      rw [State.takeHold, if_pos (by simpa using running), State.heard_enterStopping]
      exact State.runCheck_some (configured _ running (by decide)) _
    · refine exec_reverse ready (Eq.trans (State.takeReverseRequest_of (State.takeReverse_running (by simpa using running))
        (configured _ running (by decide))) ?_)
      rw [State.heard_enterStopping]
      rfl
  · refine exec_stopPass ready (Eq.trans (State.takeStopPass_of (State.takeStop_stopping (by simpa using stopping) _)
      (by simp [stopping])) ?_)
    rw [if_pos (by simpa using dest)]
  · refine exec_stopPass ready (Eq.trans (State.takeStopPass_of (State.takeStop_stopping (by simpa using stopping) _)
      (by simp [stopping])) ?_)
    rw [if_neg (by simpa using dest), State.redirect_stopped (by simpa using stopping)]
    obtain ⟨l, f, q, parts, -⟩ := s.heard_parts .stopPass
    rw [parts]
  · have still : s.run.mstate.moving = false := by rcases ends with h | h <;> rw [h] <;> rfl
    refine exec_stopPass ready (Eq.trans (State.takeStopPass_of (State.takeStop_ends (by simpa using ends) _) ?_) ?_)
    · rcases ends with h | h <;> simp [h]
    · rw [State.endPass_stopped (s.heard_active _) (by simpa using still)]
      obtain ⟨l, f, q, parts, -⟩ := s.heard_parts .stopPass
      rw [parts]
      rfl
  · refine exec_reverse ready (Eq.trans (State.takeReverseRequest_of (State.takeReverse_held (by simpa using held))
      (by simp [held])) ?_)
    rw [State.flip_held (by simpa using held)]
    obtain ⟨l, f, q, parts, -⟩ := s.heard_parts .reverse
    rw [parts]
    rfl

/-! ### RESUME and TRIP_RESET (R102, R105) -/

theorem State.takeResume_held (held : s.run.mstate = .held) : s.takeResume =
    if s.inputs.chainClosed = false then (s, .blocked .chainOpen)
    else if s.blockingFault = true then (s, .blocked .fault)
    else (s.enterPrestart .resume, .ok) := by
  have configured : s.run.mstate ≠ .unconfigured := by rw [held]; decide
  unfold State.takeResume
  rw [if_neg (not_not.2 held)]
  simp only [Bool.not_eq_true', ← apply_ite some, State.runCheck_some configured]

theorem State.takeTripReset_tripped (tripped : s.run.mstate = .tripped) : s.takeTripReset =
    if s.inputs.chainClosed = false then (s, .blocked .chainOpen)
    else if s.activeHard = true then (s, .blocked .fault)
    else (((s.removeRecords fun r => r.mode == .hard).setRun fun c => { c with tripKind := none }).enter .stopped, .ok) := by
  have configured : s.run.mstate ≠ .unconfigured := by rw [tripped]; decide
  unfold State.takeTripReset
  rw [if_neg (not_not.2 tripped)]
  simp only [Bool.not_eq_true', ← apply_ite some, State.runCheck_some configured]

/-- Records of which none is a SLIP record leave the list without another effect (R151). -/
theorem State.removeRecords_eq {sel : FaultRecord → Bool} (h : ∀ r ∈ s.faults.records, sel r = true → r.kind ≠ .slip) :
    s.removeRecords sel = { s with faults := { s.faults with records := s.faults.records.filter fun r => !sel r } } := by
  have unfrozen (rs : List FaultRecord) (u : State) (h : ∀ r ∈ rs, r.kind ≠ .slip) : rs.foldl State.unfreeze u = u := by
    induction rs with
    | nil => rfl
    | cons r rs ih =>
      have still : u.unfreeze r = u := by
        unfold State.unfreeze
        split
        next slip _ => exact absurd slip (h r (.head _))
        next => rfl
      rw [List.foldl_cons, still]
      exact ih fun q hq => h q (.tail _ hq)
  refine unfrozen _ _ fun r hr => ?_
  obtain ⟨held, selected⟩ := List.mem_filter.1 hr
  exact h r held selected

/-- TRIP_RESET carried out: the HARD records, of which none is a SLIP record, leave the list, and STOPPED is entered. -/
theorem State.tripReset_written (active : s.span.mode = .active) (tripped : s.run.mstate = .tripped)
    (agree : s.modesAgree) :
    ((s.removeRecords fun r => r.mode == .hard).setRun fun c => { c with tripKind := none }).enter .stopped = ({ s with
      run := { s.run with
        mstate := .stopped, dest := none, reason := none, origin := none, tripKind := none
        contactor := false, warning := false }
      faults := { s.faults with records := s.faults.records.filter fun r => r.mode ≠ .hard }
      span := { s.span with quietTimer := some ⟨s.mval .quietDelay * 1000, s.clock⟩ }
      angle := { s.angle with
        windows := Vector.replicate 16 none, overLimit := Vector.replicate 16 0
        haltAngle := if s.angle.heldValid then some s.angle.held else none }
      store := { s.store with record := ⟨true, .other, s.run.pass, none, none⟩ } } : State).queueNotice .machine
        (.state .stopped none) := by
  have removed := State.removeRecords_eq (s := s) (sel := fun r => r.mode == .hard) fun r held hard slip => by
    rw [beq_iff_eq, agree.1 r held, Posture.mode_eq_hard_iff, slip] at hard
    cases hard
  have soft : (s.faults.records.filter fun r => !(r.mode == .hard)) = s.faults.records.filter fun r => r.mode ≠ .hard :=
    List.filter_congr fun r _ => by by_cases hard : r.mode = .hard <;> simp [hard]
  rw [removed, soft, State.enter_eq (by exact active) (by decide)]
  refine congrArg (State.queueNotice · _ _) ?_
  unfold State.entered
  rw [WatchUnit.leaving_of_not _ (by simp [State.setRun, tripped, MState.moving]), AngleUnit.entering_of_halt _ (.inl rfl)]
  rfl

/-- Settles O28: the refusals by the machine state, and the two requests by what blocks them. -/
theorem runRequestsLeaveTheirStatesOrAreRefused : Obligations.RunRequestsLeaveTheirStatesOrAreRefused := by
  refine ⟨fun s i f states ready => exec_refused ready, fun s ready held => ?_, fun s ready tripped agree => ?_⟩
  · have resume := State.takeResume_held (s := s.heard .resume) (by simpa using held)
    rw [State.heard_blockingFault, State.heard_inputs] at resume
    refine ⟨fun chain => exec_resume ready (resume.trans (if_pos chain)), fun chain fault => exec_resume ready ?_,
      fun chain soft => exec_resume ready ?_⟩
    · rw [resume, if_neg (by simp [chain]), if_pos (s.blockingFault_iff.2 fault)]
    · rw [resume, if_neg (by simp [chain]), if_neg (by simpa [State.blockingFault_iff] using soft),
        State.enterPrestart_written (by exact s.heard_active _) (by simp [held, MState.moving])]
      obtain ⟨l, f, q, parts, -⟩ := s.heard_parts .resume
      rw [parts]
      rfl
  · have reset := State.takeTripReset_tripped (s := s.heard .tripReset) (by simpa using tripped)
    rw [State.heard_activeHard agree, State.heard_inputs] at reset
    have active : s.activeHard = true ↔ ∃ r ∈ s.faults.records, r.mode = .hard ∧ r.condition = .active :=
      State.activeHard_iff
    refine ⟨fun chain => exec_tripReset ready (reset.trans (if_pos chain)), fun chain fault => exec_tripReset ready ?_,
      fun chain latched => exec_tripReset ready ?_⟩
    · rw [reset, if_neg (by simp [chain]), if_pos (active.2 fault)]
    · have none : ¬ s.activeHard = true := fun h => by
        obtain ⟨r, held, hard, act⟩ := active.1 h
        exact absurd (act.symm.trans (latched r held hard)) (by decide)
      rw [reset, if_neg (by simp [chain]), if_neg none, State.tripReset_written (s.heard_active _) (by simpa using tripped)
        (State.heard_modesAgree agree _)]
      obtain ⟨l, f, q, parts, -⟩ := s.heard_parts .tripReset
      rw [parts]
      rfl

end Sys2Proof.Machine
end

section
/-! SUPPORT. The read requests that report a block as it stands (R106, R117, R121), and the obligation O29. -/

namespace Sys2Proof.Machine

variable {s : State}

theorem exec_readMachine (ready : s.receptive) {u : State} {a : Answer}
    (taken : (s.heard .readMachine).takeReadMachine = (u, a)) :
    exec .readMachine s = .next (u.replying 0x17 a).transmit :=
  exec_answered ready (f := ⟨0x17, []⟩) rfl (Nat.zero_le _) (r := .readMachine) rfl fun _ =>
    congrArg (Prod.map id some) taken

theorem exec_readSectors (ready : s.receptive) {choice first : Byte} {u : State} {a : Answer}
    (taken : (s.heard (.readSectors choice first)).takeReadSectors choice first = (u, a)) :
    exec (.readSectors choice first) s = .next (u.replying 0x21 a).transmit := by
  obtain ⟨fits, -⟩ := Laws.FrameFits.readSectors choice first _ rfl rfl
  exact exec_answered ready rfl fits (r := .readSectors choice first) rfl fun _ => congrArg (Prod.map id some) taken

theorem exec_readWatches (ready : s.receptive) {u : State} {a : Answer}
    (taken : (s.heard .readWatches).takeReadWatches = (u, a)) :
    exec .readWatches s = .next (u.replying 0x29 a).transmit :=
  exec_answered ready (f := ⟨0x29, []⟩) rfl (Nat.zero_le _) (r := .readWatches) rfl fun _ =>
    congrArg (Prod.map id some) taken

/-- The auxiliary outputs in the order of their numbers. -/
theorem State.auxOutputs (s : State) : s.watch.aux.toList.map (auxLevel s.run.mstate) =
    [s.auxOutput 1, s.auxOutput 2, s.auxOutput 3, s.auxOutput 4] := by
  refine List.ext_getElem (by simp) fun n low _ => ?_
  have four : n < 4 := by simpa using low
  interval_cases n <;> simp [State.auxOutput, nth]

theorem MState.moving_eq (m : MState) : m.moving = (m == .running || m == .stopping) := by
  cases m <;> rfl

theorem State.takeReadSectors_stray (choice first : Byte)
    (stray : first.toNat < 1 ∨ 24 < first.toNat ∨ 1 < choice.toNat) :
    s.takeReadSectors choice first = (s, .fail .badValue) := by
  unfold State.takeReadSectors
  dsimp only
  by_cases place : first.toNat < 1 ∨ 24 < first.toNat
  · rw [if_pos place]
  · have named : markOf choice = none := by
      unfold markOf
      split
      next => omega
      next => omega
      next => rfl
    rw [if_neg place, named]

theorem State.takeReadSectors_named (choice first : Byte) (low : 1 ≤ first.toNat) (high : first.toNat ≤ 24)
    (named : choice.toNat ≤ 1) :
    s.takeReadSectors choice first =
      let table := if choice = 1 then s.sectors.pending.getD [] else s.sectors.installed
      (s, .ok (.sectors
        { installed := s.sectors.installed.length, pending := s.sectors.pending.map List.length
          build := s.sectors.build.map List.length, cap := s.sectors.cap, containing := s.sectors.containing
          sectors := ((table.zipIdx.map fun c => (c.2 + 1, c.1)).drop (first.toNat - 1)).take 12 })) := by
  have mark : markOf choice = some (Decidable.decide (choice = 1)) := by
    obtain rfl | rfl : choice = 0 ∨ choice = 1 := by bv_omega
    · rfl
    · rfl
  unfold State.takeReadSectors
  dsimp only
  rw [if_neg (by omega), mark]
  simp only [decide_eq_true_eq]

/-- Settles O29: what each request answers, read off what hearing it leaves. -/
theorem readRequestsReportTheirBlocks : Obligations.ReadRequestsReportTheirBlocks := by
  refine ⟨fun s ready => exec_readMachine ready ?_, fun s choice first ready =>
    ⟨⟨fun stray => ?_, fun low high named => ?_⟩, ?_⟩⟩
  · unfold State.takeReadMachine
    rw [State.auxOutputs, State.complete_of_table (s.heard_table _), State.heard_active]
    simp only [State.auxOutput, State.heard_run, State.heard_angle, State.heard_engine, State.heard_watch,
      State.heard_inputs, State.heard_clock]
    rfl
  · exact exec_readSectors ready (State.takeReadSectors_stray choice first stray)
  · refine exec_readSectors ready ((State.takeReadSectors_named choice first low high named).trans ?_)
    rw [State.heard_sectors]
  · refine exec_readWatches ready ?_
    unfold State.takeReadWatches
    simp only [State.heard_watch, State.heard_run, auxLevel, MState.moving_eq] <;> rfl

end Sys2Proof.Machine
end

section
/-! SUPPORT. The host pace, the paces composed from it, and the unshaped targets (R41 to R49, R99), and the obligation O44. -/

namespace Sys2Proof.Machine

variable {s : State} {p : Pass} {k : Nat}

/-! ### The paces (R41, R42, R46) -/

/-- A deferred ACTIVE JOINT_WARN of one of the machine's towers is held (R42). -/
theorem State.creeps_iff (distinct : s.faultsDistinct) : s.creeps = true ↔
    ∃ r ∈ s.faults.records, r.kind = .jointWarn ∧ r.mode = .deferred ∧ r.condition = .active ∧
      ∃ k, 1 ≤ k ∧ k ≤ s.towerCount ∧ r.tower = some k := by
  rw [State.creeps, List.any_eq_true]
  simp only [State.fallback_iff distinct, State.mem_members]
  constructor
  · rintro ⟨k, ⟨low, high⟩, r, held, kind, tower, mode, active⟩
    exact ⟨r, held, kind, mode, active, k, low, high, tower⟩
  · rintro ⟨r, held, kind, mode, active, k, low, high, tower⟩
    exact ⟨k, ⟨low, high⟩, r, held, kind, tower, mode, active⟩

theorem State.effectivePace_of_not_running (h : s.run.mstate ≠ .running) : s.effectivePace = 0 := if_neg h

theorem State.effectivePace_running (running : s.run.mstate = .running) (pass : s.run.pass = some p) :
    s.effectivePace = if s.creeps then min (min p.pace s.sectors.cap) (s.mval .creepPace) else min p.pace s.sectors.cap := by
  unfold State.effectivePace State.hostPace
  rw [if_pos running, pass]

theorem State.effectiveJoint_eq (pass : s.run.pass = some p) (k : Nat) :
    s.effectiveJoint k = signed p.direction (jointAngle (s.tower k).dyn.report) := by
  unfold State.effectiveJoint State.passDirection
  rw [pass]

/-- The straggler hold, by the inner towers 1 to N − 1 (R46). -/
theorem State.straggler_iff (s : State) : s.straggler = true ↔ s.mval .stragglerAngle ≠ 0 ∧
    ∃ k, 1 ≤ k ∧ k < s.towerCount ∧ s.effectiveJoint k ≤ -(s.mval .stragglerAngle : Int) := by
  have inner (k : Nat) : k ∈ s.inner ↔ 1 ≤ k ∧ k < s.towerCount := by
    rw [State.inner, mem_upTo]
    omega
  simp only [State.straggler, Bool.and_eq_true, bne_iff_ne, List.any_eq_true, decide_eq_true_eq, inner, and_assoc]

/-! ### The unshaped targets (R47 to R49) -/

theorem State.unshaped_last (last : k = s.towerCount) : s.unshaped k = s.workingPace := if_pos last

theorem State.unshaped_inner (inner : k < s.towerCount) : s.unshaped k = s.feedforward k + s.correction k :=
  if_neg (Nat.ne_of_lt inner)

/-- Settles O44: the pace set and its owner, then each pace and each target from those above it. -/
theorem pacesAndTargetsAreComposed : Obligations.PacesAndTargetsAreComposed := by
  refine ⟨fun s pace ready here => ?_, fun s p distinct pass => ?_,
    fun s p k pass low high => ⟨fun away => State.target_of_not_running away k, State.unshaped_last,
      fun inner F a a' C _ _ next least joint beyond correction => ?_⟩⟩
  · have taken : (s.heard (.setPace pace)).run.mstate ∈ [.prestart, .running, .held] := by rwa [State.heard_run]
    have configured : (s.heard (.setPace pace)).run.mstate ≠ .unconfigured := by
      rintro h
      rw [h] at taken
      exact absurd taken (by decide)
    refine exec_setPace ready ?_
    rw [State.takeSetPace, State.takePace_some taken]
    refine (State.runCheck_some configured _).trans ?_
    obtain ⟨l, f, q, parts, -⟩ := s.heard_parts (.setPace pace)
    rw [parts]
    rfl
  · intro creeping angle leads lags
    have creeps : s.creeps = true ↔ creeping := State.creeps_iff distinct
    have leading (k : Nat) : s.effectiveJoint k = leads k := State.effectiveJoint_eq pass k
    have straggles : s.straggler = true ↔ lags := by
      rw [State.straggler_iff]
      simp only [leading, lags]
    refine ⟨State.effectivePace_of_not_running, fun running => ⟨fun held => ?_, fun free => ?_⟩,
      fun held => if_pos (straggles.2 held), fun free => if_neg (mt straggles.1 free)⟩
    · rw [State.effectivePace_running running pass, if_pos (creeps.2 held)]
    · rw [State.effectivePace_running running pass, if_neg (mt creeps.1 free)]
  · have forward : s.feedforward k = F := roundHalfUp_eq least next
    have effective : s.effectiveJoint k = a := by
      rw [State.effectiveJoint_eq pass, joint]
      cases (s.tower k).dyn.report
      · cases p.direction <;> rfl
      · rfl
    rw [State.unshaped_inner inner, forward, State.correction, effective, correction, beyond]
    rfl

end Sys2Proof.Machine
end

section
/-! SUPPORT. The watches (R122 to R128): the window and its crossings, the order in which the entries are tested, and what a
watch that fires does, with the obligation O43. -/

namespace Sys2Proof.Machine

variable {s : State}

/-! ### The window and its crossings (R122, R123) -/

theorem arc_eq {a x : Nat} (ha : a ≤ 36000) : arc a x = (x + 36000 - a) % 36000 := by
  unfold arc
  omega

/-- The window holds the angles at most the half-width ahead of the reference angle or behind it (R122). -/
theorem WatchConfig.inside_iff (w : WatchConfig) {x : Nat} (ref : w.ref < 36000) (hx : x < 36000) :
    w.inside x = true ↔ (x + 36000 - w.ref) % 36000 ≤ w.halfWidth ∨ (w.ref + 36000 - x) % 36000 ≤ w.halfWidth := by
  have short : (angleDiff w.ref x).natAbs = min ((x + 36000 - w.ref) % 36000) ((w.ref + 36000 - x) % 36000) := by
    unfold angleDiff
    dsimp only
    omega
  rw [WatchConfig.inside, decide_eq_true_eq, short, min_le_iff]

/-- The arc swept, with both arcs counted from 0 up (R123). -/
theorem swept_iff_onArc {p x : Nat} (hp : p ≤ 36000) (hx : x ≤ 36000) (delta : Int) : swept p delta x = true ↔
    (0 < delta ∧ 1 ≤ (x + 36000 - p) % 36000 ∧ ((x + 36000 - p) % 36000 : Int) ≤ delta) ∨
      (delta < 0 ∧ 1 ≤ (p + 36000 - x) % 36000 ∧ ((p + 36000 - x) % 36000 : Int) ≤ -delta) := by
  rw [swept_iff]
  omega

/-- A sample between two angles outside the window crosses it where an edge lies on the arc swept (R123). -/
theorem WatchConfig.crossings_outside (w : WatchConfig) {p q : Nat} (hp : ¬ w.inside p = true) (hq : ¬ w.inside q = true)
    (delta : Int) : w.crossings p q delta =
      if (swept p delta w.lowerEdge || swept p delta w.upperEdge) = true then [.enter, .leave] else [] := by
  unfold WatchConfig.crossings
  rw [Bool.not_eq_true] at hp hq
  rw [hp, hq]

theorem WatchConfig.crossings_enter (w : WatchConfig) {p q : Nat} (hp : ¬ w.inside p = true) (hq : w.inside q = true)
    (delta : Int) : w.crossings p q delta = [.enter] := by
  unfold WatchConfig.crossings
  rw [Bool.not_eq_true] at hp
  rw [hp, hq]

theorem WatchConfig.crossings_leave (w : WatchConfig) {p q : Nat} (hp : w.inside p = true) (hq : ¬ w.inside q = true)
    (delta : Int) : w.crossings p q delta = [.leave] := by
  unfold WatchConfig.crossings
  rw [Bool.not_eq_true] at hq
  rw [hp, hq]

theorem WatchConfig.crossings_within (w : WatchConfig) {p q : Nat} (hp : w.inside p = true) (hq : w.inside q = true)
    (delta : Int) : w.crossings p q delta = [] := by
  unfold WatchConfig.crossings
  rw [hp, hq]

theorem WatchConfig.lowerEdge_eq (w : WatchConfig) (half : w.halfWidth ≤ 18000) :
    w.lowerEdge = (w.ref + 36000 - w.halfWidth) % 36000 := arc_eq (by omega)

theorem foldl_upTo_eight {α : Type} (f : α → Nat → α) (a : α) :
    (upTo 8).foldl f a = f (f (f (f (f (f (f (f a 1) 2) 3) 4) 5) 6) 7) 8 := rfl

/-! ### A watch that fires (R127, R128) -/

/-- The state in which entry n, which was w, takes its action: its firing is counted, and a ONCE entry is spent (R127). -/
def State.firing (s : State) (n : Nat) (w : Watch) : State :=
  { s with watch := { s.watch with
    entries := setNth s.watch.entries n { w with fires := min 255 (w.fires + 1), spent := w.cfg.once } } }

section Firing

variable {n : Nat} {w : Watch}

theorem State.fire_of_act (entry : s.watchEntry n = w) {v : State} {o : WatchOutcome}
    (act : (s.firing n w).watchAct w.cfg.action = (v, o)) (c : Crossing) (d : Direction) :
    s.fire n c d = v.queueNotice (.watch n) (.watchFired c d o) := by
  subst entry
  exact congrArg (fun x : State × WatchOutcome => x.1.queueNotice (.watch n) (.watchFired c d x.2)) act

theorem State.fire_stop (entry : s.watchEntry n = w) (action : w.cfg.action = .stop) {v : State}
    (taken : (s.firing n w).takeStop .watch = some v) (c : Crossing) (d : Direction) :
    s.fire n c d = v.queueNotice (.watch n) (.watchFired c d .taken) := by
  refine State.fire_of_act entry ?_ c d
  rw [action]
  exact congrArg (State.orRefused _) taken

theorem State.fire_reverse (entry : s.watchEntry n = w) (action : w.cfg.action = .reverse) {v : State}
    (taken : (s.firing n w).takeReverse = some v) (c : Crossing) (d : Direction) :
    s.fire n c d = v.queueNotice (.watch n) (.watchFired c d .taken) := by
  refine State.fire_of_act entry ?_ c d
  rw [action]
  exact congrArg (State.orRefused _) taken

end Firing

/-- A level written to an output by its number. -/
theorem State.setAuxLevel_eq (s : State) (k : Fin 4) (on : Bool) : s.setAuxLevel (k.val + 1) on =
    { s with watch := { s.watch with aux := s.watch.aux.set k { s.watch.aux[k] with level := on } } } := by
  have low : 1 ≤ k.val + 1 := by omega
  have high : k.val + 1 ≤ 4 := by omega
  unfold State.setAuxLevel
  dsimp only
  rw [nth_of_mem _ low high, setNth, dif_pos ⟨low, high⟩]
  rfl

/-- A state that takes no STOP action (R97, R100). -/
theorem MState.stops_nothing {m : MState} (h : m ∈ [.stopped, .tripped, .powerWait, .unconfigured]) :
    m ∉ [.running, .prestart, .stopping, .held, .recovering] := by
  cases m <;> revert h <;> decide

/-- Settles O43: the crossings by the two ends of the sample, the firing by the entry's action, and a STOP or REVERSE action by
the state that takes it. -/
theorem watchesAreCrossedAndFire : Obligations.WatchesAreCrossedAndFire := by
  refine ⟨fun w p q ref half hp hq => ?_, fun s p q delta => ?_, fun s n c d w low high entry => ?_,
    fun s n c d w low high entry active => ?_⟩
  · intro delta inside onArc edge
    have window {x : Nat} (hx : x < 36000) : w.inside x = true ↔ inside x := w.inside_iff ref hx
    have onTheWay (x : Nat) (hx : x ≤ 36000) : swept p delta x = true ↔ onArc x := swept_iff_onArc hp.le hx delta
    have edges : (swept p delta w.lowerEdge || swept p delta w.upperEdge) = true ↔ edge := by
      rw [Bool.or_eq_true, w.lowerEdge_eq half, onTheWay _ (by omega), WatchConfig.upperEdge, onTheWay _ (by omega)]
    rw [← window hp, ← window hq, ← edges]
    exact ⟨fun x => window, fun out into => w.crossings_enter out into _, fun here out => w.crossings_leave here out _,
      fun out out' across => (w.crossings_outside out out' _).trans (if_pos across),
      fun out out' clear => (w.crossings_outside out out' _).trans (if_neg clear),
      fun here here' => w.crossings_within here here' _⟩
  · exact ⟨fun still => if_pos still, fun moved => (if_neg moved).trans (foldl_upTo_eight _ s)⟩
  · have act {v : State} {o : WatchOutcome} {a : WatchAction} (action : w.cfg.action = a)
        (h : (s.firing n w).watchAct a = (v, o)) := State.fire_of_act entry (action ▸ h) c d
    have pace (v : Nat) {taken : Option State} (h : (s.firing n w).takePace v = taken) :
        (s.firing n w).watchAct (.pace v) = (s.firing n w).orRefused taken := congrArg (State.orRefused _) h
    refine ⟨fun action => act action rfl, fun k on action => act action ?_,
      fun v action => ⟨fun here => act action (pace v (State.takePace_some (by exact here))),
        fun away => act action (pace v (State.takePace_none (by exact away)))⟩,
      fun action => ⟨fun v taken => State.fire_stop entry action taken c d, fun away => act action ?_⟩,
      fun action => ⟨fun v taken => State.fire_reverse entry action taken c d, fun away => act action ?_⟩⟩
    · cases on <;> exact congrArg (·, _) (State.setAuxLevel_eq _ k _)
    · exact congrArg (State.orRefused _) (State.takeStop_none (s := s.firing n w) (MState.stops_nothing away))
    · exact congrArg (State.orRefused _) (State.takeReverse_none (s := s.firing n w) away)
  · have active : (s.firing n w).span.mode = .active := active
    refine ⟨fun action => ⟨fun steers => State.fire_stop entry action ?_ c d,
        fun stopping there => State.fire_stop entry action ?_ c d,
        fun stopping turns => State.fire_stop entry action ?_ c d, fun ends => State.fire_stop entry action ?_ c d⟩,
      fun action => ⟨fun running => State.fire_reverse entry action ?_ c d,
        fun held => State.fire_reverse entry action ?_ c d⟩⟩
    · exact (State.takeStop_stops (s := s.firing n w) steers _).trans
        (congrArg some (State.enterStopping_written active _ _))
    · exact (State.takeStop_stopping (s := s.firing n w) stopping _).trans (congrArg some (if_pos there))
    · exact (State.takeStop_stopping (s := s.firing n w) stopping _).trans
        (congrArg some ((if_neg turns).trans (State.redirect_stopped (s := s.firing n w) stopping _)))
    · have still : (s.firing n w).run.mstate.moving = false := by
        change s.run.mstate.moving = false
        rcases ends with h | h <;> rw [h] <;> rfl
      exact (State.takeStop_ends (s := s.firing n w) ends _).trans (congrArg some (State.endPass_stopped active still _))
    · exact (State.takeReverse_running (s := s.firing n w) running).trans
        (congrArg some (State.enterStopping_written active _ _))
    · exact (State.takeReverse_held (s := s.firing n w) held).trans
        (congrArg some (State.flip_held (s := s.firing n w) held))

end Sys2Proof.Machine
end

section
/-! SUPPORT. Law 8 (R110): what it looks at of the sector table, and that the blocks' operations leave it as it is but for
the installation of a pending table and SET_SECTORS. A change of approach marks is no change of it. -/

namespace Sys2Proof.Machine

variable (s : State)

/-! ### What Law 8 looks at -/

/-- What Law 8 looks at of the sector table: the installed table with every mark ARMED, and the pending table. -/
def SectorTable.core (c : SectorTable) : List Sector × Option (List Sector) := (c.installed.map Sector.rearm, c.pending)

/-- Sectors alike but for their approach marks. -/
theorem Sector.rearm_setMark (c : Sector) (d : Direction) (m : ApproachMark) : (c.setMark d m).rearm = c.rearm := by
  obtain ⟨a, b, body⟩ := c
  cases body <;> cases d <;> rfl

theorem Sector.rearm_leaveZones (c : Sector) (q : Nat) : (c.leaveZones q).rearm = c.rearm := by
  obtain ⟨a, b, body⟩ := c
  cases body <;> rfl

theorem Sector.rearm_rearm (c : Sector) : c.rearm.rearm = c.rearm := by
  obtain ⟨a, b, body⟩ := c
  cases body <;> rfl

theorem tableOrdered_rearm (t : List Sector) : tableOrdered (t.map Sector.rearm) ↔ tableOrdered t :=
  tableOrdered_map _ t fun ⟨_, _, body⟩ => by cases body <;> exact ⟨rfl, rfl, rfl⟩

theorem SectorTable.core_of_map {c e : SectorTable} {f : Sector → Sector} (installed : c.installed = e.installed.map f)
    (pending : c.pending = e.pending) (h : ∀ c : Sector, (f c).rearm = c.rearm) : c.core = e.core := by
  unfold SectorTable.core
  rw [installed, pending, List.map_map]
  exact congrArg (·, _) (List.map_congr_left fun c _ => h c)

/-! ### Changes of machine state (R84), holds, trips and raisings -/

@[simp] theorem State.marksFollow_sectorCore : s.marksFollow.sectors.core = s.sectors.core := by
  unfold State.marksFollow
  split
  · exact SectorTable.core_of_map rfl rfl Sector.rearm_rearm
  · rfl

@[simp] theorem State.enterWith_sectorCore (a : Bool) (m : MState) (d : Option Destination) (r : Option PassEnd)
    (o : Option Origin) : (s.enterWith a m d r o).sectors.core = s.sectors.core := by
  unfold State.enterWith; dsimp only; split <;> simp

@[simp] theorem State.enter_sectorCore (m : MState) (d : Option Destination) (r : Option PassEnd) (o : Option Origin) :
    (s.enter m d r o).sectors.core = s.sectors.core := s.enterWith_sectorCore true m d r o

@[simp] theorem State.prestartTest_sectorCore : s.prestartTest.sectors.core = s.sectors.core := by
  unfold State.prestartTest; split <;> simp

@[simp] theorem State.enterPrestart_sectorCore (o : Origin) : (s.enterPrestart o).sectors.core = s.sectors.core := by
  simp [State.enterPrestart]

@[simp] theorem State.stoppingTest_sectorCore : s.stoppingTest.sectors.core = s.sectors.core := by
  unfold State.stoppingTest; dsimp only; repeat' split
  all_goals simp

@[simp] theorem State.enterStopping_sectorCore (d : Destination) (r : Option PassEnd) :
    (s.enterStopping d r).sectors.core = s.sectors.core := by simp [State.enterStopping]

@[simp] theorem State.holdRequest_sectorCore : s.holdRequest.sectors.core = s.sectors.core := by
  unfold State.holdRequest; repeat' split
  all_goals simp

@[simp] theorem State.tripRequest_sectorCore (k : FaultKind) : (s.tripRequest k).sectors.core = s.sectors.core := by
  unfold State.tripRequest; split <;> simp

@[simp] theorem State.raise_sectorCore (k : FaultKind) (t : Option Nat) : (s.raise k t).sectors.core = s.sectors.core := by
  have act (u : State) (r : Raising) : (u.actOnRaising k r).sectors.core = u.sectors.core := by
    unfold State.actOnRaising; repeat' split
    all_goals simp
  simp [State.raise, act]

/-! ### Steering a pass -/

theorem State.takeStop_sectorCore {r : PassEnd} {t : State} (h : s.takeStop r = some t) :
    t.sectors.core = s.sectors.core := by
  unfold State.takeStop at h
  repeat' split at h
  all_goals cases h <;> simp

theorem State.takeReverse_sectorCore {t : State} (h : s.takeReverse = some t) : t.sectors.core = s.sectors.core := by
  unfold State.takeReverse at h
  split at h <;> cases h <;> simp

theorem State.takePace_sectorCore {v : Nat} {t : State} (h : s.takePace v = some t) : t.sectors.core = s.sectors.core := by
  unfold State.takePace at h
  split at h <;> cases h <;> simp

/-! ### The fault list (chapter 8) -/

@[simp] theorem State.changeMode_sectorCore (k : FaultKind) (deferred : Bool) :
    (s.changeMode k deferred).sectors.core = s.sectors.core := by
  have frozen (u : State) : u.freezeHeld.sectors = u.sectors := u.setDyns_sectors _ _
  unfold State.changeMode; dsimp only; repeat' split
  all_goals simp [frozen]

@[simp] theorem State.faultExamine_sectorCore (k : Nat) (r : Report) :
    (s.faultExamine k r).sectors.core = s.sectors.core := by
  have warn (a : Nat) : (s.warnCheck k a).sectors.core = s.sectors.core := by
    unfold State.warnCheck; dsimp only; repeat' split
    all_goals simp
  have trip (u : State) (a : Nat) : (u.tripCheck k a).sectors.core = u.sectors.core := by
    unfold State.tripCheck; dsimp only; repeat' split
    all_goals simp
  have switch (u : State) : (u.switchCheck k r).sectors.core = u.sectors.core := by
    unfold State.switchCheck; split <;> simp
  unfold State.faultExamine; dsimp only; split <;> simp [warn, trip, switch]

@[simp] theorem State.chainChanged_sectorCore : s.chainChanged.sectors.core = s.sectors.core := by
  unfold State.chainChanged; repeat' split
  all_goals simp

@[simp] theorem State.silenceExpires_sectorCore : s.silenceExpires.sectors.core = s.sectors.core := by
  unfold State.silenceExpires; dsimp only; split <;> simp

/-! ### The run controller (chapter 5) and the retained record (chapter 10) -/

@[simp] theorem State.runExpiries_sectorCore :
    s.prestartExpires.sectors.core = s.sectors.core ∧ s.startFails.sectors.core = s.sectors.core ∧
      s.stopTimesOut.sectors.core = s.sectors.core ∧ s.recoveryExpires.sectors.core = s.sectors.core := by
  refine ⟨?_, ?_, ?_, ?_⟩
  · unfold State.prestartExpires; split <;> simp
  · unfold State.startFails; dsimp only; split <;> simp
  · unfold State.stopTimesOut; split <;> simp
  · unfold State.recoveryExpires; dsimp only; repeat' split
    all_goals simp

@[simp] theorem State.passCheck_sectorCore (p : Nat) (x : Int) : (s.passCheck p x).sectors.core = s.sectors.core := by
  unfold State.passCheck; repeat' split
  all_goals simp

@[simp] theorem State.powerReturn_sectorCore (a : Bool) : (s.powerReturn a).sectors.core = s.sectors.core := by
  have restore (k : FaultKind) : (s.restoreTrip k).sectors = s.sectors := by
    unfold State.restoreTrip; dsimp only; split <;> rfl
  unfold State.powerReturn; dsimp only; repeat' split
  all_goals simp [restore]

@[simp] theorem State.powerFails_sectorCore : s.powerFails.sectors.core = s.sectors.core := by
  unfold State.powerFails; dsimp only; split <;> simp

/-! ### The watch unit (chapter 7) -/

@[simp] theorem State.watchAct_sectorCore (a : WatchAction) : (s.watchAct a).1.sectors.core = s.sectors.core := by
  have taken (o : Option State) (h : ∀ t, o = some t → t.sectors.core = s.sectors.core) :
      (s.orRefused o).1.sectors.core = s.sectors.core := by
    cases o with
    | none => rfl
    | some t => exact h t rfl
  cases a with
  | stop => exact taken _ fun t => s.takeStop_sectorCore
  | reverse => exact taken _ fun t => s.takeReverse_sectorCore
  | pace v => exact taken _ fun t => s.takePace_sectorCore
  | notice | auxOn n | auxOff n => rfl

theorem foldl_sectorCore {α : Type} {f : State → α → State}
    (h : ∀ (u : State) (a : α), (f u a).sectors.core = u.sectors.core) (as : List α) :
    (as.foldl f s).sectors.core = s.sectors.core := by
  induction as generalizing s with
  | nil => rfl
  | cons a as ih => exact (ih (f s a)).trans (h s a)

@[simp] theorem State.watchSample_sectorCore (p q : Nat) (x : Int) :
    (s.watchSample p q x).sectors.core = s.sectors.core := by
  have fire (u : State) (n : Nat) (c : Crossing) (d : Direction) : (u.fire n c d).sectors.core = u.sectors.core := by
    simp [State.fire]
  have test (n : Nat) (d : Direction) (u : State) (c : Crossing) :
      (State.testCrossing n d u c).sectors.core = u.sectors.core := by
    unfold State.testCrossing; dsimp only; split <;> simp [fire]
  unfold State.watchSample; split
  · rfl
  · exact foldl_sectorCore s (fun u n => foldl_sectorCore u (test n _) _) _

/-! ### The angle unit (chapter 2) -/

@[simp] theorem State.pivotDrift_sectorCore (x : Option Int) (q : Nat) :
    (s.pivotDrift x q).sectors.core = s.sectors.core := by
  unfold State.pivotDrift; dsimp only; repeat' split
  all_goals simp

@[simp] theorem State.invalidSample_sectorCore : s.invalidSample.sectors.core = s.sectors.core := by
  unfold State.invalidSample; dsimp only; split <;> simp

@[simp] theorem State.angleExamine_sectorCore (k : Nat) (p : Option Report) (r : Report) :
    (s.angleExamine k p r).1.sectors.core = s.sectors.core := by
  have closes (w : SlipWindow) : (s.closeWindow k w r.wheel).sectors.core = s.sectors.core := by
    unfold State.closeWindow; dsimp only; repeat' split
    all_goals simp
  have slip : (s.slipExamine k r).sectors.core = s.sectors.core := by
    unfold State.slipExamine; repeat' split
    all_goals simp [closes]
  have stall (u : State) : (u.stallExamine k p r).sectors.core = u.sectors.core := by
    unfold State.stallExamine; dsimp only; repeat' split
    all_goals simp
  have halt (u : State) : (u.haltExamine k r).1.sectors.core = u.sectors.core := by
    unfold State.haltExamine; dsimp only; repeat' split
    all_goals simp
  simp [State.angleExamine, slip, stall, halt]

@[simp] theorem State.stallExpires_sectorCore (k : Nat) : (s.stallExpires k).sectors.core = s.sectors.core := by
  unfold State.stallExpires; split <;> simp

@[simp] theorem State.stallTimerExpires_sectorCore (k : Nat) :
    (s.stallTimerExpires k).sectors.core = s.sectors.core := by
  unfold State.stallTimerExpires; split <;> simp

/-! ### The tower table (chapter 1) -/

@[simp] theorem State.applyWrites_sectorCore (ws : List FieldWrite) :
    (s.applyWrites ws).sectors.core = s.sectors.core := by
  have agrees (u : State) (k : Nat) : (u.agreeMisses k).sectors.core = u.sectors.core := by
    unfold State.agreeMisses; dsimp only; repeat' split
    all_goals simp
  have applied (u : State) (w : FieldWrite) : (u.fieldApplied w).sectors.core = u.sectors.core := by
    unfold State.fieldApplied; repeat' split
    all_goals simp
  have members (u : State) (old : Nat) : (u.changeMembers old).sectors.core = u.sectors.core := by
    rw [u.changeMembers_slot]
    exact foldl_sectorCore u (f := State.resetMember) (fun _ _ => rfl) _
  unfold State.applyWrites
  dsimp only
  rw [foldl_sectorCore _ applied]
  repeat' split
  all_goals simp [members, foldl_sectorCore _ agrees]

@[simp] theorem State.applyPending_sectorCore : s.applyPending.sectors.core = s.sectors.core := by
  simp [State.applyPending]

@[simp] theorem State.takeWrite_sectorCore (ws : List FieldWrite) (stray : Bool) (consistent : State → Bool) :
    (s.takeWrite ws stray consistent).1.sectors.core = s.sectors.core := by
  have settles (u : State) : u.settleCompleteness.sectors.core = u.sectors.core := by
    unfold State.settleCompleteness; dsimp only; repeat' split
    all_goals simp
  unfold State.takeWrite State.applyOrStage; repeat' split
  all_goals simp [settles]

/-! ### The order engine (chapter 3) and the span line (chapter 4) -/

@[simp] theorem State.intervalExpires_sectorCore : s.intervalExpires.sectors.core = s.sectors.core := by
  have handed (u : State) (os : OrderSet) : (u.handSet os).sectors.core = u.sectors.core := by
    have orders := foldl_sectorCore u (f := fun u p => u.setDyn p.1 fun d => d.takeOrder p.2 os.direction)
      (fun _ _ => rfl) os.orders
    unfold State.handSet; dsimp only; split
    all_goals simpa using orders
  unfold State.intervalExpires; split
  all_goals simp [handed]

end Sys2Proof.Machine
end

section
/-! SUPPORT. Law 8 (R110) through every command (O6): a table enters as one that has passed the validation of R110, or from
an image that was stored so; all else keeps what Law 8 looks at. -/

namespace Sys2Proof.Machine

variable {s t : State}

/-- Law 8 looks at the cores of the sector table and of the store alone. -/
theorem State.sectorsOrdered.of_core (h : s.sectorsOrdered) (sectors : t.sectors.core = s.sectors.core)
    (store : t.store.core = s.store.core) : t.sectorsOrdered := by
  obtain ⟨installed, pending, stored, writing⟩ := h
  obtain ⟨marks, waits⟩ := Prod.mk.inj sectors
  obtain ⟨copy, write, -⟩ := ConfigStore.core_inj store
  refine ⟨?_, fun t ht => pending t (waits ▸ ht), fun i c hi => stored i c (copy ▸ hi), fun i hi => writing i (write ▸ hi)⟩
  rwa [← tableOrdered_rearm, marks, tableOrdered_rearm]

theorem State.sectorsOrdered.of_eq (h : s.sectorsOrdered) (sectors : t.sectors = s.sectors) (store : t.store = s.store) :
    t.sectorsOrdered := h.of_core (congrArg _ sectors) (congrArg _ store)

theorem State.sectorsOrdered.foldl {α : Type} {f : State → α → State}
    (step : ∀ {u : State} (a : α), u.sectorsOrdered → (f u a).sectorsOrdered) (as : List α) (h : s.sectorsOrdered) :
    (as.foldl f s).sectorsOrdered := by
  induction as generalizing s with
  | nil => exact h
  | cons a as ih => exact ih (step a h)

/-! ### The sector table -/

/-- The sector table replaced by one whose two tables are ordered. -/
theorem State.sectorsOrdered.setInstalled (h : s.sectorsOrdered) {c : SectorTable} (installed : tableOrdered c.installed)
    (pending : ∀ t, c.pending = some t → tableOrdered t) : State.sectorsOrdered { s with sectors := c } := by
  obtain ⟨-, -, store⟩ := h
  exact ⟨installed, pending, store⟩

/-- A pending table has passed the validation when it is installed (R111). -/
theorem State.sectorsOrdered.installPending (h : s.sectorsOrdered) : s.installPending.sectorsOrdered := by
  obtain ⟨installed, pending, -⟩ := id h
  unfold State.installPending
  split
  next t waits => exact h.setInstalled ((tableOrdered_rearm t).2 (pending t waits)) nofun
  next => exact h

theorem State.approachCheck_sectorCore (s : State) (d : Direction) (q : Nat) :
    (s.approachCheck d q).sectors.core = s.sectors.core := by
  have act (u : State) (c : Sector) : (u.barrierAct c).sectors.core = u.sectors.core := by
    unfold State.barrierAct; split <;> simp
  unfold State.approachCheck
  split
  · split
    next table c fired =>
      obtain ⟨before, after, old, new, -⟩ := (fireFirst_eq_some ..).1 fired
      rw [act]
      simp [SectorTable.core, old, new, Sector.rearm_setMark]
    next => rfl
  · rfl

/-- The five steps of a sample: an installation, and marks (6.3). -/
theorem State.sectorsOrdered.sectorSample (h : s.sectorsOrdered) (d : Option Direction) (q : Nat) :
    (s.sectorSample d q).sectorsOrdered := by
  have capped : (s.installPending.establishCap q).sectorsOrdered := h.installPending.of_core rfl rfl
  refine capped.of_core ?_ (by simp [(s.sectorSample_core d q).2])
  unfold State.sectorSample
  have left (u : State) : (u.rearmOutside q).sectors.core = u.sectors.core :=
    SectorTable.core_of_map rfl rfl fun c => c.rearm_leaveZones q
  have overrun (u : State) : (u.overrunCheck q).sectors.core = u.sectors.core := by
    unfold State.overrunCheck; split <;> simp
  rw [left]
  cases d with
  | none => rfl
  | some d => exact (State.approachCheck_sectorCore ..).trans (overrun _)

/-- SET_SECTORS writes the build list and, if a part closes the build, a table that passes the validation (R110). -/
theorem State.takeSetSectors_builds (s : State) (m : Byte) (es : List SectorEntry) : ∃ b p,
    (s.takeSetSectors m es).1 = { s with sectors := { s.sectors with build := b, pending := p } } ∧
      ∀ t, p = some t → s.sectors.pending = some t ∨ tableOrdered t := by
  have kept (b : Option (List Sector)) : ∃ c p, ({ s with sectors := { s.sectors with build := b } } : State) =
      { s with sectors := { s.sectors with build := c, pending := p } } ∧
        ∀ t, p = some t → s.sectors.pending = some t ∨ tableOrdered t := ⟨b, s.sectors.pending, rfl, fun t => .inl⟩
  unfold State.takeSetSectors
  dsimp only
  split
  · exact kept none
  split
  · exact kept none
  next cs _ =>
    generalize (if m.getLsbD 0 then [] else s.sectors.build.getD []) ++ cs = list
    split
    · exact kept none
    split
    · exact kept (some list)
    split
    next valid =>
      exact ⟨none, some list, rfl, fun t ht => .inr (Option.some.inj ht ▸ (validTable_iff_tableOrdered list).1 valid)⟩
    · exact kept none

theorem State.sectorsOrdered.takeSetSectors (h : s.sectorsOrdered) (m : Byte) (es : List SectorEntry) :
    (s.takeSetSectors m es).1.sectorsOrdered := by
  obtain ⟨installed, pending, -⟩ := id h
  obtain ⟨b, p, written, valid⟩ := s.takeSetSectors_builds m es
  exact written ▸ h.setInstalled installed fun t ht => (valid t ht).elim (pending t) id

/-! ### A sample -/

theorem State.sectorsOrdered.handOver (h : s.sectorsOrdered) (o : SampleOrder) (d : Direction) (p q : Nat) (x : Int) :
    (s.handOver o d p q x).sectorsOrdered := by
  have run {u : State} (hu : u.sectorsOrdered) : (u.passCheck p x).sectorsOrdered := hu.of_core (by simp) (by simp)
  have sector {u : State} (hu : u.sectorsOrdered) := hu.sectorSample (some d) q
  have watch {u : State} (hu : u.sectorsOrdered) : (u.watchSample p q x).sectorsOrdered := hu.of_core (by simp) (by simp)
  cases o with
  | rsw => exact watch (sector (run h))
  | rws => exact sector (watch (run h))
  | srw => exact watch (run (sector h))
  | swr => exact run (watch (sector h))
  | wrs => exact sector (run (watch h))
  | wsr => exact run (sector (watch h))

theorem State.sectorsOrdered.validSample (h : s.sectorsOrdered) (q : Nat) (o : SampleOrder) :
    (s.validSample q o).sectorsOrdered := by
  have held : (s.holdAngle q).sectorsOrdered := h.of_eq (by simp) (by simp)
  have drift {u : State} (hu : u.sectorsOrdered) (x : Option Int) : (u.pivotDrift x q).sectorsOrdered :=
    hu.of_core (by simp) (by simp)
  unfold State.validSample
  split
  · exact drift (held.sectorSample none q) none
  · have travelled (x : Int) : ((s.holdAngle q).passTravel x).sectorsOrdered := held.of_eq rfl rfl
    have gathered {u : State} (hu : u.sectorsOrdered) (x : Int) : (u.gatherTravel x).sectorsOrdered := hu.of_eq rfl rfl
    exact drift (gathered ((travelled _).handOver ..) _) _

theorem State.sectorsOrdered.readCompletes (h : s.sectorsOrdered) (q : Nat) (e : Bool) (o : SampleOrder) :
    (s.readCompletes q e o).sectorsOrdered := by
  have ended : s.endRead.sectorsOrdered := h.of_eq rfl rfl
  unfold State.readCompletes State.takeSample
  repeat' split
  · exact ended.validSample q o
  · exact ended.of_core (by simp) (by simp)
  · exact h

/-! ### The tower table, the order engine and the span line -/

theorem State.sectorsOrdered.takeWrite (h : s.sectorsOrdered) (ws : List FieldWrite) (stray : Bool)
    (consistent : State → Bool) : (s.takeWrite ws stray consistent).1.sectorsOrdered := by
  refine h.of_core (by simp) ?_
  have applied (u : State) (ws : List FieldWrite) : (u.applyWrites ws).store.core = u.store.core :=
    (u.applyWrites_kept ws).2.2.2
  have settles (u : State) : u.settleCompleteness.store.core = u.store.core := by
    unfold State.settleCompleteness State.applyPending; dsimp only; repeat' split
    all_goals simp [applied]
  unfold State.takeWrite State.applyOrStage
  repeat' split
  all_goals simp [settles, applied]

theorem State.sectorsOrdered.intervalExpires (h : s.sectorsOrdered) : s.intervalExpires.sectorsOrdered := by
  refine h.of_core (by simp) ?_
  have applied (u : State) : u.applyPending.store.core = u.store.core := (State.applyWrites_kept ..).2.2.2
  unfold State.intervalExpires
  split <;> simp [State.handSet_core, applied]

theorem State.sectorsOrdered.takeReport (h : s.sectorsOrdered) (kind : SlotKind) (k : Nat) (f : ReportFrame) :
    (s.takeReport kind k f).sectorsOrdered := by
  refine h.of_core ?_ (s.takeReport_core kind k f).2
  have judged (u : State) (d : TowerDynamic) (r : Report) (b : Bool) : (u.judgeReport kind d r b).sectors = u.sectors := by
    rw [State.judgeReport_eq]; repeat' split
    all_goals simp
  unfold State.takeReport
  dsimp only
  repeat' split
  all_goals simp [judged]

theorem State.sectorsOrdered.spanByte (h : s.sectorsOrdered) (b : Byte) : (s.spanByte b).sectorsOrdered := by
  have received (l : SpanMaster) : State.sectorsOrdered { s with span := l } := h.of_eq rfl rfl
  unfold State.spanByte
  split
  · exact h
  dsimp only
  split
  · unfold State.examineReport
    repeat' split
    · exact State.sectorsOrdered.takeReport ((received _).of_eq rfl rfl) _ _ _
    · exact received _
    · exact received _
  · exact received _

theorem State.sectorsOrdered.windowExpires (h : s.sectorsOrdered) : s.windowExpires.sectorsOrdered := by
  have missed (u : State) (k : Nat) :
      (u.countMiss k).sectors.core = u.sectors.core ∧ (u.countMiss k).store.core = u.store.core := by
    unfold State.countMiss; dsimp only; repeat' split
    all_goals simp
  unfold State.windowExpires
  dsimp only
  repeat' split
  all_goals exact h.of_core (by simp [missed]) (by simp [missed])

/-- The line's other events leave the sector table and the store as they are. -/
theorem State.sectorsOrdered.slotEvents (h : s.sectorsOrdered) : s.spanFrameEnds.sectorsOrdered ∧
    s.slotEnds.sectorsOrdered ∧ s.quietExpires.sectorsOrdered ∧ s.surveyExpires.sectorsOrdered := by
  refine ⟨?_, ?_, ?_, ?_⟩
  · unfold State.spanFrameEnds; repeat' split
    all_goals exact h.of_eq (by simp) (by simp)
  · unfold State.slotEnds State.afterSlot; dsimp only; repeat' split
    all_goals exact h.of_eq (by simp) (by simp)
  · unfold State.quietExpires; repeat' split
    all_goals exact h.of_eq (by simp) (by simp)
  · unfold State.surveyExpires; dsimp only; repeat' split
    all_goals exact h.of_eq (by simp) (by simp)

/-! ### The run controller -/

theorem State.sectorsOrdered.runExpiries (h : s.sectorsOrdered) : s.prestartExpires.sectorsOrdered ∧
    s.startFails.sectorsOrdered ∧ s.stopTimesOut.sectorsOrdered ∧ s.recoveryExpires.sectorsOrdered := by
  obtain ⟨prestart, startFail, stopTime, recovery⟩ := s.runExpiries_sectorCore
  obtain ⟨⟨-, prestart'⟩, ⟨-, startFail'⟩, -, stopTime'⟩ := s.runExpiries_core
  obtain ⟨-, recovery'⟩ := s.recoveryExpires_core
  exact ⟨h.of_core prestart prestart', h.of_core startFail startFail', h.of_core stopTime stopTime',
    h.of_core recovery recovery'⟩

theorem State.sectorsOrdered.powerReturns (h : s.sectorsOrdered) : s.powerReturns.sectorsOrdered := by
  unfold State.powerReturns
  split
  · exact h.of_core (by simp) (by simp)
  · exact h

/-! ### The store and the resets (chapter 10) -/

/-- The image written holds the pending table, or the installed one where none is pending (R170). -/
theorem State.sectorsOrdered.snapshot (h : s.sectorsOrdered) : tableOrdered s.snapshot.sectors := by
  obtain ⟨installed, pending, -⟩ := h
  refine (tableOrdered_rearm _).2 ?_
  cases waits : s.sectors.pending with
  | none => exact installed
  | some t => exact pending t waits

/-- A load gives a table that was stored, or the empty one (R174). -/
theorem State.sectorsOrdered.load (h : s.sectorsOrdered) : tableOrdered s.store.stored.load.sectors := by
  obtain ⟨-, -, stored, -⟩ := h
  unfold StoredCopy.load
  split
  next i c copy =>
    split
    · exact stored i c copy
    · exact tableOrdered_nil
  · exact tableOrdered_nil

theorem State.sectorsOrdered.setStore (h : s.sectorsOrdered) {c : ConfigStore}
    (stored : ∀ i k, c.stored = .written i k → tableOrdered i.sectors)
    (writing : ∀ i, c.writing = some i → tableOrdered i.sectors) : State.sectorsOrdered { s with store := c } := by
  obtain ⟨installed, pending, -⟩ := h
  exact ⟨installed, pending, stored, writing⟩

theorem State.sectorsOrdered.takeStoreConfig (h : s.sectorsOrdered) (pr po : Byte) (d t : U16) :
    (s.takeStoreConfig pr po d t).1.sectorsOrdered := by
  obtain ⟨-, -, stored, writing⟩ := id h
  unfold State.takeStoreConfig
  repeat' split
  · exact h
  · exact h
  next settings _ =>
    have kept : State.sectorsOrdered { s with store := { s.store with settings := settings } } :=
      h.setStore stored writing
    exact h.setStore stored fun i hi => Option.some.inj hi ▸ kept.snapshot

theorem State.sectorsOrdered.writeCompletes (h : s.sectorsOrdered) (verified : Bool) :
    (s.writeCompletes verified).sectorsOrdered := by
  obtain ⟨-, -, -, writing⟩ := id h
  unfold State.writeCompletes
  split
  next image writes =>
    refine State.sectorsOrdered.of_eq (h.setStore (c := { s.store with
      writing := none, stored := if verified then .written image (u32Bytes image.check) else .failing })
      (fun i c hi => ?_) fun i idle => by cases idle) (by simp) (by simp)
    cases verified with
    | true => exact (StoredCopy.written.inj hi).1 ▸ writing image writes
    | false => cases hi
  next => exact h

theorem State.sectorsOrdered.loseWrite (h : s.sectorsOrdered) : s.loseWrite.sectorsOrdered := by
  unfold State.loseWrite
  split
  · exact h.setStore (fun i c failing => by cases failing) fun i idle => by cases idle
  · exact h

theorem State.sectorsOrdered.resetPart (h : s.sectorsOrdered) (device : Bool) : (s.resetPart device).sectorsOrdered := by
  obtain ⟨-, -, store⟩ := id h.loseWrite
  have fresh : s.loseWrite.fresh.sectorsOrdered := ⟨(tableOrdered_rearm _).2 h.loseWrite.load, nofun, store⟩
  have decided (u : State) : u.decide.sectors.core = u.sectors.core := by
    unfold State.decide State.stoppedAtReset; dsimp only; repeat' split
    all_goals simp
  unfold State.resetPart
  dsimp only
  refine State.sectorsOrdered.of_core ?_ (decided _) State.decide_core.2
  split
  all_goals exact fresh.of_eq (by simp [State.startTimers]) (by simp [State.startTimers])

theorem State.sectorsOrdered.invalidateRecord (h : s.sectorsOrdered) : s.invalidateRecord.sectorsOrdered :=
  h.of_core rfl rfl

theorem State.sectorsOrdered.deviceReset (h : s.sectorsOrdered) : s.deviceReset.sectorsOrdered :=
  h.invalidateRecord.resetPart true

/-! ### The panel port (chapter 9) -/

/-- The run requests answer through `runCheck`. -/
theorem State.runCheck_sectorCore {taken : Option (State × Answer)}
    (h : ∀ p, taken = some p → p.1.sectors.core = s.sectors.core) : (s.runCheck taken).1.sectors.core = s.sectors.core := by
  unfold State.runCheck
  split
  · rfl
  · cases taken with
    | none => rfl
    | some p => exact h p rfl

theorem State.runCheck_map_sectorCore {taken : Option State} {answer : State → Answer}
    (h : ∀ t, taken = some t → t.sectors.core = s.sectors.core) :
    (s.runCheck (taken.map fun t => (t, answer t))).1.sectors.core = s.sectors.core := by
  refine State.runCheck_sectorCore fun p hp => ?_
  obtain ⟨t, ht, rfl⟩ := Option.map_eq_some_iff.1 hp
  exact h t ht

theorem State.takeStartPass_sectorCore (s : State) (d : Byte) (p : U16) (pr : Byte) (sa : U16) (c : Byte) :
    (s.takeStartPass d p pr sa c).1.sectors.core = s.sectors.core := by
  refine State.runCheck_sectorCore fun q hq => ?_
  dsimp only at hq
  repeat' split at hq
  all_goals cases hq <;> simp

/-- The run requests leave what Law 8 looks at (R108). -/
theorem State.runRequests_sectorCore (s : State) :
    (∀ p, (s.takeSetPace p).1.sectors.core = s.sectors.core) ∧ s.takeStopPass.1.sectors.core = s.sectors.core ∧
    s.takeReverseRequest.1.sectors.core = s.sectors.core ∧ s.takeHold.1.sectors.core = s.sectors.core ∧
    s.takeResume.1.sectors.core = s.sectors.core ∧ s.takeTripReset.1.sectors.core = s.sectors.core := by
  refine ⟨fun p => State.runCheck_map_sectorCore fun t => s.takePace_sectorCore,
    State.runCheck_map_sectorCore fun t => s.takeStop_sectorCore,
    State.runCheck_map_sectorCore fun t => s.takeReverse_sectorCore, State.runCheck_sectorCore fun q hq => ?_,
    State.runCheck_sectorCore fun q hq => ?_, State.runCheck_sectorCore fun q hq => ?_⟩
  all_goals
    repeat' split at hq
    all_goals cases hq <;> simp

/-- Every request keeps Law 8. -/
theorem State.sectorsOrdered.serve (h : s.sectorsOrdered) (wake : Bool) (r : Request) :
    (s.serve wake r).1.sectorsOrdered := by
  obtain ⟨setPace, stopPass, reverse, hold, resume, tripReset⟩ := s.runRequests_sectorCore
  obtain ⟨readTower, -, -, readSectors, -, -, faultList, -⟩ := State.otherRequests_core (s := s)
  cases r with
  | configMachine p vs =>
    change (s.takeConfigMachine p vs).1.sectorsOrdered
    unfold State.takeConfigMachine
    exact h.takeWrite ..
  | configTower k p vs =>
    change (s.takeConfigTower k p vs).1.sectorsOrdered
    unfold State.takeConfigTower
    dsimp only
    split
    · exact h
    · exact h.takeWrite ..
  | storeConfig pr po d t => exact h.takeStoreConfig ..
  | setSectors m es => exact h.takeSetSectors m es
  | startPass d p pr sa c => exact h.of_core (State.takeStartPass_sectorCore ..) (State.takeStartPass_core ..).2
  | setPace p => exact h.of_core (setPace p) (State.takeSetPace_core p).2
  | stopPass => exact h.of_core stopPass State.takeStopPass_core.2
  | hold => exact h.of_core hold State.takeHold_core.2
  | resume => exact h.of_core resume State.takeResume_core.2
  | reverse => exact h.of_core reverse State.takeReverseRequest_core.2
  | tripReset => exact h.of_core tripReset State.takeTripReset_core.2
  | setFaultMode k m =>
    refine h.of_core ?_ (State.takeSetFaultMode_core k m).2
    change (s.takeSetFaultMode k m).1.sectors.core = s.sectors.core
    unfold State.takeSetFaultMode
    repeat' split
    all_goals simp
  | faultClear sel k t =>
    refine h.of_core ?_ (State.takeFaultClear_core ..).2
    change (s.takeFaultClear sel k t).1.sectors.core = s.sectors.core
    unfold State.takeFaultClear
    split <;> simp
  | readTower k => exact (readTower k).symm ▸ h
  | readSectors c n => exact (readSectors c n).symm ▸ h
  | faultList p => exact (faultList p).symm ▸ h
  | setWatch n en r w d c st a g rp =>
    change (s.takeSetWatch n en r w d c st a g rp).1.sectorsOrdered
    unfold State.takeSetWatch
    dsimp only
    repeat' split
    all_goals exact h.of_eq rfl rfl
  | setAux o m =>
    change (s.takeSetAux o m).1.sectorsOrdered
    unfold State.takeSetAux
    dsimp only
    repeat' split
    all_goals exact h.of_eq rfl rfl
  | setNoticePriority k p =>
    change (s.takeSetNoticePriority k p).1.sectorsOrdered
    unfold State.takeSetNoticePriority
    repeat' split
    all_goals exact h.of_eq rfl rfl
  | setNoticeMask l =>
    change (s.takeSetNoticeMask l).1.sectorsOrdered
    unfold State.takeSetNoticeMask
    split <;> exact h.of_eq rfl rfl
  | noticeFetch =>
    change s.takeNoticeFetch.1.sectorsOrdered
    unfold State.takeNoticeFetch
    dsimp only
    split <;> exact h.of_eq rfl rfl
  | setWakeFilter n u k sub p =>
    change (s.takeSetWakeFilter n u k sub p).1.sectorsOrdered
    unfold State.takeSetWakeFilter
    dsimp only
    repeat' split
    all_goals exact h.of_eq rfl rfl
  | panelSleep => exact h.of_eq rfl rfl
  | readMachine | readWatches | resetDevice | panelAwake | readPort | unknown | badLength => exact h

theorem State.sectorsOrdered.setPanel (h : s.sectorsOrdered) (p : PanelPort) :
    State.sectorsOrdered { s with panel := p } := h.of_eq rfl rfl

theorem State.sectorsOrdered.take (h : s.sectorsOrdered) (f : PanelFrame) : (s.take f).sectorsOrdered := by
  have heard : (s.noteTaken (parseRequest f)).sectorsOrdered := h.of_eq (by simp) (by simp)
  exact (heard.serve s.panel.wakeLine (parseRequest f)).of_eq rfl rfl

theorem State.sectorsOrdered.arrive (h : s.sectorsOrdered) (f : PanelFrame) : (s.arrive f).sectorsOrdered := by
  unfold State.arrive
  repeat' split
  · exact h.setPanel _
  · exact h.take f
  · exact h.setPanel _

theorem State.sectorsOrdered.transmit (h : s.sectorsOrdered) : s.transmit.sectorsOrdered :=
  h.of_eq (by simp) (by simp)

theorem State.sectorsOrdered.panelByte (h : s.sectorsOrdered) (b : Byte) : (s.panelByte b).sectorsOrdered := by
  have received := h.setPanel { s.panel with rx := (panelRxByte s.panel.rx b).1 }
  unfold State.panelByte
  dsimp only
  split
  · exact (received.arrive _).transmit
  · exact received

theorem State.sectorsOrdered.takeNext (h : s.sectorsOrdered) : s.takeNext.sectorsOrdered := by
  unfold State.takeNext
  split
  · exact (h.setPanel _).take _
  · exact h

theorem State.sectorsOrdered.replyEnds (h : s.sectorsOrdered) : s.replyEnds.sectorsOrdered := by
  unfold State.replyEnds
  repeat' split
  · exact h.deviceReset
  · exact (h.setPanel _).takeNext
  · exact h

theorem State.sectorsOrdered.submitFrame (h : s.sectorsOrdered) (f : PanelFrame) : (s.submitFrame f).sectorsOrdered := by
  unfold State.submitFrame
  split
  · exact (h.setPanel _).arrive f
  · exact h

/-! ### Every command -/

theorem event_sectorsOrdered {f : State → State} (h : s.sectorsOrdered) (hf : (f s).sectorsOrdered)
    (ht : event f s = .next t) : t.sectorsOrdered := by
  cases ht
  split
  · exact hf.transmit
  · exact h

/-- An event that keeps what Law 8 looks at. -/
theorem event_sectorsOrdered_of_core {f : State → State} (h : s.sectorsOrdered)
    (sectors : (f s).sectors.core = s.sectors.core) (store : (f s).store.core = s.store.core)
    (ht : event f s = .next t) : t.sectorsOrdered :=
  event_sectorsOrdered h (h.of_core sectors store) ht

theorem State.sectorsOrdered.setInputs (h : s.sectorsOrdered) (i : Inputs) :
    State.sectorsOrdered { s with inputs := i } := h.of_eq rfl rfl

/-- Every command keeps Law 8. -/
theorem exec_sectorsOrdered (c : Instr) (h : s.sectorsOrdered) (ht : exec c s = .next t) : t.sectorsOrdered := by
  obtain ⟨prestart, startFail, stopTime, recovery⟩ := h.runExpiries
  obtain ⟨frameEnds, slotEnds, quiet, survey⟩ := h.slotEvents
  cases frame : c.frame with
  | some f =>
    rw [exec_of_frame frame] at ht
    exact event_sectorsOrdered h (h.submitFrame f) ht
  | none =>
    cases c with
    | panelFrameComplete bytes =>
      exact event_sectorsOrdered (f := fun s => bytes.foldl State.panelByte s) h
        (.foldl (fun b hu => hu.panelByte b) bytes h) ht
    | panelFrameGap b =>
      exact event_sectorsOrdered (f := fun s => ({ s with panel := { s.panel with rx := [] } } : State).panelByte b) h
        ((h.setPanel _).panelByte b) ht
    | panelFrameLengthAbove120 b =>
      refine event_sectorsOrdered h ?_ ht
      split
      · exact h.panelByte b
      · exact h
    | replySent => exact event_sectorsOrdered h h.replyEnds ht
    | noticeFrameSent =>
      refine event_sectorsOrdered h ?_ ht
      unfold State.noticeEnds
      split
      · exact h.setPanel _
      · exact h
    | panelSilenceExpiry => exact event_sectorsOrdered_of_core h (by simp) s.silenceExpires_core.2 ht
    | driveIntervalExpiry => exact event_sectorsOrdered h h.intervalExpires ht
    | slotEnd => exact event_sectorsOrdered h slotEnds ht
    | spanFrameSent => exact event_sectorsOrdered h frameEnds ht
    | quietTimerExpiry => exact event_sectorsOrdered h quiet ht
    | surveyTimerExpiry => exact event_sectorsOrdered h survey ht
    | replyWindowExpiry => exact event_sectorsOrdered h h.windowExpires ht
    | reportReceived bytes =>
      exact event_sectorsOrdered (f := fun s => bytes.foldl State.spanByte s) h
        (.foldl (fun b hu => hu.spanByte b) bytes h) ht
    | spanFrameGap b =>
      refine event_sectorsOrdered (f := fun s => ({ s with span := { s.span with rx := [] } } : State).spanByte b) h
        (State.sectorsOrdered.spanByte ?_ b) ht
      exact h.of_eq rfl rfl
    | spanFrameKindNotReport b =>
      refine event_sectorsOrdered h ?_ ht
      split
      · exact h.spanByte b
      · exact h
    | stallTimerExpiry k => exact event_sectorsOrdered_of_core h (by simp) (s.stallTimerExpires_core k).2 ht
    | sampleTimerExpiry => exact event_sectorsOrdered_of_core h rfl rfl ht
    | encoderReadComplete q e o => exact event_sectorsOrdered h (h.readCompletes q e o) ht
    | encoderReadTimeout =>
      refine event_sectorsOrdered h ?_ ht
      unfold State.readTimesOut
      split
      · exact h.of_core (by simp) (by simp)
      · exact h
    | prestartTimerExpiry => exact event_sectorsOrdered h prestart ht
    | startFailTimerExpiry => exact event_sectorsOrdered h startFail ht
    | stopTimerExpiry => exact event_sectorsOrdered h stopTime ht
    | recoveryTimerExpiry => exact event_sectorsOrdered h recovery ht
    | chainSenseChange closed =>
      change execChainSenseChange closed s = _ at ht
      unfold execChainSenseChange at ht
      split at ht
      · cases ht; exact h
      · exact event_sectorsOrdered_of_core (h.setInputs _) (State.chainChanged_sectorCore _) (State.chainChanged_core _).2 ht
    | powerFailAssert =>
      change execPowerFailAssert s = _ at ht
      unfold execPowerFailAssert at ht
      split at ht
      · cases ht; exact h
      · exact event_sectorsOrdered_of_core (h.setInputs _) (State.powerFails_sectorCore _) (State.powerFails_core _).2 ht
    | powerFailDeassert =>
      change execPowerFailDeassert s = _ at ht
      unfold execPowerFailDeassert at ht
      split at ht
      · exact event_sectorsOrdered (h.setInputs _) (h.setInputs _).powerReturns ht
      · cases ht; exact h
    | powerOnReset check =>
      cases ht
      refine State.sectorsOrdered.transmit (State.sectorsOrdered.resetPart ?_ false)
      split
      · exact h
      · exact h.invalidateRecord
    | deviceReset => exact event_sectorsOrdered h h.deviceReset ht
    | supplyLoss => cases ht; exact h.loseWrite.of_eq rfl rfl
    | storeWriteComplete verified => exact event_sectorsOrdered h (h.writeCompletes verified) ht
    | _ => cases frame

/-- Settles O6: a table becomes pending after the validation of R110, installed from the pending one or a stored image, and
stored from one of these two; approach marks are no matter to Law 8. -/
theorem sectorTablesStayOrdered : Obligations.SectorTablesStayOrdered := by
  intro s t h ht
  unfold step at ht
  split at ht
  next c rest _ =>
    have popped : State.sectorsOrdered { s with pending := rest } := h.of_eq rfl rfl
    exact exec_sectorsOrdered c popped ht
  · cases ht
    unfold State.tick
    split
    · exact h.of_eq rfl rfl
    · exact h

end Sys2Proof.Machine
end

section
/-! SUPPORT. The barrier checks of a sample (R113, R114): a barrier that holds an angle, and one whose action fires. -/

namespace Sys2Proof.Machine

theorem Sector.isBarrier_iff (c : Sector) : c.isBarrier = true ↔ ∃ m a l t, c.body = .barrier m a l t := by
  unfold Sector.isBarrier
  cases c.body <;> simp

/-- The overrun check looks for a barrier that contains the angle. -/
theorem Sector.overrun_iff (c : Sector) (q : Nat) : (c.isBarrier && c.contains q) = true ↔
    (∃ m a l t, c.body = .barrier m a l t) ∧
      ((q : Int) - c.start) % 36000 < ((c.finish : Int) - c.start) % 36000 := by
  rw [Bool.and_eq_true, c.isBarrier_iff, c.contains_eq, decide_eq_true_eq]

/-- In a FORWARD pass a barrier fires by its lead zone. -/
theorem Sector.fires_forward (c : Sector) (q : Nat) : c.fires .forward q = true ↔
    ∃ m a l t, c.body = .barrier m a l t ∧
      1 ≤ ((c.start : Int) - q) % 36000 ∧ ((c.start : Int) - q) % 36000 ≤ m ∧ l = .armed := by
  rw [← arc_cast]
  unfold Sector.fires Sector.ahead Sector.inLead Sector.mark
  cases c.body with
  | cap v => simp
  | barrier m a l t => simp [and_comm, and_assoc]

/-- In a REVERSE pass a barrier fires by its trail zone. -/
theorem Sector.fires_reverse (c : Sector) (q : Nat) : c.fires .reverse q = true ↔
    ∃ m a l t, c.body = .barrier m a l t ∧ ((q : Int) - c.finish) % 36000 < m ∧ t = .armed := by
  rw [← arc_cast]
  unfold Sector.fires Sector.ahead Sector.inTrail Sector.mark
  cases c.body with
  | cap v => simp
  | barrier m a l t => simp [and_comm]

/-- A barrier's action, by the action it carries. -/
theorem State.barrierAct_barrier (s : State) {c : Sector} {m : Nat} {a : BarrierAction} {l t : ApproachMark} :
    c.body = .barrier m a l t → s.barrierAct c = match a with
      | .stop => s.enterStopping .stopped (some .barrier)
      | .reverse => s.enterStopping .reversing none := by
  intro body
  unfold State.barrierAct
  rw [body]
  cases a <;> rfl

variable {s : State} {d : Direction} {q : Nat}

theorem State.approachCheck_none (h : s.run.mstate ≠ .running ∨ ∀ c ∈ s.sectors.installed, c.fires d q = false) :
    s.approachCheck d q = s := by
  unfold State.approachCheck
  by_cases running : s.run.mstate = .running
  · rw [if_pos running, (fireFirst_eq_none d q _).2 (h.resolve_left (not_not.2 running))]
  · exact if_neg running

/-- In RUNNING the first barrier that fires takes a FIRED mark and acts, and the examination stops (R114). -/
theorem State.approachCheck_fires {before after : List Sector} {c : Sector} (running : s.run.mstate = .running)
    (table : s.sectors.installed = before ++ c :: after) (clear : ∀ b ∈ before, b.fires d q = false)
    (fires : c.fires d q = true) : s.approachCheck d q = ({ s with sectors := { s.sectors with
      installed := before ++ c.setMark d .fired :: after } } : State).barrierAct c := by
  have first : fireFirst d q s.sectors.installed = some (before ++ c.setMark d .fired :: after, c) :=
    (fireFirst_eq_some ..).2 ⟨before, after, table, rfl, fires, clear⟩
  unfold State.approachCheck
  rw [if_pos running, first]

/-- Settles O38: the overrun check by the state and the barriers that contain the angle, the approach check by the first
barrier that fires. -/
theorem barriersTripOrFire : Obligations.BarriersTripOrFire := by
  intro s d q inside fires inBarrier
  have contained : (s.sectors.installed.any fun c => c.isBarrier && c.contains q) = true ↔ inBarrier := by
    rw [List.any_eq_true]
    exact exists_congr fun c => and_congr_right fun _ => c.overrun_iff q
  have fires_iff (c : Sector) : c.fires d q = true ↔ fires c := by
    cases d
    · exact c.fires_forward q
    · exact c.fires_reverse q
  have quiet {cs : List Sector} (h : ∀ c ∈ cs, ¬ fires c) : ∀ c ∈ cs, c.fires d q = false := fun c hc =>
    Bool.eq_false_iff.2 fun fired => h c hc ((fires_iff c).1 fired)
  refine ⟨fun moves here => ?_, fun clear => ?_, fun clear => State.approachCheck_none (clear.imp_right quiet),
    fun before c after m a l t running table clear fired body => ?_⟩
  · refine if_pos ?_
    rw [Bool.and_eq_true, MState.moving_iff, contained]
    exact ⟨moves, here⟩
  · refine if_neg ?_
    rw [Bool.and_eq_true, MState.moving_iff, contained]
    rintro ⟨moves, here⟩
    exact clear.elim (fun still => moves.elim still.1 still.2) (absurd here)
  · dsimp only
    rw [State.approachCheck_fires running table (quiet clear) ((fires_iff c).2 fired), State.barrierAct_barrier _ body]
    unfold Sector.setMark
    rw [body]
    cases d <;> rfl

end Sys2Proof.Machine
end

section
/-! SUPPORT. SET_SECTORS (R109, R110): the sector that an entry describes, what a part does with the build list, and when its
closing part becomes the pending table. -/

namespace Sys2Proof.Machine

/-! ### The request and its frame -/

theorem entriesOf_flatMap_entryBytes (es : List SectorEntry) : entriesOf (es.flatMap entryBytes) = some es := by
  induction es with
  | nil => rfl
  | cons e es ih =>
    change (entriesOf (es.flatMap entryBytes)).map (⟨u16 (loByte e.start) (hiByte e.start),
      u16 (loByte e.finish) (hiByte e.finish), u16 (loByte e.value) (hiByte e.value)⟩ :: ·) = _
    simp only [ih, u16_loByte_hiByte, Option.map_some]

theorem parseRequest_setSectors {marks : Byte} {entries : List SectorEntry} (fits : entries.length ≤ 19) :
    parseRequest (frameOf (.setSectors marks entries)) = .setSectors marks entries := by
  change (match entriesOf (entries.flatMap entryBytes) with
    | some es => if es.length ≤ 19 then Request.setSectors marks es else .badLength 0x20
    | none => .badLength 0x20) = _
  rw [entriesOf_flatMap_entryBytes]
  exact if_pos fits

variable {s : State} {marks : Byte} {entries : List SectorEntry}

/-- SET_SECTORS is answered by the sector table. -/
theorem exec_setSectors (ready : s.receptive) (fits : entries.length ≤ 19) {u : State} {a : Answer}
    (taken : (s.heard (.setSectors marks entries)).takeSetSectors marks entries = (u, a)) :
    exec (.setSectors marks entries) s = .next (u.replying 0x20 a).transmit := by
  obtain ⟨short, -⟩ := Laws.FrameFits.setSectors marks entries _ rfl (by simpa [WellFormed] using fits)
  exact exec_answered ready rfl short (parseRequest_setSectors fits) fun _ => congrArg (Prod.map id some) taken

/-! ### The branches of a part (R109, R110) -/

/-- The entries of a part describe sectors, all of them. -/
theorem mapM_sectorOf_eq_some {es : List Sector} :
    entries.mapM sectorOf = some es ↔ entries.map sectorOf = es.map some := by
  induction entries generalizing es with
  | nil => cases es <;> simp
  | cons e entries ih =>
    cases es <;> simp [List.mapM_cons, Option.bind_eq_some_iff, ih]

theorem mapM_sectorOf_eq_none (h : ∃ e ∈ entries, sectorOf e = none) : entries.mapM sectorOf = none := by
  obtain ⟨e, mem, stray⟩ := h
  refine Option.eq_none_iff_forall_ne_some.2 fun es described => ?_
  have : none ∈ es.map some := mapM_sectorOf_eq_some.1 described ▸ stray ▸ List.mem_map_of_mem mem
  simp at this

/-- The build list once a part's sectors are collected (R109). -/
def State.collected (s : State) (marks : Byte) (es : List Sector) : List Sector :=
  (if marks.getLsbD 0 then [] else s.sectors.build.getD []) ++ es

theorem State.takeSetSectors_discontinuous (first : marks.getLsbD 0 = false) (absent : s.sectors.build = none) :
    s.takeSetSectors marks entries = s.abandonBuild := by
  unfold State.takeSetSectors
  refine if_pos ?_
  rw [first, absent]
  rfl

/-- Check 1 of R109 is passed by a first part, or where a build list is present. -/
theorem State.continuous_iff : ¬ (!marks.getLsbD 0 && s.sectors.build.isNone) = true ↔
    marks.getLsbD 0 = true ∨ s.sectors.build ≠ none := by
  simp [or_iff_not_imp_left, ← Option.isSome_iff_ne_none]

theorem State.takeSetSectors_stray (continuous : marks.getLsbD 0 = true ∨ s.sectors.build ≠ none)
    (stray : ∃ e ∈ entries, sectorOf e = none) : s.takeSetSectors marks entries = s.abandonBuild := by
  unfold State.takeSetSectors
  dsimp only
  rw [if_neg (State.continuous_iff.2 continuous), mapM_sectorOf_eq_none stray]

/-- A part whose entries all describe sectors is collected, and the closing part judged (R109, R110). -/
theorem State.takeSetSectors_collects (continuous : marks.getLsbD 0 = true ∨ s.sectors.build ≠ none) {es : List Sector}
    (described : entries.map sectorOf = es.map some) : s.takeSetSectors marks entries =
      if 24 < (s.collected marks es).length then s.abandonBuild
      else if !marks.getLsbD 1 then
        ({ s with sectors := { s.sectors with build := some (s.collected marks es) } },
          .ok (.sectorCount (s.collected marks es).length))
      else if validTable (s.collected marks es) = true then
        ({ s with sectors := { s.sectors with build := none, pending := some (s.collected marks es) } },
          .ok (.sectorCount (s.collected marks es).length))
      else s.abandonBuild := by
  unfold State.takeSetSectors
  dsimp only
  rw [if_neg (State.continuous_iff.2 continuous), mapM_sectorOf_eq_some.2 described]
  rfl

/-! ### What an entry describes (R107, R109, 11.4) -/

/-- The value word of an entry: bit 15 the kind, bit 14 the action, the rest the value. -/
theorem entryWord_fields {k v : Nat} (hk : k < 4) (hv : v < 16384) :
    (BitVec.ofNat 16 (16384 * k + v)).toNat % 16384 = v ∧
      (BitVec.ofNat 16 (16384 * k + v)).getLsbD 15 = decide (2 ≤ k) ∧
      (BitVec.ofNat 16 (16384 * k + v)).getLsbD 14 = decide (k % 2 = 1) := by
  simp only [BitVec.toNat_ofNat, BitVec.getLsbD, Nat.testBit_eq_decide_div_mod_eq, decide_eq_decide]
  omega

variable {a b : U16} {v : Nat}

theorem sectorOf_badAngles {e : SectorEntry}
    (h : ¬ (e.start.toNat < 36000 ∧ e.finish.toNat < 36000 ∧ e.start.toNat ≠ e.finish.toNat)) : sectorOf e = none := by
  simp [sectorOf, h]

/-- An entry of kind CAP. -/
theorem sectorOf_cap (hv : v < 16384) (ha : a.toNat < 36000) (hb : b.toNat < 36000) (ne : a.toNat ≠ b.toNat) :
    sectorOf ⟨a, b, BitVec.ofNat 16 v⟩ = if v ≤ 1000 then some ⟨a.toNat, b.toNat, .cap v⟩ else none := by
  obtain ⟨value, kind, -⟩ := entryWord_fields (k := 0) (by omega) hv
  rw [Nat.mul_zero, Nat.zero_add] at value kind
  simp only [sectorOf, value, kind]
  simp [ha, hb, ne]

/-- An entry of kind BARRIER. -/
theorem sectorOf_barrier (hv : v < 16384) (ha : a.toNat < 36000) (hb : b.toNat < 36000) (ne : a.toNat ≠ b.toNat) {k : Nat}
    (hk : k = 2 ∨ k = 3) : sectorOf ⟨a, b, BitVec.ofNat 16 (16384 * k + v)⟩ = if v ≤ 3000 then
      some ⟨a.toNat, b.toNat, .barrier v (if k = 3 then .reverse else .stop) .armed .armed⟩ else none := by
  obtain ⟨value, kind, action⟩ := entryWord_fields (k := k) (by omega) hv
  simp only [sectorOf, value, kind, action]
  rcases hk with rfl | rfl <;> simp [ha, hb, ne]

/-- Settles O37: the branches of `State.takeSetSectors`, and the entries by the bits of their value word. -/
theorem setSectorsBuildsAPendingTable : Obligations.SetSectorsBuildsAPendingTable := by
  refine ⟨fun s marks entries ready fits => ?_, fun a b v hv ha hb ne => ?_⟩
  · intro h first last list built
    have same : h.sectors = s.sectors := s.heard_sectors _
    have collected (es : List Sector) : h.collected marks es = list es := by rw [State.collected, same]
    have refused (taken : h.takeSetSectors marks entries = h.abandonBuild) :
        built none s.sectors.pending (.fail .badValue) := by
      refine exec_setSectors ready fits (taken.trans ?_)
      rw [State.abandonBuild, same]
    refine ⟨fun later absent => refused (State.takeSetSectors_discontinuous later (same ▸ absent)),
      fun continuous => ?_⟩
    have continuous : marks.getLsbD 0 = true ∨ h.sectors.build ≠ none := same ▸ continuous
    refine ⟨fun stray => refused (State.takeSetSectors_stray continuous stray), fun es described => ?_⟩
    have taken := State.takeSetSectors_collects continuous described
    rw [collected] at taken
    refine ⟨fun long => refused (taken.trans (if_pos long)), fun short => ?_⟩
    replace taken := taken.trans (if_neg (Nat.not_lt.2 short))
    have goesOn (h : last = false) : (!last) = true := congrArg (!·) h
    have closes (h : last = true) : ¬ (!last) = true := Bool.not_eq_true _ ▸ congrArg (!·) h
    refine ⟨fun more => exec_setSectors ready fits ((taken.trans (if_pos (goesOn more))).trans ?_),
      fun closing invalid => refused ((taken.trans (if_neg (closes closing))).trans (if_neg ?_)),
      fun closing valid => exec_setSectors ready fits
        (((taken.trans (if_neg (closes closing))).trans (if_pos ?_)).trans ?_)⟩
    · rw [same]
    · exact mt (validTable_iff_tableOrdered _).1 invalid
    · exact (validTable_iff_tableOrdered _).2 valid
    · rw [same]
  · intro word
    have ne : a.toNat ≠ b.toNat := fun eq => ne (BitVec.eq_of_toNat_eq eq)
    have plain : word 0 = BitVec.ofNat 16 v := congrArg (BitVec.ofNat 16) (Nat.zero_add v)
    have cap := (congrArg (sectorOf ⟨a, b, ·⟩) plain).trans (sectorOf_cap hv ha hb ne)
    have stop := sectorOf_barrier hv ha hb ne (.inl rfl)
    have reverse := sectorOf_barrier hv ha hb ne (.inr rfl)
    exact ⟨fun low => cap.trans (if_pos low), fun high => cap.trans (if_neg (by omega)),
      fun low => ⟨stop.trans (if_pos low), reverse.trans (if_pos low)⟩,
      fun high => ⟨stop.trans (if_neg (by omega)), reverse.trans (if_neg (by omega))⟩,
      fun w => ⟨sectorOf_badAngles fun ⟨_, _, differ⟩ => differ rfl, fun c out =>
        ⟨sectorOf_badAngles fun ⟨_, finish, _⟩ => Nat.not_lt.2 out finish,
          sectorOf_badAngles fun ⟨start, _⟩ => Nat.not_lt.2 out start⟩⟩⟩

end Sys2Proof.Machine
end

section
/-! SUPPORT. The angle watches and auxiliary outputs (chapter 7): a window as an arc (R122), the selectors of an entry (R125),
and the requests SET_WATCH and SET_AUX (R120, R130), with the obligations O41, O42, O39 and O40. -/

namespace Sys2Proof.Machine

/-! ### The window as an arc (R122) -/

/-- The angle difference, by the forward arc counted from 0 up. -/
theorem angleDiff_eq {a b : Nat} (ha : a < 36000) (hb : b < 36000) : angleDiff a b =
    if (b + 36000 - a) % 36000 ≤ 18000 then (((b + 36000 - a) % 36000 : Nat) : Int)
    else (((b + 36000 - a) % 36000 : Nat) : Int) - 36000 := by
  unfold angleDiff
  dsimp only
  omega

/-- Settles O41: the window is the half-width ahead of the reference angle and behind it, and the arcs are counted modulo
36000. -/
theorem watchWindowsAreArcs : Obligations.WatchWindowsAreArcs := by
  intro w ref half ahead d lower upper
  refine ⟨fun short => ?_, fun point => ?_, fun x hx => ?_⟩
  · simp only [ahead, lower, upper]
    omega
  · simp only [lower, upper]
    omega
  · have window := w.inside_iff ref hx
    refine ⟨?_, fun short => ?_, fun point => ?_, fun wide => ?_, fun whole => ?_⟩
    · rw [WatchConfig.inside, decide_eq_true_eq, angleDiff_eq ref hx]
    · rw [window]
      simp only [ahead, lower]
      omega
    · rw [window]
      omega
    · rw [← Bool.not_eq_true, window]
      omega
    · rw [window]
      omega

/-! ### Selectors (R125) -/

theorem CrossSelector.admits_iff (sel : CrossSelector) (c : Crossing) : sel.admits c = true ↔
    sel = .both ∨ (sel = .enter ∧ c = .enter) ∨ (sel = .leave ∧ c = .leave) := by
  cases sel <;> cases c <;> decide

theorem DirSelector.admits_iff (sel : DirSelector) (d : Direction) : sel.admits d = true ↔
    sel = .both ∨ (sel = .forward ∧ d = .forward) ∨ (sel = .reverse ∧ d = .reverse) := by
  cases sel <;> cases d <;> decide

theorem StateSelector.admits_iff (sel : StateSelector) (m : MState) : sel.admits m = true ↔
    sel = .any ∨ (sel = .running ∧ m = .running) ∨ (sel = .moving ∧ (m = .running ∨ m = .stopping)) := by
  cases sel <;> cases m <;> decide

theorem Watch.live_iff (w : Watch) : w.live = true ↔ w.cfg.enabled = true ∧ w.spent = false := by
  rw [Watch.live, Bool.and_eq_true, Bool.not_eq_true']

theorem WatchConfig.admits_iff (w : WatchConfig) (c : Crossing) (d : Direction) (m : MState) : w.admits c d m = true ↔
    w.crossing.admits c = true ∧ w.direction.admits d = true ∧ w.mstate.admits m = true := by
  rw [WatchConfig.admits, Bool.and_eq_true, Bool.and_eq_true, and_assoc]

/-- Settles O42: the test of a crossing is the entry's liveness and its three selectors, and NONE is no value that a selector
admits. -/
theorem liveEntriesMatchTheirSelectors : Obligations.LiveEntriesMatchTheirSelectors := by
  rintro s n c d w rfl m crossing direction mstate fires
  have tested : ((s.watchEntry n).live && (s.watchEntry n).cfg.admits c d s.run.mstate) = true ↔ fires := by
    rw [Bool.and_eq_true, Watch.live_iff, WatchConfig.admits_iff, CrossSelector.admits_iff, DirSelector.admits_iff,
      StateSelector.admits_iff, and_assoc]
  have traceless (quiet : ¬ fires) : s.testCrossing n d c = s := if_neg (mt tested.1 quiet)
  refine ⟨fun fired => if_pos (tested.2 fired), traceless, fun unselected => traceless ?_⟩
  rintro ⟨-, -, across, along, within⟩
  rcases unselected with none | none | none
  · simp [crossing, none] at across
  · simp [direction, none] at along
  · simp [mstate, none] at within

/-! ### Codes that name a value (11.5, R183) -/

section Codes

variable {b : Byte}

theorem markOf_eq_some {m : Bool} : markOf b = some m ↔ b.toNat ≤ 1 ∧ m = decide (b = 1) := by
  have one : b = 1 ↔ b.toNat = 1 := BitVec.toNat_inj.symm
  simp only [one]
  unfold markOf
  split <;> grind

theorem dirSelectorOf_isSome : (dirSelectorOf b).isSome = true ↔ b.toNat ≤ 3 := by
  unfold dirSelectorOf
  split <;> grind

theorem crossSelectorOf_isSome : (crossSelectorOf b).isSome = true ↔ b.toNat ≤ 3 := by
  unfold crossSelectorOf
  split <;> grind

theorem stateSelectorOf_isSome : (stateSelectorOf b).isSome = true ↔ b.toNat ≤ 3 := by
  unfold stateSelectorOf
  split <;> grind

theorem auxModeOf_isSome : (auxModeOf b).isSome = true ↔ b.toNat ≤ 2 := by
  unfold auxModeOf
  split <;> grind

/-- An action code is at most 5, and AUX_ON and AUX_OFF name an output (R120). -/
theorem watchActionOf_isSome {arg : U16} : (watchActionOf b arg).isSome = true ↔
    b.toNat ≤ 5 ∧ (b = 1 ∨ b = 2 → 1 ≤ arg.toNat ∧ arg.toNat ≤ 4) := by
  have on : b = 1 ↔ b.toNat = 1 := BitVec.toNat_inj.symm
  have off : b = 2 ↔ b.toNat = 2 := BitVec.toNat_inj.symm
  rw [on, off]
  unfold watchActionOf
  dsimp only
  split <;> grind

end Codes

/-! ### SET_WATCH (R120) -/

section SetWatch

variable {s : State} {n en : Byte} {ref hw : U16} {d c st a : Byte} {arg : U16} {rp : Byte}

/-- SET_WATCH is answered by the watch unit. -/
theorem exec_setWatch (ready : s.receptive) {u : State} {r : Answer}
    (taken : (s.heard (.setWatch n en ref hw d c st a arg rp)).takeSetWatch n en ref hw d c st a arg rp = (u, r)) :
    exec (.setWatch n en ref hw d c st a arg rp) s = .next (u.replying 0x28 r).transmit := by
  obtain ⟨fits, -⟩ := Laws.FrameFits.setWatch n en ref hw d c st a arg rp _ rfl rfl
  have parsed : parseRequest (frameOf (.setWatch n en ref hw d c st a arg rp)) = .setWatch n en ref hw d c st a arg rp := by
    change Request.setWatch n en (u16 (loByte ref) (hiByte ref)) (u16 (loByte hw) (hiByte hw)) d c st a
      (u16 (loByte arg) (hiByte arg)) rp = _
    simp only [u16_loByte_hiByte]
  exact exec_answered ready rfl fits parsed fun _ => congrArg (Prod.map id some) taken

/-- The fields carried give a configuration where each names a value and the angles are in range. -/
theorem watchConfigOf_eq_some {cfg : WatchConfig} : watchConfigOf en ref hw d c st a arg rp = some cfg ↔
    ∃ enabled, markOf en = some enabled ∧ ∃ ds, dirSelectorOf d = some ds ∧ ∃ cs, crossSelectorOf c = some cs ∧
      ∃ ss, stateSelectorOf st = some ss ∧ ∃ act, watchActionOf a arg = some act ∧ ∃ always, markOf rp = some always ∧
        (ref.toNat < 36000 ∧ hw.toNat ≤ 18000) ∧ ⟨enabled, ref.toNat, hw.toNat, ds, cs, ss, act, !always⟩ = cfg := by
  simp only [watchConfigOf, Option.bind_eq_bind, Option.bind_eq_some_iff, Option.ite_none_right_eq_some,
    Option.some.injEq]

/-- A configuration is given only where every field is in range. -/
theorem watchConfigOf_inRange (h : watchConfigOf en ref hw d c st a arg rp ≠ none) :
    en.toNat ≤ 1 ∧ ref.toNat < 36000 ∧ hw.toNat ≤ 18000 ∧ d.toNat ≤ 3 ∧ c.toNat ≤ 3 ∧ st.toNat ≤ 3 ∧ a.toNat ≤ 5 ∧
      rp.toNat ≤ 1 ∧ (a = 1 ∨ a = 2 → 1 ≤ arg.toNat ∧ arg.toNat ≤ 4) := by
  obtain ⟨cfg, h⟩ := Option.ne_none_iff_exists'.1 h
  obtain ⟨enabled, mark, ds, direction, cs, crossing, ss, mstate, act, action, always, rept, ⟨angle, half⟩, -⟩ :=
    watchConfigOf_eq_some.1 h
  obtain ⟨code, output⟩ := watchActionOf_isSome.1 (Option.isSome_of_eq_some action)
  exact ⟨(markOf_eq_some.1 mark).1, angle, half, dirSelectorOf_isSome.1 (Option.isSome_of_eq_some direction),
    crossSelectorOf_isSome.1 (Option.isSome_of_eq_some crossing),
    stateSelectorOf_isSome.1 (Option.isSome_of_eq_some mstate), code, (markOf_eq_some.1 rept).1, output⟩

theorem State.takeSetWatch_stray (h : (1 ≤ n.toNat ∧ n.toNat ≤ 8) → watchConfigOf en ref hw d c st a arg rp = none) :
    s.takeSetWatch n en ref hw d c st a arg rp = (s, .fail .badValue) := by
  unfold State.takeSetWatch
  dsimp only
  by_cases real : 1 ≤ n.toNat ∧ n.toNat ≤ 8
  · rw [if_neg (by omega), h real]
  · rw [if_pos (by omega)]

theorem State.takeSetWatch_some {cfg : WatchConfig} (low : 1 ≤ n.toNat) (high : n.toNat ≤ 8)
    (given : watchConfigOf en ref hw d c st a arg rp = some cfg) : s.takeSetWatch n en ref hw d c st a arg rp =
      ({ s with watch := { s.watch with entries := setNth s.watch.entries n.toNat ⟨cfg, false, 0⟩ } }, .ok) := by
  unfold State.takeSetWatch
  dsimp only
  rw [if_neg (by omega), given]

end SetWatch

/-- Settles O39: the fields carried give a configuration exactly where all of them are in range. -/
theorem setWatchReplacesAnEntry : Obligations.SetWatchReplacesAnEntry := by
  intro s n en ref hw d c st a arg rp ready i h fits
  refine ⟨fun stray => exec_setWatch ready (State.takeSetWatch_stray fun real => ?_),
    fun ds cs ss act inRange direction crossing mstate action => ?_⟩
  · by_contra given
    exact stray ⟨real.1, real.2, watchConfigOf_inRange given⟩
  · obtain ⟨low, high, mark, angle, half, -, -, -, -, rept, -⟩ := inRange
    intro w u
    have once : (!decide (rp = 1)) = decide (rp = 0) := by
      obtain rfl | rfl : rp = 0 ∨ rp = 1 := by bv_omega
      · rfl
      · rfl
    have given : watchConfigOf en ref hw d c st a arg rp = some w.cfg := watchConfigOf_eq_some.2
      ⟨_, markOf_eq_some.2 ⟨mark, rfl⟩, ds, direction, cs, crossing, ss, mstate, act, action, _,
        markOf_eq_some.2 ⟨rept, rfl⟩, ⟨angle, half⟩, by rw [once]⟩
    refine exec_setWatch ready ((State.takeSetWatch_some low high given).trans ?_)
    rw [s.heard_watch]

/-! ### SET_AUX (R130) -/

section SetAux

variable {s : State} {output mode : Byte}

/-- SET_AUX is answered by the watch unit. -/
theorem exec_setAux (ready : s.receptive) {u : State} {a : Answer}
    (taken : (s.heard (.setAux output mode)).takeSetAux output mode = (u, a)) :
    exec (.setAux output mode) s = .next (u.replying 0x2A a).transmit := by
  obtain ⟨fits, -⟩ := Laws.FrameFits.setAux output mode _ rfl rfl
  exact exec_answered ready rfl fits (r := .setAux output mode) rfl fun _ => congrArg (Prod.map id some) taken

theorem State.takeSetAux_stray (stray : output.toNat < 1 ∨ 4 < output.toNat ∨ 2 < mode.toNat) :
    s.takeSetAux output mode = (s, .fail .badValue) := by
  unfold State.takeSetAux
  dsimp only
  cases named : auxModeOf mode with
  | none => rfl
  | some m =>
    have := auxModeOf_isSome.1 (Option.isSome_of_eq_some named)
    exact if_pos (by omega)

theorem State.takeSetAux_some {n : Fin 4} {m : AuxMode} (place : output.toNat = n.val + 1)
    (named : auxModeOf mode = some m) : s.takeSetAux output mode =
      ({ s with watch := { s.watch with aux := s.watch.aux.set n { s.watch.aux[n] with mode := m } } }, .ok) := by
  have low : 1 ≤ n.val + 1 := by omega
  have high : n.val + 1 ≤ 4 := by omega
  unfold State.takeSetAux
  rw [named, place]
  dsimp only
  rw [if_neg (by omega), nth_of_mem _ low high, setNth, dif_pos ⟨low, high⟩]
  rfl

end SetAux

/-- Settles O40: the branches of `State.takeSetAux`, on what hearing the request leaves. -/
theorem setAuxSetsTheMode : Obligations.SetAuxSetsTheMode := by
  refine fun s output mode ready => ⟨fun stray => exec_setAux ready (State.takeSetAux_stray stray),
    fun n m place named => exec_setAux ready ((State.takeSetAux_some place named).trans ?_)⟩
  simp only [State.heard_watch]

end Sys2Proof.Machine
end

section
/-! SUPPORT. A raising (R136 to R140, R145): the record that it repeats, creates or creates in the place of another, then what
it does to the slip-frozen flag, its FAULT notice and its action (O32). -/

namespace Sys2Proof.Machine

variable {s : State} {k : FaultKind} {t : Option Nat}

/-! ### The list and one of its records (R133, R136) -/

/-- The part with another list of records. -/
def State.listing (s : State) (rs : List FaultRecord) : State := { s with faults := { s.faults with records := rs } }

theorem State.faultRecord_eq_none : s.faultRecord k t = none ↔ ∀ r ∈ s.faults.records, r.key ≠ (k, t) := by
  simp [State.faultRecord, FaultRecord.key]

variable {before after : List FaultRecord} {r : FaultRecord}

/-- In a list without two records alike, a record is the only one of its kind and tower. -/
theorem State.alone_of_split (distinct : s.faultsDistinct) (split : s.faults.records = before ++ r :: after) :
    ∀ e ∈ before ++ after, (e.kind == r.kind && e.tower == r.tower) = false := by
  have keys := distinct.2
  rw [split, List.map_append, List.map_cons, List.nodup_middle, List.nodup_cons, ← List.map_append] at keys
  intro e mem
  have other : e.key ≠ r.key := fun same => keys.1 (same ▸ List.mem_map_of_mem mem)
  simpa [FaultRecord.key] using other

section OneRecord

variable {p : FaultRecord → Bool} (here : p r = true)
include here

/-- The first record of a list that passes a test. -/
theorem find?_of_split (earlier : ∀ e ∈ before, p e = false) : (before ++ r :: after).find? p = some r :=
  List.find?_eq_some_iff_append.2 ⟨here, before, after, rfl, fun e mem => by simp [earlier e mem]⟩

variable (others : ∀ e ∈ before ++ after, p e = false)
include others

/-- The one record that passes a test, rewritten where it stands. -/
theorem map_of_split (r' : FaultRecord) :
    ((before ++ r :: after).map fun e => if p e then r' else e) = before ++ r' :: after := by
  have stands {l : List FaultRecord} (sub : l ⊆ before ++ after) : (l.map fun e => if p e then r' else e) = l :=
    (List.map_congr_left fun e mem => by simp [others e (sub mem)]).trans l.map_id
  rw [List.map_append, List.map_cons, stands (List.subset_append_left ..), stands (List.subset_append_right ..), if_pos here]

/-- The one record that passes a test, and the others. -/
theorem filter_of_split : (before ++ r :: after).filter p = [r] ∧
    ((before ++ r :: after).filter fun e => !p e) = before ++ after := by
  obtain ⟨first, later⟩ := List.forall_mem_append.1 others
  constructor
  · rw [List.filter_append, List.filter_cons_of_pos here, List.filter_eq_nil_iff.2 (by simpa using first),
      List.filter_eq_nil_iff.2 (by simpa using later)]
    rfl
  · rw [List.filter_append, List.filter_cons_of_neg (by simp [here]), List.filter_eq_self.2 (by simpa using first),
      List.filter_eq_self.2 (by simpa using later)]

end OneRecord

/-! ### A record removed (R145) -/

/-- The removal of a SLIP record ends the freezing of its tower's slip factor. -/
theorem State.unfreeze_eq (s : State) (r : FaultRecord) : s.unfreeze r = match r.tower with
    | some n => if r.kind = .slip then s.setDyn n fun d => { d with slipFrozen := false } else s
    | none => s := by
  obtain ⟨kind, tower, -⟩ := r
  cases tower with
  | none => cases kind <;> rfl
  | some n => cases kind <;> rfl

theorem State.unfreeze_listing (s : State) (r : FaultRecord) (rs : List FaultRecord) :
    (s.unfreeze r).listing rs = (s.listing rs).unfreeze r := by
  unfold State.unfreeze
  split <;> rfl

/-- One record removed. -/
theorem State.removeRecords_of_split (distinct : s.faultsDistinct) (split : s.faults.records = before ++ r :: after) :
    (s.removeRecords fun e => e.kind == r.kind && e.tower == r.tower) = (s.listing (before ++ after)).unfreeze r := by
  obtain ⟨gone, left⟩ := filter_of_split (r := r) (p := fun e => e.kind == r.kind && e.tower == r.tower) (by simp)
    (State.alone_of_split distinct split)
  unfold State.removeRecords
  rw [split, gone, left]
  rfl

/-! ### The record that a HARD raising displaces (R137) -/

theorem State.victim_eq_none (kept : ∀ e ∈ s.faults.records, e.mode ≠ .deferred) : s.victim = none := by
  have latched : (s.faults.records.find? fun e => e.mode == .deferred && e.condition == .latched) = none :=
    List.find?_eq_none.2 fun e mem => by simp [kept e mem]
  unfold State.victim
  rw [latched]
  exact List.find?_eq_none.2 fun e mem => by simp [kept e mem]

/-- The oldest record that is DEFERRED and LATCHED. -/
theorem State.victim_latched (split : s.faults.records = before ++ r :: after) (deferred : r.mode = .deferred)
    (latched : r.condition = .latched) (earlier : ∀ e ∈ before, e.mode = .deferred → e.condition = .active) :
    s.victim = some r := by
  have found : (s.faults.records.find? fun e => e.mode == .deferred && e.condition == .latched) = some r := by
    rw [split]
    refine find?_of_split (by simp [deferred, latched]) fun e mem => ?_
    by_cases soft : e.mode = .deferred
    · simp [earlier e mem soft]
    · simp [soft]
  unfold State.victim
  rw [found]

/-- The oldest DEFERRED record, where none is LATCHED. -/
theorem State.victim_oldest (split : s.faults.records = before ++ r :: after) (deferred : r.mode = .deferred)
    (earlier : ∀ e ∈ before, e.mode ≠ .deferred) (active : ∀ e ∈ r :: after, e.mode = .deferred → e.condition = .active) :
    s.victim = some r := by
  have latched : (s.faults.records.find? fun e => e.mode == .deferred && e.condition == .latched) = none := by
    rw [split]
    refine List.find?_eq_none.2 fun e mem => ?_
    rcases List.mem_append.1 mem with first | later
    · simp [earlier e first]
    · by_cases soft : e.mode = .deferred
      · simp [active e later soft]
      · simp [soft]
  unfold State.victim
  rw [latched, split]
  exact find?_of_split (by simp [deferred]) fun e mem => by simp [earlier e mem]

/-! ### The record of a raising (R136, R137, R140) -/

/-- The condition of a record at the end of its raising (R140). -/
def FaultKind.raisedAs (k : FaultKind) : Condition :=
  if k ∈ [.slip, .drift, .jointTrip, .driveFault, .stopTimeout, .barrierOverrun] then .latched else .active

theorem FaultKind.raisedAs_eq (k : FaultKind) : (if k.latchesAtOnce then .latched else .active) = k.raisedAs := by
  cases k <;> rfl

/-- The record that a raising creates (R136). -/
def State.freshRecord (s : State) (k : FaultKind) (t : Option Nat) : FaultRecord :=
  ⟨k, t, s.faults.modes.mode k, k.raisedAs, s.angle.held, s.angle.held, 1⟩

/-- The record of an earlier raising as a later one leaves it (R136). -/
def State.repeatedRecord (s : State) (r : FaultRecord) : FaultRecord :=
  { r with count := min 255 (r.count + 1), lastAngle := s.angle.held, condition := r.kind.raisedAs }

theorem State.recordRaising_repeats (distinct : s.faultsDistinct) (split : s.faults.records = before ++ r :: after) :
    s.recordRaising r.kind r.tower = (s.listing (before ++ s.repeatedRecord r :: after),
      ⟨.repeated, r.mode, (s.repeatedRecord r).count, none⟩) := by
  have found : s.faultRecord r.kind r.tower = some r :=
    (State.faultRecord_eq_some distinct).2 ⟨by simp [split], rfl, rfl⟩
  have listed := map_of_split (r := r) (p := fun e => e.kind == r.kind && e.tower == r.tower) (by simp)
    (State.alone_of_split distinct split) (s.repeatedRecord r)
  unfold State.recordRaising
  dsimp only
  rw [found]
  dsimp only
  rw [FaultKind.raisedAs_eq, split]
  exact congrArg (fun rs => (s.listing rs, _)) listed

section Absent

variable (absent : ∀ r ∈ s.faults.records, r.key ≠ (k, t))
include absent

theorem State.recordRaising_creates (room : s.faults.records.length < 32) : s.recordRaising k t =
    (s.listing (s.faults.records ++ [s.freshRecord k t]), ⟨.new, s.faults.modes.mode k, 1, none⟩) := by
  unfold State.recordRaising
  dsimp only
  rw [State.faultRecord_eq_none.2 absent]
  dsimp only
  rw [if_pos room, FaultKind.raisedAs_eq]
  rfl

theorem State.recordRaising_drops (full : s.faults.records.length = 32)
    (no : s.faults.modes.mode k = .hard → s.victim = none) :
    s.recordRaising k t = (s, ⟨.notRecorded, s.faults.modes.mode k, 0, none⟩) := by
  unfold State.recordRaising
  dsimp only
  rw [State.faultRecord_eq_none.2 absent]
  dsimp only
  rw [if_neg (by omega)]
  split
  next hard => rw [no hard]
  next => rfl

theorem State.recordRaising_displaces (distinct : s.faultsDistinct) (full : s.faults.records.length = 32)
    (hard : s.faults.modes.mode k = .hard) (split : s.faults.records = before ++ r :: after) (victim : s.victim = some r) :
    s.recordRaising k t = ((s.listing (before ++ after ++ [s.freshRecord k t])).unfreeze r,
      ⟨.new, s.faults.modes.mode k, 1, some (r.kind, r.tower)⟩) := by
  have appended (f : FaultRecord) : ((s.listing (before ++ after)).unfreeze r).listing
      (((s.listing (before ++ after)).unfreeze r).faults.records ++ [f]) = (s.listing (before ++ after ++ [f])).unfreeze r := by
    rw [State.unfreeze_listing, State.unfreeze_faults]
    rfl
  unfold State.recordRaising
  dsimp only
  rw [State.faultRecord_eq_none.2 absent]
  dsimp only
  rw [if_neg (by omega), if_pos hard, victim]
  dsimp only
  rw [State.removeRecords_of_split distinct split, FaultKind.raisedAs_eq]
  exact congrArg (·, _) (appended _)

end Absent

/-! ### What follows the record (R138, R139, R145) -/

/-- A recorded raising of SLIP that is DEFERRED freezes its tower's slip factor (R145). -/
def State.freezesFor (u : State) (k : FaultKind) (t : Option Nat) (m : FaultMode) : State :=
  match t with
  | some n => if k = .slip ∧ m = .deferred then u.setDyn n fun d => { d with slipFrozen := true } else u
  | none => u

/-- A recorded raising acts by its mode (R139). -/
def State.actsFor (u : State) (k : FaultKind) (m : FaultMode) : State :=
  match m with
  | .hard => u.tripRequest k
  | .immediate => if k = .drift then u else u.holdRequest
  | .deferred => u

/-- The FAULT notice of a raising (R138). -/
def State.tellsOf (u : State) (k : FaultKind) (t : Option Nat) (r : Raising) : State :=
  u.queueNotice (faultSubject t) (.fault k r.mode r.count r.outcome r.displaced)

variable {u : State} {q : Raising}

theorem State.raise_eq (raised : s.recordRaising k t = (u, q)) :
    s.raise k t = ((u.freezeSlip k t q).tellsOf k t q).actOnRaising k q := by
  unfold State.raise
  rw [raised]
  rfl

/-- A recorded raising: the flag, the notice and the action. -/
theorem State.raise_recorded (raised : s.recordRaising k t = (u, q)) (recorded : q.outcome ≠ .notRecorded) :
    s.raise k t = ((u.freezesFor k t q.mode).tellsOf k t q).actsFor k q.mode := by
  have frozen : u.freezeSlip k t q = u.freezesFor k t q.mode := by
    unfold State.freezeSlip State.freezesFor
    cases t with
    | none => cases k <;> rfl
    | some n => cases k <;> simp [recorded]
  have acts (v : State) : v.actOnRaising k q = v.actsFor k q.mode := by
    unfold State.actOnRaising State.actsFor
    cases q.mode <;> simp [recorded]
  rw [State.raise_eq raised, frozen, acts]

/-- A raising that is not recorded, of a kind that is not HARD, only tells. -/
theorem State.raise_dropped (raised : s.recordRaising k t = (u, q)) (dropped : q.outcome = .notRecorded)
    (soft : q.mode ≠ .hard) : s.raise k t = u.tellsOf k t q := by
  have frozen : u.freezeSlip k t q = u := by
    unfold State.freezeSlip
    split <;> simp [dropped]
  have acts (v : State) : v.actOnRaising k q = v := by
    unfold State.actOnRaising
    split
    next => exact if_neg fun h => h.1 dropped
    next => rfl
    next hard => exact absurd hard soft
  rw [State.raise_eq raised, frozen, acts]

/-- A HARD raising, recorded or not, trips the machine. -/
theorem State.raise_trips (raised : s.recordRaising k t = (u, q)) (hard : q.mode = .hard) :
    s.raise k t = (u.tellsOf k t q).tripRequest k := by
  have frozen : u.freezeSlip k t q = u := by
    unfold State.freezeSlip
    split <;> simp [hard]
  rw [State.raise_eq raised, frozen, State.actOnRaising, hard]

/-- Settles O32: a raising by what the list holds, its record repeated, created, displacing another or dropped. -/
theorem raisingsRecordNotifyAndAct : Obligations.RaisingsRecordNotifyAndAct := by
  intro s k tower distinct angle mode condition fresh listed frozen told acts
  refine ⟨fun before r after split key => ?_, fun absent => ⟨fun room => ?_, fun full => ⟨fun soft => ?_, fun hard none => ?_,
    fun before v after hard split deferred oldest => ?_⟩⟩⟩
  · obtain ⟨rfl, rfl⟩ := Prod.mk.inj key
    exact State.raise_recorded (State.recordRaising_repeats distinct split) nofun
  · exact State.raise_recorded (State.recordRaising_creates absent room) nofun
  · exact State.raise_dropped (State.recordRaising_drops absent full fun hard => absurd hard soft) rfl soft
  · exact State.raise_trips (State.recordRaising_drops absent full fun _ => State.victim_eq_none none) hard
  · have victim : s.victim = some v := by
      rcases oldest with ⟨latched, earlier⟩ | ⟨earlier, active⟩
      · exact State.victim_latched split deferred latched earlier
      · exact State.victim_oldest split deferred earlier active
    have raised := State.recordRaising_displaces absent distinct full hard split victim
    rw [State.unfreeze_eq] at raised
    exact State.raise_trips raised hard

end Sys2Proof.Machine
end

section
/-! SUPPORT. SET_FAULT_MODE (R147, R148), FAULT_CLEAR (R150, R151) and FAULT_LIST (R149): the records that leave the list, the
change of a kind's mode, and the three requests at a part that is ready for them (O34, O35). -/

namespace Sys2Proof.Machine

variable {s : State} {kind mode : Byte} {k : FaultKind}

/-! ### The list as hearing a request leaves it (R157) -/

@[simp] theorem State.heard_modes (s : State) (r : Request) : (s.heard r).faults.modes = s.faults.modes := by
  rw [State.heard_faults]
  rfl

@[simp] theorem State.heard_tower (s : State) (r : Request) (j : Nat) : (s.heard r).tower j = s.tower j :=
  State.tower_of_table (s.heard_table r) j

/-- What is asked only of the kind and the tower of records is the same of records rewritten otherwise. -/
theorem exists_mem_map_iff {p : FaultRecord → Prop} {f : FaultRecord → FaultRecord} (same : ∀ r, p (f r) ↔ p r)
    (rs : List FaultRecord) : (∃ r ∈ rs.map f, p r) ↔ ∃ r ∈ rs, p r := by
  simp [same]

theorem State.heard_exists (s : State) (r : Request) (p : FaultKind → Option Nat → Prop) :
    (∃ q ∈ (s.heard r).faults.records, p q.kind q.tower) ↔ ∃ q ∈ s.faults.records, p q.kind q.tower := by
  rw [State.heard_records]
  refine exists_mem_map_iff (fun q => ?_) _
  split <;> rfl

/-! ### Slip-frozen flags of several towers (R145, R151) -/

/-- Each real tower named is rewritten once, however often it is named, and the others stand. -/
theorem State.setDyns_tower_real {f : TowerDynamic → TowerDynamic} (again : ∀ d, f (f d) = f d) (ks : List Nat) {j : Nat}
    (real : 1 ≤ j ∧ j ≤ 16) :
    (s.setDyns ks f).tower j = if j ∈ ks then ⟨(s.tower j).cfg, f (s.tower j).dyn⟩ else s.tower j := by
  unfold State.setDyns
  induction ks generalizing s with
  | nil => simp
  | cons k ks ih =>
    rw [List.foldl_cons, ih]
    by_cases same : j = k
    · subst same
      simp [s.setDyn_tower_self real.1 real.2, again]
    · simp [s.setDyn_tower_of_ne same, same]

/-- The tower whose slip factor is frozen for a record: that of a SLIP record. -/
def FaultRecord.slipTower (r : FaultRecord) : Option Nat := if r.kind = .slip then r.tower else none

theorem FaultRecord.slipTower_eq_some {r : FaultRecord} {j : Nat} :
    r.slipTower = some j ↔ r.kind = .slip ∧ r.tower = some j := by
  unfold FaultRecord.slipTower
  split <;> simp_all

/-- A tower whose slip factor is no longer frozen. -/
def TowerDynamic.thawed (d : TowerDynamic) : TowerDynamic := { d with slipFrozen := false }

/-- Records removed: the others stay, and the towers of the SLIP records among them thaw. -/
theorem State.removeRecords_thaws (s : State) (sel : FaultRecord → Bool) : s.removeRecords sel =
    (s.listing (s.faults.records.filter fun r => !sel r)).setDyns
      ((s.faults.records.filter sel).filterMap FaultRecord.slipTower) TowerDynamic.thawed := by
  unfold State.setDyns State.removeRecords
  rw [List.foldl_filterMap]
  refine congrArg (List.foldl · _ _) (funext fun u => funext fun r => ?_)
  rw [State.unfreeze_eq, FaultRecord.slipTower]
  by_cases slip : r.kind = .slip
  · rw [if_pos slip]
    cases r.tower with
    | none => rfl
    | some n => exact if_pos slip
  · rw [if_neg slip]
    cases r.tower with
    | none => rfl
    | some n => exact if_neg slip

theorem State.removeRecords_eq_tabled (s : State) (sel : FaultRecord → Bool) : s.removeRecords sel =
    { s with
      table := (s.removeRecords sel).table
      faults := { s.faults with records := s.faults.records.filter fun r => !sel r } } := by
  rw [← State.removeRecords_faults]
  exact s.removeRecords_frame sel

theorem State.removeRecords_tower (s : State) (sel : FaultRecord → Bool) (j : Nat) : (s.removeRecords sel).tower j =
    if ∃ r ∈ s.faults.records, sel r ∧ r.kind = .slip ∧ r.tower = some j then
      { s.tower j with dyn := { (s.tower j).dyn with slipFrozen := false } } else s.tower j := by
  have named : j ∈ (s.faults.records.filter sel).filterMap FaultRecord.slipTower ↔
      ∃ r ∈ s.faults.records, sel r ∧ r.kind = .slip ∧ r.tower = some j := by
    simp only [List.mem_filterMap, List.mem_filter, FaultRecord.slipTower_eq_some, and_assoc]
  rw [State.removeRecords_thaws, State.setDyns_tower (f := TowerDynamic.thawed) (fun _ => rfl) rfl]
  exact if_congr named rfl rfl

/-! ### FAULT_CLEAR (R150, R151) -/

section FaultClear

variable {selection tower : Byte}

/-- FAULT_CLEAR is answered by the fault list. -/
theorem exec_faultClear (ready : s.receptive) {u : State} {a : Answer}
    (taken : (s.heard (.faultClear selection kind tower)).takeFaultClear selection kind tower = (u, a)) :
    exec (.faultClear selection kind tower) s = .next (u.replying 0x32 a).transmit := by
  obtain ⟨fits, -⟩ := Laws.FrameFits.faultClear selection kind tower _ rfl rfl
  exact exec_answered ready rfl fits (r := .faultClear selection kind tower) rfl fun _ => congrArg (Prod.map id some) taken

/-- The records that a selection in range selects: all, those of a kind, or those of a kind and tower (R150). -/
def FaultRecord.selectedBy (selection kind tower : Byte) (r : FaultRecord) : Bool :=
  selection = 0 || (faultKindOf kind == some r.kind &&
    (selection = 1 || r.tower == (if tower = 0 then none else some tower.toNat)))

theorem clearSelection_stray (stray : 2 < selection.toNat ∨ (1 ≤ selection.toNat ∧ faultKindOf kind = none) ∨
    (selection = 2 ∧ 16 < tower.toNat)) : clearSelection selection kind tower = none := by
  unfold clearSelection
  rcases stray with high | ⟨low, unnamed⟩ | ⟨rfl, beyond⟩
  · split
    next => omega
    next => omega
    next => omega
    next => rfl
  · rw [unnamed]
    split
    next => omega
    next => rfl
    next => exact ite_self _
    next => rfl
  · exact if_neg (by omega)

theorem clearSelection_some (fits : selection = 0 ∨ (selection = 1 ∧ faultKindOf kind ≠ none) ∨
    (selection = 2 ∧ faultKindOf kind ≠ none ∧ tower.toNat ≤ 16)) :
    clearSelection selection kind tower = some (FaultRecord.selectedBy selection kind tower) := by
  rcases fits with rfl | ⟨rfl, named⟩ | ⟨rfl, named, within⟩
  · rfl
  · obtain ⟨k, named⟩ := Option.ne_none_iff_exists'.1 named
    refine (congrArg (Option.map _) named).trans (congrArg some (funext fun r => ?_))
    rw [FaultRecord.selectedBy, named, Bool.eq_iff_iff]
    simp [eq_comm (a := k)]
  · obtain ⟨k, named⟩ := Option.ne_none_iff_exists'.1 named
    have zero : tower = 0 ↔ tower.toNat = 0 := BitVec.toNat_inj.symm
    refine (if_pos within).trans ((congrArg (Option.map _) named).trans (congrArg some (funext fun r => ?_)))
    rw [FaultRecord.selectedBy, named, Bool.eq_iff_iff, if_congr zero rfl rfl]
    simp [eq_comm (a := k)]

/-- Of the records selected, those LATCHED are removed and the others counted as left. -/
theorem State.takeFaultClear_some {sel : FaultRecord → Bool} (selects : clearSelection selection kind tower = some sel) :
    s.takeFaultClear selection kind tower = (s.removeRecords fun r => sel r && r.condition == .latched,
      .ok (.cleared (s.faults.records.filter fun r => sel r && r.condition == .latched).length
        (s.faults.records.filter fun r => sel r && r.condition == .active).length)) := by
  have active (r : FaultRecord) : (!(r.condition == .latched)) = (r.condition == .active) := by cases r.condition <;> rfl
  have count := List.length_eq_length_filter_add (l := s.faults.records.filter sel) fun r => r.condition == .latched
  simp only [active, List.filter_filter, Bool.and_comm _ (sel _)] at count
  unfold State.takeFaultClear
  rw [selects]
  simp only [List.filter_filter, Bool.and_comm _ (sel _), count, Nat.add_sub_cancel_left]

end FaultClear

/-! ### FAULT_LIST (R149) -/

/-- FAULT_LIST is answered by the fault list. -/
theorem exec_faultList (ready : s.receptive) {first : Byte} {u : State} {a : Answer}
    (taken : (s.heard (.faultList first)).takeFaultList first = (u, a)) :
    exec (.faultList first) s = .next (u.replying 0x31 a).transmit := by
  obtain ⟨fits, -⟩ := Laws.FrameFits.faultList first _ rfl rfl
  exact exec_answered ready rfl fits (r := .faultList first) rfl fun _ => congrArg (Prod.map id some) taken

/-- Settles O35: the two branches of `State.takeFaultList`; hearing the request keeps the number of records and the modes. -/
theorem faultListReportsTheRecords : Obligations.FaultListReportsTheRecords := by
  refine fun s first ready => ⟨fun stray => exec_faultList ready (if_pos stray),
    fun low high => exec_faultList ready ((if_neg (by omega)).trans ?_)⟩
  have length : (s.heard (.faultList first)).faults.records.length = s.faults.records.length := by
    rw [State.heard_records, List.length_map]
  rw [length, s.heard_modes]

/-! ### The mode of a kind changed (R145, R147, R148) -/

/-- The part with the mode of a kind changed in the mode table and in every record of the kind (R147). -/
def State.remoded (s : State) (k : FaultKind) (m : FaultMode) : State :=
  { s with faults := { s.faults with
    modes := s.faults.modes.put k (m == .deferred)
    records := s.faults.records.map fun r => if r.kind = k then { r with mode := m } else r } }

theorem State.remoded_exists (s : State) (k : FaultKind) (m : FaultMode) (p : FaultKind → Option Nat → Prop) :
    (∃ q ∈ (s.remoded k m).faults.records, p q.kind q.tower) ↔ ∃ q ∈ s.faults.records, p q.kind q.tower := by
  refine exists_mem_map_iff (fun q => ?_) _
  split <;> rfl

/-- A change of mode: what hangs on it beside the modes themselves. -/
theorem State.changeMode_eq (s : State) (k : FaultKind) (deferred : Bool) : s.changeMode k deferred =
    if deferred then (if k = .slip then (s.remoded k .deferred).freezeHeld else s.remoded k .deferred)
    else if k ≠ .drift ∧ (∃ r ∈ s.faults.records, r.kind = k) then (s.remoded k .immediate).holdRequest
    else s.remoded k .immediate := by
  have written (m : FaultMode) : ({ s with faults := { s.faults with
      modes := s.faults.modes.put k (m == .deferred)
      records := s.faults.records.map fun r => if r.kind == k then { r with mode := m } else r } } : State) =
      s.remoded k m := by
    unfold State.remoded
    simp only [beq_iff_eq]
  cases deferred with
  | true => exact congrArg (fun u : State => if k = .slip then u.freezeHeld else u) (written .deferred)
  | false =>
    have holds : ((s.remoded k .immediate).faults.records.any fun r => r.kind == k) = true ↔
        ∃ r ∈ s.faults.records, r.kind = k := by
      simpa using s.remoded_exists k .immediate fun kind _ => kind = k
    rw [if_neg Bool.false_ne_true]
    refine (congrArg (fun u : State => if k ≠ .drift ∧ (u.faults.records.any fun r => r.kind == k) then u.holdRequest
      else u) (written .immediate)).trans ?_
    exact if_congr (and_congr_right fun _ => holds) rfl rfl

/-- A tower whose slip factor is frozen. -/
def TowerDynamic.frozen (d : TowerDynamic) : TowerDynamic := { d with slipFrozen := true }

theorem State.faultRecord_isSome (s : State) (k : FaultKind) (t : Option Nat) :
    (s.faultRecord k t).isSome = true ↔ ∃ r ∈ s.faults.records, r.kind = k ∧ r.tower = t := by
  simp [State.faultRecord]

/-- SLIP made DEFERRED freezes the slip factor of every tower with a SLIP record (R145). -/
theorem State.freezeHeld_tower (s : State) (j : Nat) : s.freezeHeld.tower j =
    if 1 ≤ j ∧ j ≤ 16 ∧ j ≤ s.towerCount ∧ (∃ r ∈ s.faults.records, r.kind = .slip ∧ r.tower = some j) then
      { s.tower j with dyn := { (s.tower j).dyn with slipFrozen := true } } else s.tower j := by
  by_cases real : 1 ≤ j ∧ j ≤ 16
  · have named : j ∈ s.members.filter (fun k => (s.faultRecord .slip (some k)).isSome) ↔
        1 ≤ j ∧ j ≤ 16 ∧ j ≤ s.towerCount ∧ (∃ r ∈ s.faults.records, r.kind = .slip ∧ r.tower = some j) := by
      rw [List.mem_filter, s.mem_members, s.faultRecord_isSome]
      tauto
    exact (State.setDyns_tower_real (f := TowerDynamic.frozen) (fun _ => rfl) _ real).trans (if_congr named rfl rfl)
  · rw [if_neg fun h => real ⟨h.1, h.2.1⟩, State.tower_of_not_mem _ real, State.tower_of_not_mem _ real]

theorem State.freezeHeld_core (s : State) : s.freezeHeld.table.core = s.table.core := s.setDyns_core fun _ => rfl

/-! ### SET_FAULT_MODE (R147, R148) -/

/-- SET_FAULT_MODE is answered by the fault list. -/
theorem exec_setFaultMode (ready : s.receptive) {u : State} {a : Answer}
    (taken : (s.heard (.setFaultMode kind mode)).takeSetFaultMode kind mode = (u, a)) :
    exec (.setFaultMode kind mode) s = .next (u.replying 0x30 a).transmit := by
  obtain ⟨fits, -⟩ := Laws.FrameFits.setFaultMode kind mode _ rfl rfl
  exact exec_answered ready rfl fits (r := .setFaultMode kind mode) rfl fun _ => congrArg (Prod.map id some) taken

/-- The deferrable kinds have the lowest codes (R135). -/
theorem faultKindOf_deferrable (named : faultKindOf kind = some k) : k.deferrable = decide (kind.toNat ≤ 6) := by
  unfold faultKindOf at named
  split at named <;> cases named
  all_goals simp [*, FaultKind.deferrable]

theorem State.takeSetFaultMode_stray (stray : faultKindOf kind = none ∨ 1 < mode.toNat ∨ 6 < kind.toNat) :
    s.takeSetFaultMode kind mode = (s, .fail .badValue) := by
  unfold State.takeSetFaultMode
  split
  next k deferred named marked =>
    have := (markOf_eq_some.1 marked).1
    have high : 6 < kind.toNat := by
      rcases stray with unnamed | beyond | high
      · rw [named] at unnamed; cases unnamed
      · omega
      · exact high
    exact if_pos (by simp [faultKindOf_deferrable named, high])
  next => rfl

section Named

variable (named : faultKindOf kind = some k) (low : kind.toNat ≤ 6) {deferred : Bool} (marked : markOf mode = some deferred)
include named low marked

theorem State.takeSetFaultMode_named : s.takeSetFaultMode kind mode =
    if s.faults.modes.mode k = (if deferred then .deferred else .immediate) then (s, .ok)
    else (s.changeMode k deferred, .ok) := by
  unfold State.takeSetFaultMode deferredOf
  rw [named, marked]
  exact if_neg (by simp [faultKindOf_deferrable named, low])

/-- The mode already held changes nothing. -/
theorem State.takeSetFaultMode_held (held : s.faults.modes.mode k = if deferred then .deferred else .immediate) :
    s.takeSetFaultMode kind mode = (s, .ok) :=
  (State.takeSetFaultMode_named named low marked).trans (if_pos held)

theorem State.takeSetFaultMode_other (other : s.faults.modes.mode k ≠ if deferred then .deferred else .immediate) :
    s.takeSetFaultMode kind mode = (s.changeMode k deferred, .ok) :=
  (State.takeSetFaultMode_named named low marked).trans (if_neg other)

end Named

/-- Settles O34: SET_FAULT_MODE by the mode asked for and the mode held, and FAULT_CLEAR by its selection. -/
theorem faultModesAndClearing : Obligations.FaultModesAndClearing := by
  refine ⟨fun s kind mode ready => ⟨fun stray => exec_setFaultMode ready (State.takeSetFaultMode_stray stray),
    fun k named low => ?_⟩, fun s selection kind tower ready => ⟨fun stray => ?_, fun fits => ?_⟩⟩
  · intro changed
    have modes := s.heard_modes (.setFaultMode kind mode)
    have takes {deferred : Bool} (marked : markOf mode = some deferred)
        (other : s.faults.modes.mode k ≠ if deferred then .deferred else .immediate) :
        exec (.setFaultMode kind mode) s =
          .next (((s.heard (.setFaultMode kind mode)).changeMode k deferred).replying 0x30 .ok).transmit :=
      exec_setFaultMode ready (State.takeSetFaultMode_other named low marked (by rwa [modes]))
    refine ⟨?_, ?_, ?_, ?_⟩
    · rintro rfl held
      exact exec_setFaultMode ready (State.takeSetFaultMode_held named low (deferred := false) rfl (by rw [modes, held]; rfl))
    · rintro rfl held
      exact exec_setFaultMode ready (State.takeSetFaultMode_held named low (deferred := true) rfl (by rw [modes, held]; rfl))
    · rintro rfl held
      have taken := takes (deferred := true) rfl (by rw [held]; decide)
      rw [State.changeMode_eq, if_pos rfl] at taken
      refine ⟨fun other => ?_, fun slip => ?_⟩
      · rwa [if_neg other] at taken
      · rw [if_pos slip] at taken
        have table : ((s.heard (.setFaultMode kind 1)).remoded k .deferred).table = s.table := s.heard_table _
        obtain ⟨machine, pending⟩ := TowerTable.core_inj
          (((s.heard (.setFaultMode kind 1)).remoded k .deferred).freezeHeld_core.trans (congrArg TowerTable.core table))
        refine ⟨_, taken, State.setDyns_frame .., machine, pending, fun j => ?_⟩
        have record := (State.remoded_exists (s.heard _) k .deferred fun q t => q = .slip ∧ t = some j).trans
          (s.heard_exists (.setFaultMode kind 1) fun q t => q = .slip ∧ t = some j)
        rw [State.freezeHeld_tower, State.tower_of_table table, State.towerCount, table]
        exact if_congr (and_congr_right fun _ => and_congr_right fun _ => and_congr_right fun _ => record) rfl rfl
    · rintro rfl held
      have taken := takes (deferred := false) rfl (by rw [held]; decide)
      rw [State.changeMode_eq, if_neg Bool.false_ne_true] at taken
      have holds := s.heard_exists (.setFaultMode kind 0) fun q _ => q = k
      refine ⟨fun ⟨notDrift, record⟩ => ?_, fun spared => ?_⟩
      · rwa [if_pos ⟨notDrift, holds.2 record⟩] at taken
      · rw [if_neg] at taken
        · exact taken
        · rintro ⟨notDrift, record⟩
          obtain ⟨r, mem, kinds⟩ := holds.1 record
          exact spared.elim notDrift fun none => none r mem kinds
  · exact exec_faultClear ready (by rw [State.takeFaultClear, clearSelection_stray stray])
  · obtain ⟨machine, pending⟩ := TowerTable.core_inj ((State.removeRecords_core (s.heard _) _).trans
      (congrArg TowerTable.core (s.heard_table (.faultClear selection kind tower))))
    refine ⟨_, exec_faultClear ready (State.takeFaultClear_some (clearSelection_some fits)),
      State.removeRecords_eq_tabled .., machine, pending, fun j => ?_⟩
    rw [State.removeRecords_tower, s.heard_tower]

end Sys2Proof.Machine
end

section
/-! SUPPORT. A change of the safety-chain sense input (R140, R143): the tower whose report shows its switch open, and what
opening and closing do (O36). -/

namespace Sys2Proof.Machine

variable {s : State}

/-- The latest report of tower k shows its switch open (R143). -/
def State.showsOpen (s : State) (k : Nat) : Prop := ∃ r, (s.tower k).dyn.report = some r ∧ r.switchClosed = false

theorem State.openSwitch_none (closed : ∀ k, 1 ≤ k → k ≤ s.towerCount → ¬ s.showsOpen k) : s.openSwitch = none :=
  s.openSwitch_eq_none.2 fun ⟨k, r, low, high, shown⟩ => closed k low high ⟨r, shown⟩

/-- The lowest-numbered tower whose latest report shows its switch open. -/
theorem State.openSwitch_lowest {k : Nat} (low : 1 ≤ k) (high : k ≤ s.towerCount) (opened : s.showsOpen k)
    (lowest : ∀ j, 1 ≤ j → j < k → ¬ s.showsOpen j) : s.openSwitch = some k := by
  have shows (j : Nat) : (match (s.tower j).dyn.report with | some r => !r.switchClosed | none => false) = true ↔
      s.showsOpen j := by
    unfold State.showsOpen
    cases (s.tower j).dyn.report <;> simp
  unfold State.openSwitch State.members upTo
  rw [List.find?_map, Option.map_eq_some_iff]
  refine ⟨k - 1, List.find?_range_eq_some.2 ⟨?_, List.mem_range.2 (by omega), fun j before => ?_⟩, by omega⟩
  · rw [Function.comp_apply, Nat.sub_add_cancel low]
    exact (shows k).2 opened
  · rw [Function.comp_apply, Bool.not_eq_true', ← Bool.not_eq_true]
    exact fun shown => lowest (j + 1) (by omega) (by omega) ((shows _).1 shown)

/-- Where no tower shows its switch open, a chain that reads closed latches every CHAIN_OPEN record (R140). -/
theorem State.chainClears_closed (closed : s.inputs.chainClosed = true) (none : s.openSwitch = none) :
    s.chainClears = { s with faults := { s.faults with
      records := s.faults.records.map fun r => if r.kind = .chainOpen then { r with condition := .latched } else r } } := by
  have records := latch_records s fun r => r.kind == .chainOpen
  simp only [beq_iff_eq] at records
  rw [← records]
  exact if_pos ⟨closed, none⟩

/-- A sense input that changes: the fault list sees the new level, and then the transmit side chooses. -/
theorem exec_chainSenseChange_changed (powered : s.powered = true) {closed : Bool} (changed : s.inputs.chainClosed ≠ closed) :
    exec (.chainSenseChange closed) s =
      .next (State.chainChanged { s with inputs := { s.inputs with chainClosed := closed } }).transmit :=
  (if_neg changed).trans (congrArg Host.Outcome.next (if_pos powered))

/-- Settles O36: the level that stands, and the two changes by the contactor and by the open switches. -/
theorem chainSenseChangesRaiseAndLatch : Obligations.ChainSenseChangesRaiseAndLatch := by
  intro s closed powered u open'
  refine ⟨fun same => if_pos same, ?_, ?_⟩
  · rintro was rfl
    have changes : exec (.chainSenseChange false) s =
        .next (if s.run.contactor then u.raise .chainOpen u.openSwitch else u).transmit :=
      exec_chainSenseChange_changed powered (by rw [was]; decide)
    refine ⟨fun released => ?_, fun energised => ⟨fun k low high opened lowest => ?_, fun none => ?_⟩⟩
    · rw [changes, released]
      rfl
    · rw [changes, if_pos energised, State.openSwitch_lowest (s := u) low high opened lowest]
    · rw [changes, if_pos energised, State.openSwitch_none (s := u) none]
  · rintro was rfl
    have changes : exec (.chainSenseChange true) s = .next u.chainClears.transmit :=
      exec_chainSenseChange_changed powered (by rw [was]; decide)
    refine ⟨fun ⟨k, low, high, r, shown⟩ => ?_, fun none => ?_⟩
    · have held : u.openSwitch ≠ none := fun none => u.openSwitch_eq_none.1 none ⟨k, r, low, high, shown⟩
      rw [changes, State.chainClears, if_neg fun h => held h.2]
    · rw [changes, State.chainClears_closed rfl (State.openSwitch_none (s := u) none)]

end Sys2Proof.Machine
end

section
/-! SUPPORT. The notice queue (R160, R161, R166): the entry of a kind and subject, the entry that a full queue gives up, and
what becomes of a notice in each of the four cases (O16). -/

namespace Sys2Proof.Machine

/-! ### One entry of a list -/

section OneEntry

variable {α : Type} {p : α → Bool} {before after : List α} {a : α}

/-- The one entry that passes a test, rewritten where it stands. -/
theorem map_update_of_split (here : p a = true) (others : ∀ e ∈ before ++ after, p e = false) (f : α → α) :
    ((before ++ a :: after).map fun e => if p e then f e else e) = before ++ f a :: after := by
  have stands {l : List α} (sub : l ⊆ before ++ after) : (l.map fun e => if p e then f e else e) = l :=
    (List.map_congr_left fun e mem => by simp [others e (sub mem)]).trans l.map_id
  rw [List.map_append, List.map_cons, stands (List.subset_append_left ..), stands (List.subset_append_right ..), if_pos here]

/-- The entries but for the one that passes a test. -/
theorem filter_others_of_split (here : p a = true) (others : ∀ e ∈ before ++ after, p e = false) :
    ((before ++ a :: after).filter fun e => !p e) = before ++ after := by
  obtain ⟨first, later⟩ := List.forall_mem_append.1 others
  rw [List.filter_append, List.filter_cons_of_neg (by simp [here]), List.filter_eq_self.2 (by simpa using first),
    List.filter_eq_self.2 (by simpa using later)]

end OneEntry

/-! ### The best entry of a list -/

section Chosen

variable {α : Type} (keeps : α → α → Bool)

/-- One entry more is looked at in the search for the best, which the best so far survives or not. -/
def chosen (best : Option α) (n : α) : Option α :=
  match best with
  | none => some n
  | some b => if keeps b n then some b else some n

variable {keeps}

/-- What a search finds is an entry looked at. -/
theorem foldl_chosen_mem {l : List α} {best : Option α} {b : α} (found : l.foldl (chosen keeps) best = some b) :
    best = some b ∨ b ∈ l := by
  induction l generalizing best with
  | nil => exact .inl found
  | cons n l ih =>
    rcases ih found with first | later
    · unfold chosen at first
      split at first
      · exact .inr (by simp_all)
      · split at first
        · exact .inl first
        · exact .inr (by simp_all)
    · exact .inr (List.mem_cons_of_mem _ later)

/-- The best entry of a list: it replaces any before it, and none after it replaces it. -/
theorem foldl_chosen_of_split {before after : List α} {a : α} (replaces : ∀ m ∈ before, keeps m a = false)
    (survives : ∀ m ∈ after, keeps a m = true) : (before ++ a :: after).foldl (chosen keeps) none = some a := by
  have reached : chosen keeps (before.foldl (chosen keeps) none) a = some a := by
    cases found : before.foldl (chosen keeps) none with
    | none => rfl
    | some b =>
      have mem : b ∈ before := (foldl_chosen_mem found).resolve_left nofun
      simp [chosen, replaces b mem]
  have stays : after.foldl (chosen keeps) (some a) = some a := by
    clear reached replaces
    induction after with
    | nil => rfl
    | cons n after ih =>
      obtain ⟨now, later⟩ := List.forall_mem_cons.1 survives
      rw [List.foldl_cons, chosen, now]
      exact ih later
  rw [List.foldl_append, List.foldl_cons, reached, stays]

/-- The best among the entries that a test admits. -/
theorem foldl_filter_chosen_of_split {before after : List α} {a : α} {ok : α → Bool} (admitted : ok a = true)
    (replaces : ∀ m ∈ before, ok m = true → keeps m a = false) (survives : ∀ m ∈ after, ok m = true → keeps a m = true) :
    ((before ++ a :: after).filter ok).foldl (chosen keeps) none = some a := by
  rw [List.filter_append, List.filter_cons_of_pos admitted]
  refine foldl_chosen_of_split (fun m mem => ?_) fun m mem => ?_
  · exact replaces m (List.mem_filter.1 mem).1 (List.mem_filter.1 mem).2
  · exact survives m (List.mem_filter.1 mem).1 (List.mem_filter.1 mem).2

end Chosen

variable {s : State} {subject : Subject} {data : NoticeData} {before after : List Notice} {n : Notice}

/-! ### The entry of a kind and subject (R160) -/

theorem Notice.isFor_iff {kind : NoticeKind} : n.isFor kind subject = true ↔ n.key = (kind, subject) := by
  simp [Notice.isFor, Notice.key]

theorem Notice.isFor_eq_false {kind : NoticeKind} : n.isFor kind subject = false ↔ n.key ≠ (kind, subject) := by
  rw [← Bool.not_eq_true, Notice.isFor_iff]

/-- In a queue without two entries alike, an entry is the only one of its kind and subject. -/
theorem State.others_of_split (distinct : s.noticesDistinct) (split : s.panel.notices = before ++ n :: after) :
    ∀ e ∈ before ++ after, e.isFor n.data.kind n.subject = false := by
  have keys := distinct.2
  rw [split, List.map_append, List.map_cons, List.nodup_middle, List.nodup_cons, ← List.map_append] at keys
  intro e mem
  exact Notice.isFor_eq_false.2 fun same => keys.1 (List.mem_map.2 ⟨e, mem, same⟩)

/-! ### The entry that a full queue gives up (R161) -/

/-- An entry that a notice of priority p may displace: of lower priority, and its frame not being sent. -/
def State.below (s : State) (p : Nat) (n : Notice) : Bool := n.sending.isNone && s.priority n.data.kind < p

theorem State.below_iff {p : Nat} : s.below p n = true ↔ n.sending = none ∧ s.priority n.data.kind < p := by
  simp [State.below]

theorem State.displaceable_eq (s : State) (p : Nat) : s.displaceable p =
    (s.panel.notices.filter (s.below p)).foldl
      (chosen fun w n => s.priority w.data.kind < s.priority n.data.kind) none := by
  have same : (fun (worst : Option Notice) n => match worst with
      | none => some n
      | some w => if s.priority n.data.kind ≤ s.priority w.data.kind then some n else some w) =
      chosen fun w n => s.priority w.data.kind < s.priority n.data.kind := by
    funext worst n
    cases worst with
    | none => rfl
    | some w => by_cases le : s.priority n.data.kind ≤ s.priority w.data.kind <;> simp [chosen, le, Nat.lt_of_not_ge]
  rw [← same]
  rfl

theorem State.displaceable_mem {p : Nat} {v : Notice} (found : s.displaceable p = some v) : v ∈ s.panel.notices := by
  rw [State.displaceable_eq] at found
  exact List.mem_of_mem_filter ((foldl_chosen_mem found).resolve_left nofun)

theorem State.displaceable_none {p : Nat} (none : ∀ n ∈ s.panel.notices, ¬ s.below p n = true) :
    s.displaceable p = .none := by
  rw [State.displaceable_eq, List.filter_eq_nil_iff.2 none]
  rfl

/-- The youngest of the lowest priority. -/
theorem State.displaceable_of_split {p : Nat} {v : Notice} (split : s.panel.notices = before ++ v :: after)
    (below : s.below p v = true)
    (lowest : ∀ n ∈ s.panel.notices, s.below p n = true → s.priority v.data.kind ≤ s.priority n.data.kind)
    (youngest : ∀ n ∈ after, s.below p n = true → s.priority v.data.kind < s.priority n.data.kind) :
    s.displaceable p = some v := by
  rw [State.displaceable_eq, split]
  refine foldl_filter_chosen_of_split below (fun m mem low => ?_) fun m mem low => ?_
  · simpa using lowest m (by simp [split, mem]) low
  · simpa using youngest m mem low

/-! ### What becomes of a notice -/

/-- The part with another queue, lost mark and wake line. -/
def State.queueing (s : State) (notices : List Notice) (lost wake : Bool) : State :=
  { s with panel := { s.panel with notices := notices, lost := lost, wakeLine := wake } }

/-- The wake line once a notice has entered or coalesced (R166). -/
def State.wakeAfter (s : State) (subject : Subject) (data : NoticeData) : Bool :=
  s.panel.wakeLine || (s.panel.asleep && s.wakes data subject)

/-- A notice changes nothing beside the queue and the two marks. -/
theorem State.queueNotice_queueing (s : State) (subject : Subject) (data : NoticeData) :
    ∃ notices lost wake, s.queueNotice subject data = s.queueing notices lost wake := by
  unfold State.queueNotice
  dsimp only
  repeat' split
  all_goals exact ⟨_, _, _, rfl⟩

theorem State.queueNotice_coalesces (distinct : s.noticesDistinct) (split : s.panel.notices = before ++ n :: after)
    (key : n.key = (data.kind, subject)) : s.queueNotice subject data =
      s.queueing (before ++ n.coalesce data :: after) s.panel.lost (s.wakeAfter subject data) := by
  have here : n.isFor data.kind subject = true := Notice.isFor_iff.2 key
  obtain ⟨kind, subj⟩ := Prod.mk.inj key
  have others := State.others_of_split distinct split
  rw [kind, subj] at others
  have coalesced := map_update_of_split (p := fun e : Notice => e.isFor data.kind subject) here others (·.coalesce data)
  unfold State.queueNotice
  dsimp only
  rw [if_pos (List.any_eq_true.2 ⟨n, by simp [split], here⟩), split, coalesced]
  rfl

section Absent

variable (absent : ∀ n ∈ s.panel.notices, n.key ≠ (data.kind, subject))
include absent

theorem State.queueNotice_absent : ¬ (s.panel.notices.any (·.isFor data.kind subject)) = true := by
  simpa [Notice.isFor_eq_false] using absent

theorem State.queueNotice_enters (room : s.panel.notices.length < 32) : s.queueNotice subject data =
    s.queueing (s.panel.notices ++ [⟨subject, data, 1, none⟩]) s.panel.lost (s.wakeAfter subject data) := by
  unfold State.queueNotice
  dsimp only
  rw [if_neg (State.queueNotice_absent absent), if_pos room]
  rfl

theorem State.queueNotice_displaces (full : ¬ s.panel.notices.length < 32) {v : Notice}
    (victim : s.displaceable (s.priority data.kind) = some v) : s.queueNotice subject data =
      s.queueing (s.panel.notices.erase v ++ [⟨subject, data, 1, none⟩]) true (s.wakeAfter subject data) := by
  unfold State.queueNotice
  dsimp only
  rw [if_neg (State.queueNotice_absent absent), if_neg full, victim]
  rfl

theorem State.queueNotice_drops (full : ¬ s.panel.notices.length < 32)
    (none : s.displaceable (s.priority data.kind) = none) : s.queueNotice subject data =
      s.queueing s.panel.notices true s.panel.wakeLine := by
  unfold State.queueNotice
  dsimp only
  rw [if_neg (State.queueNotice_absent absent), if_neg full, none]
  rfl

end Absent

/-- An entry taken out of a queue that holds it once. -/
theorem State.erase_of_split (distinct : s.noticesDistinct) (split : s.panel.notices = before ++ n :: after) :
    s.panel.notices.erase n = before ++ after := by
  have first : n ∉ before := fun mem => by
    have other := State.others_of_split distinct split n (List.mem_append_left _ mem)
    exact Notice.isFor_eq_false.1 other rfl
  rw [split, List.erase_append_right _ first, List.erase_cons_head]

/-- Settles O16: a notice by what the queue holds: its entry, room, an entry to displace, or none of these. -/
theorem noticesCoalesceEnterDisplaceOrDrop : Obligations.NoticesCoalesceEnterDisplaceOrDrop := by
  intro s subject data distinct t p woken below
  have panel {notices : List Notice} {lost wake : Bool} (queued : t = s.queueing notices lost wake) :
      t.panel.notices = notices ∧ t.panel.lost = lost ∧ t.panel.wakeLine = wake := by
    rw [queued]
    exact ⟨rfl, rfl, rfl⟩
  refine ⟨?_, fun before n after split key => ?_, fun absent => ⟨fun room => ?_, fun full =>
    ⟨fun before v after split low lowest youngest => ?_, fun none => ?_⟩⟩⟩
  · obtain ⟨notices, lost, wake, queued⟩ := s.queueNotice_queueing subject data
    unfold t
    rw [queued]
    rfl
  · exact panel (State.queueNotice_coalesces distinct split key)
  · exact panel (State.queueNotice_enters absent room)
  · have victim : s.displaceable p = some v :=
      State.displaceable_of_split split (State.below_iff.2 low) (fun n mem h => lowest n mem (State.below_iff.1 h))
        fun n mem h => youngest n mem (State.below_iff.1 h)
    have queued := State.queueNotice_displaces absent (by omega) victim
    rw [State.erase_of_split distinct split] at queued
    exact panel queued
  · exact panel (State.queueNotice_drops absent (by omega)
      (State.displaceable_none fun n mem h => none n mem (State.below_iff.1 h)))

end Sys2Proof.Machine
end

section
/-! SUPPORT. Laws 6 and 7 (R160, R136): a list of at most 32 entries, no two alike, and the shared operations, which keep the
notice queue and the fault list so. -/

namespace Sys2Proof.Machine

/-! ### Lists of entries told apart by a key -/

section Listed

variable {α β : Type} {key : α → β} {l l' : List α}

/-- At most 32 entries, no two of one key. -/
def listedOnce (key : α → β) (l : List α) : Prop := l.length ≤ 32 ∧ (l.map key).Nodup

theorem listedOnce_nil : listedOnce key [] := ⟨Nat.zero_le _, List.nodup_nil⟩

/-- Entries may leave, and what is told of an entry beside its key may change. -/
theorem listedOnce.of_sublist (h : listedOnce key l) (sub : (l'.map key).Sublist (l.map key)) : listedOnce key l' := by
  obtain ⟨few, nodup⟩ := h
  have shorter := sub.length_le
  rw [List.length_map, List.length_map] at shorter
  exact ⟨shorter.trans few, nodup.sublist sub⟩

theorem listedOnce.map (h : listedOnce key l) {f : α → α} (same : ∀ e ∈ l, key (f e) = key e) : listedOnce key (l.map f) :=
  h.of_sublist (by rw [List.map_map, List.map_congr_left (f := key ∘ f) same])

theorem listedOnce.filter (h : listedOnce key l) (p : α → Bool) : listedOnce key (l.filter p) :=
  h.of_sublist (List.filter_sublist.map key)

/-- A new entry enters a list with room that holds none of its key. -/
theorem listedOnce.snoc (h : listedOnce key l) {a : α} (room : l.length < 32) (absent : ∀ e ∈ l, key e ≠ key a) :
    listedOnce key (l ++ [a]) := by
  refine ⟨by simpa using room, ?_⟩
  rw [List.map_append, List.map_singleton]
  refine List.nodup_append.2 ⟨h.2, List.nodup_singleton _, fun x mem y last => ?_⟩
  obtain ⟨e, held, rfl⟩ := List.mem_map.1 mem
  rw [List.mem_singleton.1 last]
  exact absent e held

end Listed

/-! ### The two laws together -/

/-- Law 6 where `notices` asks for it, and Law 7 where `faults` does: neither leans on the other. -/
structure State.apart (notices faults : Prop) (s : State) : Prop where
  queue : notices → listedOnce Notice.key s.panel.notices
  records : faults → listedOnce FaultRecord.key s.faults.records

variable {s t : State} {notices faults : Prop}

/-! ### The record of a raising (R136, R137) -/

/-- A record displaced leaves room for another (R137). -/
theorem State.removeRecords_length_lt {v : FaultRecord} (held : v ∈ s.faults.records) :
    (s.removeRecords fun r => r.kind == v.kind && r.tower == v.tower).faults.records.length < s.faults.records.length := by
  rw [State.removeRecords_faults]
  exact List.length_filter_lt_length_iff_exists.2 ⟨v, held, by simp⟩

theorem State.victim_mem {v : FaultRecord} (found : s.victim = some v) : v ∈ s.faults.records := by
  unfold State.victim at found
  split at found
  next latched => exact Option.some.inj found ▸ List.mem_of_find?_eq_some latched
  next => exact List.mem_of_find?_eq_some found

theorem State.recordRaising_listedOnce (once : listedOnce FaultRecord.key s.faults.records) (k : FaultKind)
    (t : Option Nat) : listedOnce FaultRecord.key (s.recordRaising k t).1.faults.records := by
  unfold State.recordRaising
  dsimp only
  split
  next r found =>
    have key : r.key = (k, t) := by simpa [FaultRecord.key] using List.find?_some found
    refine once.map fun e _ => ?_
    split
    next same =>
      obtain ⟨rfl, rfl⟩ : e.kind = k ∧ e.tower = t := by simpa using same
      exact key
    next => rfl
  next absent =>
    rw [State.faultRecord_eq_none] at absent
    split
    next room => exact once.snoc room absent
    split
    · split
      next v victim =>
        have room := State.removeRecords_length_lt (State.victim_mem victim)
        have left : listedOnce FaultRecord.key
            (s.removeRecords fun r => r.kind == v.kind && r.tower == v.tower).faults.records := by
          rw [State.removeRecords_faults]
          exact once.filter _
        refine left.snoc (room.trans_le once.1) fun r mem => absent r ?_
        rw [State.removeRecords_faults] at mem
        exact (List.mem_filter.1 mem).1
      next => exact once
    · exact once

namespace State.apart

theorem of_lists (h : s.apart notices faults) (queue : t.panel.notices = s.panel.notices)
    (records : t.faults.records = s.faults.records) : t.apart notices faults := by
  refine ⟨fun six => ?_, fun seven => ?_⟩
  · rw [queue]
    exact h.queue six
  · rw [records]
    exact h.records seven

/-- What leaves the panel port and the fault list leaves both laws. -/
theorem of_eq (h : s.apart notices faults) (panel : t.panel = s.panel := by simp) (list : t.faults = s.faults := by simp) :
    t.apart notices faults := h.of_lists (congrArg _ panel) (congrArg _ list)

theorem ite {p : Prop} [Decidable p] {u : State} (yes : t.apart notices faults) (no : u.apart notices faults) :
    State.apart notices faults (if p then t else u) := by
  split
  · exact yes
  · exact no

theorem foldl {α : Type} {f : State → α → State} (step : ∀ {u : State} (a : α), u.apart notices faults →
    (f u a).apart notices faults) (as : List α) (h : s.apart notices faults) : (as.foldl f s).apart notices faults := by
  induction as generalizing s with
  | nil => exact h
  | cons a as ih => exact ih (step a h)

/-- The panel port rewritten, its queue but for what tells no entries apart. -/
theorem setPanel (h : s.apart notices faults) {p : PanelPort} (queue : (p.notices.map Notice.key).Sublist
    (s.panel.notices.map Notice.key) := by simp) : State.apart notices faults { s with panel := p } :=
  ⟨fun six => (h.queue six).of_sublist queue, h.records⟩

/-! ### Notices (R160, R161) -/

theorem queueNotice (h : s.apart notices faults) (subject : Subject) (data : NoticeData) :
    (s.queueNotice subject data).apart notices faults := by
  refine ⟨fun six => ?_, by rw [State.queueNotice_faults]; exact h.records⟩
  have once := h.queue six
  by_cases held : ∃ n ∈ s.panel.notices, n.key = (data.kind, subject)
  · obtain ⟨n, mem, key⟩ := held
    obtain ⟨before, after, split⟩ := List.append_of_mem mem
    rw [State.queueNotice_coalesces once split key]
    refine once.of_sublist ?_
    have merged : (n.coalesce data).key = n.key := Prod.ext (congrArg Prod.fst key).symm rfl
    simp [State.queueing, split, merged]
  · have absent : ∀ n ∈ s.panel.notices, n.key ≠ (data.kind, subject) := fun n mem key => held ⟨n, mem, key⟩
    by_cases room : s.panel.notices.length < 32
    · rw [State.queueNotice_enters absent room]
      exact once.snoc room absent
    cases victim : s.displaceable (s.priority data.kind) with
    | none =>
      rw [State.queueNotice_drops absent room victim]
      exact once
    | some v =>
      rw [State.queueNotice_displaces absent room victim]
      have left := List.length_erase_of_mem (State.displaceable_mem victim)
      have few := once.1
      exact (once.of_sublist (List.erase_sublist.map _)).snoc (by omega) fun n mem => absent n (List.mem_of_mem_erase mem)

theorem transmit (h : s.apart notices faults) : s.transmit.apart notices faults := by
  unfold State.transmit
  dsimp only
  repeat' split
  case h_2 =>
    refine ⟨fun six => (h.queue six).map fun e _ => ?_, h.records⟩
    split <;> rfl
  case h_1 => exact h.setPanel
  all_goals exact h

/-! ### The fault list (R136, R137, R140) -/

/-- The fault list rewritten, each of its records one that may stand there. -/
theorem setFaults (h : s.apart notices faults) {l : FaultList}
    (listed : listedOnce FaultRecord.key s.faults.records → listedOnce FaultRecord.key l.records) :
    State.apart notices faults { s with faults := l } := ⟨h.queue, fun seven => listed (h.records seven)⟩

theorem latch (h : s.apart notices faults) (sel : FaultRecord → Bool) : (s.latch sel).apart notices faults := by
  refine h.setFaults fun once => once.map fun r _ => ?_
  split <;> rfl

theorem latchKind (h : s.apart notices faults) (k : FaultKind) (t : Option Nat) : (s.latchKind k t).apart notices faults :=
  h.latch _

theorem chainClears (h : s.apart notices faults) : s.chainClears.apart notices faults := by
  unfold State.chainClears
  split
  · exact h.latch _
  · exact h

theorem removeRecords (h : s.apart notices faults) (sel : FaultRecord → Bool) : (s.removeRecords sel).apart notices faults := by
  refine ⟨by rw [State.removeRecords_panel]; exact h.queue, fun seven => ?_⟩
  rw [State.removeRecords_faults]
  exact (h.records seven).filter _

theorem recordRaising (h : s.apart notices faults) (k : FaultKind) (t : Option Nat) :
    (s.recordRaising k t).1.apart notices faults :=
  ⟨by rw [State.recordRaising_panel]; exact h.queue, fun seven => State.recordRaising_listedOnce (h.records seven) k t⟩

/-! ### Quiet mode and changes of machine state (R75, R79, R84) -/

theorem restartQuiet (h : s.apart notices faults) : s.restartQuiet.apart notices faults := h.of_eq

theorem leaveQuiet (h : s.apart notices faults) : s.leaveQuiet.apart notices faults := by
  have woken : State.apart notices faults { s with span := s.wokenLine } := h.of_eq
  have told := woken.queueNotice .machine (.quiet true)
  by_cases quiet : s.span.mode = .quiet
  · rw [State.leaveQuiet_eq quiet]
    dsimp only
    split
    · exact told.of_eq
    · exact told
  · unfold State.leaveQuiet
    rwa [if_neg quiet]

theorem enterWith (h : s.apart notices faults) (announce : Bool) (m : MState) (d : Option Destination) (r : Option PassEnd)
    (o : Option Origin) : (s.enterWith announce m d r o).apart notices faults := by
  have entered : (s.setMachine m d r o).apart notices faults := h.of_eq
  have line {u : State} (hu : u.apart notices faults) : u.lineFollows.apart notices faults := by
    unfold State.lineFollows
    split
    · exact hu.restartQuiet
    split
    · exact hu.leaveQuiet.of_eq
    · exact hu.leaveQuiet
  have follows {u : State} (hu : u.apart notices faults) :
      ((u.recordFollows.lineFollows.angleFollows.levelsFollow s.run.mstate).marksFollow).apart notices faults :=
    State.apart.of_eq (line (hu.of_eq (t := u.recordFollows)))
  unfold State.enterWith
  dsimp only
  split
  · exact follows (entered.queueNotice ..)
  · exact follows entered

theorem enter (h : s.apart notices faults) (m : MState) (d : Option Destination) (r : Option PassEnd) (o : Option Origin) :
    (s.enter m d r o).apart notices faults := h.enterWith ..

theorem putRun (h : s.apart notices faults) (r : RunController) : State.apart notices faults { s with run := r } := h.of_eq

theorem rewriteRecord (h : s.apart notices faults) (c : Option (Nat × Bool)) : (s.rewriteRecord c).apart notices faults :=
  h.of_eq

theorem setRun (h : s.apart notices faults) (f : RunController → RunController) : (s.setRun f).apart notices faults := h.of_eq

theorem redirect (h : s.apart notices faults) (d : Destination) (r : Option PassEnd) :
    (s.redirect d r).apart notices faults := by
  have told {data : NoticeData} := (h.putRun { s.run with dest := some d, reason := r }).queueNotice .machine data
  exact told.rewriteRecord none

theorem endPass (h : s.apart notices faults) (r : PassEnd) : (s.endPass r).apart notices faults :=
  (h.setRun _).queueNotice ..

/-! ### PRESTART and STOPPING, and the steering of a pass -/

theorem prestartTest (h : s.apart notices faults) : s.prestartTest.apart notices faults := by
  unfold State.prestartTest
  split
  · exact (h.setRun _).enter ..
  · exact h

theorem enterPrestart (h : s.apart notices faults) (o : Origin) : (s.enterPrestart o).apart notices faults := by
  unfold State.enterPrestart
  exact ((h.putRun _).enter ..).prestartTest

theorem stoppingTest (h : s.apart notices faults) : s.stoppingTest.apart notices faults := by
  have cut : ((s.setRun fun c => { c with stopTimer := none }).cutFrame).apart notices faults := h.of_eq
  unfold State.stoppingTest
  dsimp only
  repeat' split
  · exact (cut.endPass _).enter ..
  · exact cut.enter ..
  · exact (cut.setRun _).enterPrestart _
  · exact h
  · exact h

theorem enterStopping (h : s.apart notices faults) (d : Destination) (r : Option PassEnd) :
    (s.enterStopping d r).apart notices faults := by
  unfold State.enterStopping
  exact ((h.putRun _).enter ..).stoppingTest

theorem takeStop (h : s.apart notices faults) {r : PassEnd} (taken : s.takeStop r = some t) : t.apart notices faults := by
  unfold State.takeStop at taken
  split at taken <;> cases taken
  · exact h.enterStopping ..
  · exact h.enterStopping ..
  · split
    · exact h
    · exact h.redirect ..
  · exact ((h.setRun _).endPass _).enter ..
  · exact ((h.setRun _).endPass _).enter ..

theorem takeReverse (h : s.apart notices faults) (taken : s.takeReverse = some t) : t.apart notices faults := by
  unfold State.takeReverse at taken
  split at taken <;> cases taken
  · exact h.enterStopping ..
  · exact h.of_eq

theorem takePace (h : s.apart notices faults) {v : Nat} (taken : s.takePace v = some t) : t.apart notices faults := by
  unfold State.takePace at taken
  split at taken <;> cases taken <;> exact h.setRun _

theorem holdRequest (h : s.apart notices faults) : s.holdRequest.apart notices faults := by
  unfold State.holdRequest
  repeat' split
  · exact h.enterStopping ..
  · exact (h.setRun _).enter ..
  · exact h.redirect ..
  · exact h
  · exact h

theorem tripRequest (h : s.apart notices faults) (k : FaultKind) : (s.tripRequest k).apart notices faults := by
  unfold State.tripRequest
  dsimp only
  split
  · exact (State.apart.endPass (h.of_eq) _).enter ..
  · exact h

theorem raise (h : s.apart notices faults) (k : FaultKind) (t : Option Nat) : (s.raise k t).apart notices faults := by
  have frozen : ((s.recordRaising k t).1.freezeSlip k t (s.recordRaising k t).2).apart notices faults :=
    (h.recordRaising k t).of_eq
  have acts {u : State} (hu : u.apart notices faults) (r : Raising) : (u.actOnRaising k r).apart notices faults := by
    unfold State.actOnRaising
    repeat' split
    · exact hu.holdRequest
    · exact hu
    · exact hu
    · exact hu.tripRequest k
  exact acts (frozen.queueNotice ..) _

end State.apart

end Sys2Proof.Machine
end

section
/-! SUPPORT. Laws 6 and 7 through the operations of the single blocks and every command (O5). Its many short proofs are
elaborated one after another: all at once, behind the rest of the text, their threads would exhaust the memory allowed. -/

namespace Sys2Proof.Machine

set_option Elab.async false

variable {s t : State} {notices faults : Prop}

namespace State.apart

/-! ### The fault list (chapter 8) -/

theorem setDyn (h : s.apart notices faults) (k : Nat) (f : TowerDynamic → TowerDynamic) :
    (s.setDyn k f).apart notices faults := h.of_eq

theorem changeMode (h : s.apart notices faults) (k : FaultKind) (deferred : Bool) :
    (s.changeMode k deferred).apart notices faults := by
  have remoded : State.apart notices faults { s with faults := { s.faults with
      modes := s.faults.modes.put k deferred
      records := s.faults.records.map (Posture.remode k (if deferred then .deferred else .immediate)) } } := by
    refine h.setFaults fun once => once.map fun r _ => ?_
    unfold Posture.remode
    split <;> rfl
  have frozen {u : State} (hu : u.apart notices faults) : u.freezeHeld.apart notices faults :=
    hu.of_eq (State.setDyns_panel ..) (State.setDyns_faults ..)
  exact ite (ite (frozen remoded) remoded) (ite remoded.holdRequest remoded)

theorem takeSetFaultMode (h : s.apart notices faults) (kind mode : Byte) :
    (s.takeSetFaultMode kind mode).1.apart notices faults := by
  unfold State.takeSetFaultMode
  split
  · split
    · exact h
    · rw [apply_ite Prod.fst]
      exact ite h (h.changeMode ..)
  · exact h

theorem takeFaultClear (h : s.apart notices faults) (sel kind tower : Byte) :
    (s.takeFaultClear sel kind tower).1.apart notices faults := by
  unfold State.takeFaultClear
  split
  · exact h
  · exact h.removeRecords _

theorem faultExamine (h : s.apart notices faults) (k : Nat) (r : Report) : (s.faultExamine k r).apart notices faults := by
  have warn (a : Nat) : (s.warnCheck k a).apart notices faults :=
    ite (ite ((h.setDyn ..).raise ..) (h.setDyn ..)) ((h.setDyn ..).latchKind ..)
  have trip {u : State} (hu : u.apart notices faults) (a : Nat) : (u.tripCheck k a).apart notices faults := by
    have marked (m : Vector Bool 16) : State.apart notices faults { u with faults := { u.faults with tripMarks := m } } :=
      hu.setFaults id
    exact ite (ite hu ((marked _).raise ..)) (marked _)
  have switch {u : State} (hu : u.apart notices faults) : (u.switchCheck k r).apart notices faults :=
    ite (hu.raise ..) hu
  have joints : State.apart notices faults (if k < s.towerCount then
      (s.warnCheck k (jointAngle (some r)).natAbs).tripCheck k (jointAngle (some r)).natAbs else s) := ite (trip (warn _) _) h
  exact (switch joints).chainClears

theorem chainChanged (h : s.apart notices faults) : s.chainChanged.apart notices faults :=
  ite h.chainClears (ite (h.raise ..) h)

/-! ### The run controller (chapter 5) -/

/-- A run request does, where it is taken, what has to be told. -/
theorem runCheck (h : s.apart notices faults) {taken : Option (State × Answer)}
    (acts : ∀ p, taken = some p → p.1.apart notices faults) : (s.runCheck taken).1.apart notices faults := by
  unfold State.runCheck
  split
  · exact h
  · cases taken with
    | none => exact h
    | some p => exact acts p rfl

theorem runCheck_map (h : s.apart notices faults) {taken : Option State} {answer : State → Answer}
    (acts : ∀ t, taken = some t → t.apart notices faults) :
    (s.runCheck (taken.map fun t => (t, answer t))).1.apart notices faults := by
  refine h.runCheck fun p hp => ?_
  obtain ⟨t, ht, rfl⟩ := Option.map_eq_some_iff.1 hp
  exact acts t ht

theorem takeStartPass (h : s.apart notices faults) (d : Byte) (p : U16) (pr : Byte) (sa : U16) (c : Byte) :
    (s.takeStartPass d p pr sa c).1.apart notices faults := by
  refine h.runCheck fun q hq => ?_
  dsimp only at hq
  generalize (if pr.getLsbD 0 then some sa.toNat else none) = stop at hq
  generalize (if pr.getLsbD 1 then some c.toNat else none) = target at hq
  repeat' split at hq
  all_goals cases hq
  · exact h
  · exact h
  · exact h
  · exact (h.setRun _).enterPrestart _

theorem takeHold (h : s.apart notices faults) : s.takeHold.1.apart notices faults := by
  refine h.runCheck fun q hq => ?_
  split at hq <;> cases hq
  exact h.enterStopping ..

theorem takeResume (h : s.apart notices faults) : s.takeResume.1.apart notices faults := by
  refine h.runCheck fun q hq => ?_
  repeat' split at hq
  all_goals cases hq
  · exact h
  · exact h
  · exact h.enterPrestart _

theorem takeTripReset (h : s.apart notices faults) : s.takeTripReset.1.apart notices faults := by
  refine h.runCheck fun q hq => ?_
  dsimp only at hq
  repeat' split at hq
  all_goals cases hq
  · exact h
  · exact h
  · exact ((h.removeRecords _).setRun _).enter ..

theorem runOut (h : s.apart notices faults) (t : Timer) : (s.runOut t).apart notices faults := h.of_eq

theorem runTo (h : s.apart notices faults) (n : Nat) : (s.runTo n).apart notices faults := h.of_eq

theorem prestartExpires (h : s.apart notices faults) : s.prestartExpires.apart notices faults := by
  unfold State.prestartExpires
  split
  · exact ((h.runOut _).setRun _).prestartTest
  · exact h

theorem startFails (h : s.apart notices faults) : s.startFails.apart notices faults := by
  unfold State.startFails
  split
  · exact (((h.runOut _).setRun _).enter ..).queueNotice ..
  · exact h

theorem stopTimesOut (h : s.apart notices faults) : s.stopTimesOut.apart notices faults := by
  unfold State.stopTimesOut
  split
  · exact ((h.runOut _).setRun _).raise ..
  · exact h

theorem passCheck (h : s.apart notices faults) (p : Nat) (x : Int) : (s.passCheck p x).apart notices faults := by
  unfold State.passCheck
  repeat' split
  · exact h.enterStopping ..
  · exact h.enterStopping ..
  · exact h
  · exact h

/-! ### The sector table (chapter 6) and the watch unit (chapter 7) -/

theorem setSectors (h : s.apart notices faults) (c : SectorTable) : State.apart notices faults { s with sectors := c } := h.of_eq

theorem takeSetSectors (h : s.apart notices faults) (m : Byte) (es : List SectorEntry) :
    (s.takeSetSectors m es).1.apart notices faults := by
  obtain ⟨b, p, written, -⟩ := s.takeSetSectors_builds m es
  exact written ▸ h.setSectors _

theorem setWatch (h : s.apart notices faults) (w : WatchUnit) : State.apart notices faults { s with watch := w } := h.of_eq

theorem takeSetWatch (h : s.apart notices faults) (n en : Byte) (ref hw : U16) (d c m a : Byte) (arg : U16) (rept : Byte) :
    (s.takeSetWatch n en ref hw d c m a arg rept).1.apart notices faults := by
  unfold State.takeSetWatch
  dsimp only
  repeat' split
  all_goals exact h.setWatch _

theorem takeSetAux (h : s.apart notices faults) (o m : Byte) : (s.takeSetAux o m).1.apart notices faults := by
  unfold State.takeSetAux
  dsimp only
  repeat' split
  all_goals exact h.setWatch _

theorem sectorSample (h : s.apart notices faults) (d : Option Direction) (q : Nat) :
    (s.sectorSample d q).apart notices faults := by
  have capped : (s.installPending.establishCap q).apart notices faults := h.of_eq
  have overrun {u : State} (hu : u.apart notices faults) : (u.overrunCheck q).apart notices faults :=
    ite (hu.raise ..) hu
  have act {u : State} (hu : u.apart notices faults) (c : Sector) : (u.barrierAct c).apart notices faults := by
    unfold State.barrierAct
    split
    · exact hu.enterStopping ..
    · exact hu.enterStopping ..
    · exact hu
  have approach {u : State} (hu : u.apart notices faults) (d : Direction) : (u.approachCheck d q).apart notices faults := by
    unfold State.approachCheck
    repeat' split
    · exact act (hu.setSectors _) _
    · exact hu
    · exact hu
  unfold State.sectorSample
  cases d with
  | none => exact capped.setSectors _
  | some d => exact (approach (overrun capped) d).setSectors _

theorem watchSample (h : s.apart notices faults) (p q : Nat) (x : Int) : (s.watchSample p q x).apart notices faults := by
  have act {u : State} (hu : u.apart notices faults) (a : WatchAction) : (u.watchAct a).1.apart notices faults := by
    have taken (o : Option State) (ho : ∀ t, o = some t → t.apart notices faults) :
        (u.orRefused o).1.apart notices faults := by
      cases o with
      | none => exact hu
      | some t => exact ho t rfl
    cases a with
    | notice => exact hu
    | auxOn n | auxOff n => exact hu.setWatch _
    | stop => exact taken _ fun t => hu.takeStop
    | reverse => exact taken _ fun t => hu.takeReverse
    | pace v => exact taken _ fun t => hu.takePace
  have test {u : State} (n : Nat) (d : Direction) (c : Crossing) (hu : u.apart notices faults) :
      (State.testCrossing n d u c).apart notices faults := by
    unfold State.testCrossing
    dsimp only
    split
    · exact (act (hu.setWatch _) _).queueNotice ..
    · exact hu
  unfold State.watchSample
  split
  · exact h
  · exact .foldl (fun n hu => .foldl (fun c hv => test n _ c hv) _ hu) _ h

/-! ### The angle unit (chapter 2) -/

theorem setAngle (h : s.apart notices faults) (a : AngleUnit) : State.apart notices faults { s with angle := a } := h.of_eq

theorem handOver (h : s.apart notices faults) (o : SampleOrder) (d : Direction) (p q : Nat) (x : Int) :
    (s.handOver o d p q x).apart notices faults := by
  have run {u : State} (hu : u.apart notices faults) := hu.passCheck p x
  have sector {u : State} (hu : u.apart notices faults) := hu.sectorSample (some d) q
  have watch {u : State} (hu : u.apart notices faults) := hu.watchSample p q x
  cases o with
  | rsw => exact watch (sector (run h))
  | rws => exact sector (watch (run h))
  | srw => exact watch (run (sector h))
  | swr => exact run (watch (sector h))
  | wrs => exact sector (run (watch h))
  | wsr => exact run (sector (watch h))

theorem pivotDrift (h : s.apart notices faults) (x : Option Int) (q : Nat) : (s.pivotDrift x q).apart notices faults := by
  refine ite ?_ h
  split
  · exact h.setAngle _
  · exact ite ((h.raise ..).setAngle _) h

theorem holdAngle (h : s.apart notices faults) (q : Nat) : (s.holdAngle q).apart notices faults :=
  ite ((h.setAngle _).latchKind ..) (h.setAngle _)

theorem validSample (h : s.apart notices faults) (q : Nat) (o : SampleOrder) : (s.validSample q o).apart notices faults := by
  unfold State.validSample
  split
  · exact ((h.holdAngle q).sectorSample none q).pivotDrift none q
  · exact ((((h.holdAngle q).setRun _).handOver ..).setAngle _).pivotDrift ..

theorem invalidSample (h : s.apart notices faults) : s.invalidSample.apart notices faults :=
  ite ((h.setAngle _).raise ..) (h.setAngle _)

theorem readCompletes (h : s.apart notices faults) (q : Nat) (e : Bool) (o : SampleOrder) :
    (s.readCompletes q e o).apart notices faults := by
  have ended : s.endRead.apart notices faults := h.setAngle _
  exact ite (ite (ended.validSample q o) ended.invalidSample) h

theorem readTimesOut (h : s.apart notices faults) : s.readTimesOut.apart notices faults :=
  ite ((h.runTo _).setAngle _).invalidSample h

theorem angleExamine (h : s.apart notices faults) (k : Nat) (p : Option Report) (r : Report) :
    (s.angleExamine k p r).1.apart notices faults := by
  have closes (w : SlipWindow) : (s.closeWindow k w r.wheel).apart notices faults :=
    ite ((((h.setDyn ..).setAngle _).setAngle _).raise ..) (((h.setDyn ..).setAngle _).setAngle _)
  have slip : (s.slipExamine k r).apart notices faults := by
    unfold State.slipExamine
    split
    · exact ite (closes _) h
    · exact ite (h.setAngle _) h
  have stall {u : State} (hu : u.apart notices faults) : (u.stallExamine k p r).apart notices faults := by
    unfold State.stallExamine
    dsimp only
    repeat' split
    · exact hu.setDyn ..
    · exact (hu.setDyn ..).latchKind ..
    · exact hu.setDyn ..
  have halt {u : State} (hu : u.apart notices faults) : (u.haltExamine k r).1.apart notices faults := by
    have counted (f : TowerDynamic → TowerDynamic) := hu.setDyn k f
    unfold State.haltExamine
    dsimp only
    repeat' split
    all_goals dsimp only
    · exact ((counted _).raise ..).setDyn k _
    · exact counted _
    · exact counted _
  exact halt (stall slip)

theorem stallExpires (h : s.apart notices faults) (k : Nat) : (s.stallExpires k).apart notices faults := by
  unfold State.stallExpires
  split
  · exact (h.setDyn ..).raise ..
  · exact h

theorem stallTimerExpires (h : s.apart notices faults) (k : Nat) : (s.stallTimerExpires k).apart notices faults := by
  unfold State.stallTimerExpires
  split
  · exact (h.runTo _).stallExpires k
  · exact h

/-! ### The tower table (chapter 1) -/

theorem setTable (h : s.apart notices faults) (t : TowerTable) : State.apart notices faults { s with table := t } := h.of_eq

theorem setSpan (h : s.apart notices faults) (l : SpanMaster) : State.apart notices faults { s with span := l } := h.of_eq

theorem setEngine (h : s.apart notices faults) (e : OrderEngine) : State.apart notices faults { s with engine := e } := h.of_eq

theorem changeMembers (h : s.apart notices faults) (old : Nat) : (s.changeMembers old).apart notices faults := by
  have reset {u : State} (k : Nat) (hu : u.apart notices faults) : (u.resetMember k).apart notices faults :=
    hu.of_lists rfl rfl
  unfold State.changeMembers
  dsimp only
  repeat' split
  · exact (State.apart.latch (.foldl reset _ h) _).setSpan _
  · exact State.apart.latch (.foldl reset _ h) _
  · exact State.apart.latch (.foldl reset _ h) _

theorem agreeMisses (h : s.apart notices faults) (k : Nat) : (s.agreeMisses k).apart notices faults := by
  unfold State.agreeMisses
  dsimp only
  repeat' split
  · exact (h.setDyn ..).raise ..
  · exact h.setDyn ..
  · exact h.setDyn ..

theorem fieldApplied (h : s.apart notices faults) (w : FieldWrite) : (s.fieldApplied w).apart notices faults := by
  have silence : s.silenceApplied.apart notices faults := by
    unfold State.silenceApplied
    dsimp only
    repeat' split
    · exact h.setPanel
    · exact h.setPanel
    · exact h
  unfold State.fieldApplied
  split
  · exact silence
  · exact h.setAngle _
  · exact h.setAngle _
  · repeat' split
    · exact h.stallExpires _
    · exact h
    · exact h
  · exact h

theorem applyWrites (h : s.apart notices faults) (ws : List FieldWrite) : (s.applyWrites ws).apart notices faults := by
  have written : (s.writeFields ws).apart notices faults := h.of_eq
  have members {u : State} (hu : u.apart notices faults) (old : Nat) :
      State.apart notices faults (if u.towerCount = old then u else u.changeMembers old) := by
    split
    · exact hu
    · exact hu.changeMembers old
  have interval {u : State} (hu : u.apart notices faults) :
      State.apart notices faults (if writes ws (.machine .driveInterval) then u.restartInterval else u) := by
    split
    · exact hu.of_eq
    · exact hu
  have limit {u : State} (hu : u.apart notices faults) :
      State.apart notices faults (if writes ws (.machine .missLimit) then u.members.foldl State.agreeMisses u else u) := by
    split
    · exact .foldl (fun k hv => hv.agreeMisses k) _ hu
    · exact hu
  exact .foldl (fun w hu => hu.fieldApplied w) ws (limit (interval (members written _)))

theorem applyPending (h : s.apart notices faults) : s.applyPending.apart notices faults := (h.setTable _).applyWrites _

theorem takeWrite (h : s.apart notices faults) (ws : List FieldWrite) (stray : Bool) (consistent : State → Bool) :
    (s.takeWrite ws stray consistent).1.apart notices faults := by
  have settles {u : State} (hu : u.apart notices faults) : u.settleCompleteness.apart notices faults := by
    unfold State.settleCompleteness
    dsimp only
    repeat' split
    · exact (hu.enter ..).setEngine _
    · exact ((hu.enter ..).setEngine _).applyPending
    · exact hu
  have applied : (s.applyOrStage ws).apart notices faults := by
    unfold State.applyOrStage
    split
    · exact settles ((h.setTable _).applyWrites _)
    · exact h.setTable _
  unfold State.takeWrite
  repeat' split
  · exact h
  · exact h
  · exact h
  · exact applied

/-! ### The span line (chapter 4) and the order engine (chapter 3) -/

theorem takeReport (h : s.apart notices faults) (kind : SlotKind) (k : Nat) (f : ReportFrame) :
    (s.takeReport kind k f).apart notices faults := by
  have judged {u : State} (hu : u.apart notices faults) (d : TowerDynamic) (r : Report) (b : Bool) :
      (u.judgeReport kind d r b).apart notices faults := by
    rw [State.judgeReport_eq]
    repeat' split
    · exact hu
    · exact hu.leaveQuiet
    · exact hu.restartQuiet
    · exact hu.leaveQuiet
    · exact hu
  unfold State.takeReport
  dsimp only
  generalize hu : (if (s.tower k).dyn.link = .missing ∨ (s.tower k).dyn.link = .lost then _ else _) = u
  have linked : u.apart notices faults := hu ▸ ite (((h.setDyn ..).latchKind ..).latchKind ..) (h.setDyn ..)
  refine (judged (State.apart.faultExamine (State.apart.angleExamine ?_ ..) ..) ..).prestartTest.stoppingTest
  exact ite (linked.raise ..) linked

theorem spanByte (h : s.apart notices faults) (b : Byte) : (s.spanByte b).apart notices faults := by
  have examined {u : State} (hu : u.apart notices faults) (f : ReportFrame) : (u.examineReport f).apart notices faults := by
    unfold State.examineReport
    repeat' split
    · exact State.apart.takeReport (hu.setSpan _) ..
    · exact hu
    · exact hu
  unfold State.spanByte
  split
  · exact h
  dsimp only
  split
  · exact examined (h.setSpan _) _
  · exact h.setSpan _

theorem countMiss (h : s.apart notices faults) (k : Nat) : (s.countMiss k).apart notices faults := by
  unfold State.countMiss
  dsimp only
  repeat' split
  · exact h
  · exact ((h.setDyn ..).raise ..).raise ..
  · exact (h.setDyn ..).raise ..
  · exact (h.setDyn ..).raise ..
  · exact h.setDyn ..
  · exact h.setDyn ..

theorem windowExpires (h : s.apart notices faults) : s.windowExpires.apart notices faults := by
  have waiting (n : Nat) (sl : Slot) : ((s.runTo n).setPhase sl .waiting).apart notices faults := h.of_eq
  unfold State.windowExpires
  dsimp only
  repeat' split
  · exact waiting ..
  · exact ((waiting ..).countMiss _).leaveQuiet
  · exact h
  · exact h

theorem spanFrameEnds (h : s.apart notices faults) : s.spanFrameEnds.apart notices faults := by
  unfold State.spanFrameEnds
  repeat' split
  all_goals exact h.of_eq

theorem slotEnds (h : s.apart notices faults) : s.slotEnds.apart notices faults := by
  unfold State.slotEnds State.afterSlot
  dsimp only
  repeat' split
  all_goals exact h.of_eq

theorem quietExpires (h : s.apart notices faults) : s.quietExpires.apart notices faults := by
  have enters {u : State} (hu : u.apart notices faults) : u.enterQuiet.apart notices faults := by
    have told := (hu.setSpan u.quietLine).queueNotice .machine (.quiet false)
    rw [u.enterQuiet_eq]
    dsimp only
    split
    · exact told.of_eq
    · exact told.setSpan _
  unfold State.quietExpires
  repeat' split
  · exact enters (h.runOut _)
  · exact (h.runOut _).restartQuiet
  · exact h

theorem surveyExpires (h : s.apart notices faults) : s.surveyExpires.apart notices faults := by
  unfold State.surveyExpires
  dsimp only
  repeat' split
  all_goals exact h.of_eq

theorem intervalExpires (h : s.apart notices faults) : s.intervalExpires.apart notices faults := by
  have handed {u : State} (hu : u.apart notices faults) (os : OrderSet) : (u.handSet os).apart notices faults := by
    have round {v : State} (hv : v.apart notices faults) :
        State.apart notices faults (if v.span.mode = .active ∧ v.span.slot = none then v.beginDriveRound else v) :=
      ite hv.of_eq hv
    have held {v : State} (hv : v.apart notices faults) : State.apart notices faults { v with
        engine := { v.engine with direction := os.direction }, span := { v.span with setInterval := some os.interval } } :=
      hv.of_eq
    unfold State.handSet
    dsimp only
    exact round (held (.foldl (fun _ hv => hv.setDyn ..) _ hu))
  unfold State.intervalExpires
  split
  · exact ((handed ((((h.runOut _).applyPending).setEngine _).setEngine _) _).setEngine _).stoppingTest
  · exact h

/-! ### The store and the resets (chapter 10) -/

theorem setStore (h : s.apart notices faults) (c : ConfigStore) : State.apart notices faults { s with store := c } := h.of_eq

theorem takeStoreConfig (h : s.apart notices faults) (pr po : Byte) (d t : U16) :
    (s.takeStoreConfig pr po d t).1.apart notices faults := by
  unfold State.takeStoreConfig
  repeat' split
  · exact h
  · exact h
  · exact (h.setStore _).setStore _

theorem writeCompletes (h : s.apart notices faults) (verified : Bool) : (s.writeCompletes verified).apart notices faults := by
  have ready {u : State} (hu : u.apart notices faults) (a : Answer) : (u.makeReady a).apart notices faults := by
    unfold State.makeReady
    split
    · exact hu.setPanel
    · exact hu
  unfold State.writeCompletes
  split
  · exact ready (h.setStore _) _
  · exact h

/-- The record of the trip kind retained enters a list with room that holds none of it (R177). -/
theorem restoreTrip (h : s.apart notices faults) (k : FaultKind) : (s.restoreTrip k).apart notices faults := by
  unfold State.restoreTrip
  dsimp only
  split
  next absent =>
    obtain ⟨absent, room⟩ := absent
    refine h.setFaults fun once => once.snoc room ?_
    exact State.faultRecord_eq_none.1 (Option.isNone_iff_eq_none.1 absent)
  next => exact h

theorem powerReturn (h : s.apart notices faults) (announce : Bool) : (s.powerReturn announce).apart notices faults := by
  unfold State.powerReturn
  dsimp only
  repeat' split
  · exact h.enterWith ..
  · exact h.enterWith ..
  · exact State.apart.enterWith ((h.restoreTrip _).setRun _) ..
  · exact State.apart.enterWith (h.setRun _) ..
  · exact (h.enterWith ..).queueNotice ..
  · exact State.apart.enterWith (h.setRun _) ..
  · exact (h.enterWith ..).queueNotice ..
  · exact State.apart.enterWith (h.setRun _) ..
  · exact (State.apart.enterWith ((h.setRun _).setRun _) ..).queueNotice ..

theorem powerFails (h : s.apart notices faults) : s.powerFails.apart notices faults := by
  have zeroed {u : State} (hu : u.apart notices faults) : u.zeroOrders.apart notices faults := hu.of_eq
  exact ite h (((zeroed (h.rewriteRecord _)).setRun _).enter ..)

theorem powerReturns (h : s.apart notices faults) : s.powerReturns.apart notices faults := by
  unfold State.powerReturns
  split
  · exact h.powerReturn true
  · exact h

theorem recoveryExpires (h : s.apart notices faults) : s.recoveryExpires.apart notices faults := by
  unfold State.recoveryExpires
  dsimp only
  repeat' split
  · exact (((h.runOut _).setRun _).enterPrestart _).queueNotice ..
  · exact ((((h.runOut _).setRun _).setRun _).enter ..).queueNotice ..
  · exact h

theorem decide (h : s.apart notices faults) : s.decide.apart notices faults := by
  unfold State.decide State.stoppedAtReset
  dsimp only
  repeat' split
  · exact (h.setStore _).queueNotice ..
  · exact h.setStore _
  · exact h.setRun _
  · exact h.powerReturn false
  · exact (h.enterWith ..).setStore _

/-- A reset begins with an empty queue and an empty list. -/
theorem fresh (s : State) : s.fresh.apart notices faults := ⟨fun _ => listedOnce_nil, fun _ => listedOnce_nil⟩

theorem resetPart (device : Bool) (s : State) : (s.resetPart device).apart notices faults := by
  have restarted := (fresh (notices := notices) (faults := faults) s.loseWrite).queueNotice .machine (.restarted device)
  have timed {u : State} (hu : u.apart notices faults) : u.startTimers.apart notices faults := hu.of_lists rfl rfl
  unfold State.resetPart
  dsimp only
  split
  · exact (timed restarted).decide
  · exact (timed (restarted.queueNotice ..)).decide

/-! ### The panel port (chapter 9) -/

theorem noteTaken (h : s.apart notices faults) (r : Request) : (s.noteTaken r).apart notices faults := by
  have line : State.apart notices faults (if s.span.mode = .active then s.restartQuiet else s.leaveQuiet) := by
    split
    · exact h.restartQuiet
    · exact h.leaveQuiet
  unfold State.noteTaken
  dsimp only
  split
  · exact line.latchKind ..
  · exact (line.latchKind ..).setPanel

theorem takeNoticeFetch (h : s.apart notices faults) : s.takeNoticeFetch.1.apart notices faults := by
  unfold State.takeNoticeFetch
  dsimp only
  split
  · exact h.setPanel (List.filter_sublist.map _)
  · exact h.setPanel

theorem serve (h : s.apart notices faults) (wake : Bool) (r : Request) : (s.serve wake r).1.apart notices faults := by
  obtain ⟨readTower, -, -, readSectors, -, -, faultList, -⟩ := State.otherRequests_core (s := s)
  cases r with
  | configMachine p vs =>
    change (s.takeConfigMachine p vs).1.apart notices faults
    unfold State.takeConfigMachine
    exact h.takeWrite ..
  | configTower k p vs =>
    change (s.takeConfigTower k p vs).1.apart notices faults
    unfold State.takeConfigTower
    dsimp only
    split
    · exact h
    · exact h.takeWrite ..
  | storeConfig pr po d t => exact h.takeStoreConfig ..
  | startPass d p pr sa c => exact h.takeStartPass ..
  | setPace p => exact h.runCheck_map fun _ => h.takePace
  | stopPass => exact h.runCheck_map fun _ => h.takeStop
  | hold => exact h.takeHold
  | resume => exact h.takeResume
  | reverse => exact h.runCheck_map fun _ => h.takeReverse
  | tripReset => exact h.takeTripReset
  | setFaultMode k m => exact h.takeSetFaultMode ..
  | faultClear sel k t => exact h.takeFaultClear ..
  | readTower k => exact (readTower k).symm ▸ h
  | readSectors c n => exact (readSectors c n).symm ▸ h
  | faultList p => exact (faultList p).symm ▸ h
  | setSectors m es => exact h.takeSetSectors ..
  | setWatch n en r w d c st a g rp => exact h.takeSetWatch ..
  | setAux o m => exact h.takeSetAux ..
  | setNoticePriority k p =>
    change (s.takeSetNoticePriority k p).1.apart notices faults
    unfold State.takeSetNoticePriority
    repeat' split
    all_goals exact h.setPanel
  | setNoticeMask l =>
    change (s.takeSetNoticeMask l).1.apart notices faults
    unfold State.takeSetNoticeMask
    split <;> exact h.setPanel
  | noticeFetch => exact h.takeNoticeFetch
  | setWakeFilter n u k sub p =>
    change (s.takeSetWakeFilter n u k sub p).1.apart notices faults
    unfold State.takeSetWakeFilter
    dsimp only
    repeat' split
    all_goals exact h.setPanel
  | panelSleep => exact h.setPanel (p := { s.panel with asleep := true, wakeLine := false, silenceTimer := none })
  | readMachine | readWatches | resetDevice | panelAwake | readPort | unknown | badLength => exact h

theorem take (h : s.apart notices faults) (f : PanelFrame) : (s.take f).apart notices faults :=
  ((h.noteTaken (parseRequest f)).serve s.panel.wakeLine (parseRequest f)).setPanel (.refl _)

theorem arrive (h : s.apart notices faults) (f : PanelFrame) : (s.arrive f).apart notices faults := by
  unfold State.arrive
  repeat' split
  · exact h.setPanel
  · exact h.take f
  · exact h.setPanel

theorem submitFrame (h : s.apart notices faults) (f : PanelFrame) : (s.submitFrame f).apart notices faults := by
  unfold State.submitFrame
  split
  · exact (h.setPanel).arrive f
  · exact h

theorem panelByte (h : s.apart notices faults) (b : Byte) : (s.panelByte b).apart notices faults := by
  unfold State.panelByte
  dsimp only
  split
  · exact (State.apart.arrive h.setPanel _).transmit
  · exact h.setPanel

theorem replyEnds (h : s.apart notices faults) : s.replyEnds.apart notices faults := by
  have next {u : State} (hu : u.apart notices faults) : u.takeNext.apart notices faults := by
    unfold State.takeNext
    split
    · exact State.apart.take hu.setPanel _
    · exact hu
  unfold State.replyEnds
  repeat' split
  · exact resetPart ..
  · exact next h.setPanel
  · exact h

/-- The end of a notice frame removes its entry or keeps it in its place (R162). -/
theorem noticeEnds (h : s.apart notices faults) : s.noticeEnds.apart notices faults := by
  have left (l : List Notice) : ((l.filterMap Notice.sent).map Notice.key).Sublist (l.map Notice.key) := by
    induction l with
    | nil => exact .slnil
    | cons n l ih =>
      rw [List.filterMap_cons, List.map_cons]
      unfold Notice.sent
      split
      next => exact ih.cons _
      next n' kept =>
        have same : n'.key = n.key := by
          split at kept <;> cases kept <;> rfl
        rw [List.map_cons, same]
        exact ih.cons_cons _
  unfold State.noticeEnds
  split
  · exact h.setPanel (left _)
  · exact h

theorem silenceExpires (h : s.apart notices faults) : s.silenceExpires.apart notices faults := by
  unfold State.silenceExpires
  split
  · exact State.apart.raise (State.apart.setPanel (h.runOut _)) ..
  · exact h

end State.apart

/-! ### Every command -/

theorem event_apart {f : State → State} (h : s.apart notices faults) (acts : (f s).apart notices faults)
    (ht : event f s = .next t) : t.apart notices faults := by
  cases ht
  split
  · exact acts.transmit
  · exact h

theorem State.apart.setInputs (h : s.apart notices faults) (i : Inputs) :
    State.apart notices faults { s with inputs := i } := h.of_eq

/-- Every command keeps both laws. -/
theorem exec_apart (c : Instr) (h : s.apart notices faults) (ht : exec c s = .next t) : t.apart notices faults := by
  cases frame : c.frame with
  | some f =>
    rw [exec_of_frame frame] at ht
    exact event_apart h (h.submitFrame f) ht
  | none =>
    cases c with
    | panelFrameComplete bytes =>
      exact event_apart (f := fun s => bytes.foldl State.panelByte s) h (.foldl (fun b hu => hu.panelByte b) bytes h) ht
    | panelFrameGap b =>
      exact event_apart (f := fun s => ({ s with panel := { s.panel with rx := [] } } : State).panelByte b) h
        (State.apart.panelByte h.setPanel b) ht
    | panelFrameLengthAbove120 b =>
      refine event_apart h ?_ ht
      split
      · exact h.panelByte b
      · exact h
    | replySent => exact event_apart h h.replyEnds ht
    | noticeFrameSent => exact event_apart h h.noticeEnds ht
    | panelSilenceExpiry => exact event_apart h h.silenceExpires ht
    | driveIntervalExpiry => exact event_apart h h.intervalExpires ht
    | slotEnd => exact event_apart h h.slotEnds ht
    | spanFrameSent => exact event_apart h h.spanFrameEnds ht
    | quietTimerExpiry => exact event_apart h h.quietExpires ht
    | surveyTimerExpiry => exact event_apart h h.surveyExpires ht
    | replyWindowExpiry => exact event_apart h h.windowExpires ht
    | reportReceived bytes =>
      exact event_apart (f := fun s => bytes.foldl State.spanByte s) h (.foldl (fun b hu => hu.spanByte b) bytes h) ht
    | spanFrameGap b =>
      exact event_apart (f := fun s => ({ s with span := { s.span with rx := [] } } : State).spanByte b) h
        ((h.setSpan _).spanByte b) ht
    | spanFrameKindNotReport b =>
      refine event_apart h ?_ ht
      split
      · exact h.spanByte b
      · exact h
    | stallTimerExpiry k => exact event_apart h (h.stallTimerExpires k) ht
    | sampleTimerExpiry => exact event_apart h ((h.runOut _).setAngle _) ht
    | encoderReadComplete q e o => exact event_apart h (h.readCompletes q e o) ht
    | encoderReadTimeout => exact event_apart h h.readTimesOut ht
    | prestartTimerExpiry => exact event_apart h h.prestartExpires ht
    | startFailTimerExpiry => exact event_apart h h.startFails ht
    | stopTimerExpiry => exact event_apart h h.stopTimesOut ht
    | recoveryTimerExpiry => exact event_apart h h.recoveryExpires ht
    | chainSenseChange closed =>
      change execChainSenseChange closed s = _ at ht
      unfold execChainSenseChange at ht
      split at ht
      · cases ht; exact h
      · exact event_apart (h.setInputs _) (h.setInputs _).chainChanged ht
    | powerFailAssert =>
      change execPowerFailAssert s = _ at ht
      unfold execPowerFailAssert at ht
      split at ht
      · cases ht; exact h
      · exact event_apart (h.setInputs _) (h.setInputs _).powerFails ht
    | powerFailDeassert =>
      change execPowerFailDeassert s = _ at ht
      unfold execPowerFailDeassert at ht
      split at ht
      · exact event_apart (h.setInputs _) (h.setInputs _).powerReturns ht
      · cases ht; exact h
    | powerOnReset check => cases ht; exact (State.apart.resetPart false _).transmit
    | deviceReset => exact event_apart (f := State.deviceReset) h (State.apart.resetPart true _) ht
    | supplyLoss => cases ht; exact h.of_eq
    | storeWriteComplete verified => exact event_apart h (h.writeCompletes verified) ht
    | _ => cases frame

theorem step_apart (h : s.apart notices faults) (ht : step s = .next t) : t.apart notices faults := by
  unfold step at ht
  split at ht
  next c rest _ =>
    have popped : State.apart notices faults { s with pending := rest } := h.of_eq
    exact exec_apart c popped ht
  · cases ht
    unfold State.tick
    split
    · exact h.of_eq
    · exact h

/-- Settles O5: every command keeps both laws (`exec_apart`). A notice or a record enters only where none of its key stands
and a place is free or freed; all else takes entries out, or changes what is told of them beside their keys. -/
theorem noticesAndFaultRecordsStayDistinct : Obligations.NoticesAndFaultRecordsStayDistinct :=
  ⟨fun _ _ distinct ht => (step_apart (notices := True) (faults := False) ⟨fun _ => distinct, False.elim⟩ ht).queue trivial,
    fun _ _ distinct ht => (step_apart (notices := False) (faults := True) ⟨False.elim, fun _ => distinct⟩ ht).records trivial⟩

end Sys2Proof.Machine
end

section
/-! SUPPORT. The transmit side (R155, R158, R162): the order of the entries, what an idle side sends, and what follows the end
of a frame (O17, O18). -/

namespace Sys2Proof.Machine

variable {s : State} {before after : List Notice} {n : Notice}

/-! ### The highest-ordered entry (R162) -/

theorem State.highest_eq (s : State) (ok : Notice → Bool) :
    s.highest ok = (s.panel.notices.filter ok).foldl (chosen s.goesBefore) none := by
  have same : (fun (best : Option Notice) n => match best with
      | none => some n
      | some b => if s.goesBefore b n then some b else some n) = chosen s.goesBefore := by
    funext best n
    cases best <;> rfl
  rw [← same]
  rfl

theorem State.highest_none {ok : Notice → Bool} (none : ∀ n ∈ s.panel.notices, ¬ ok n = true) : s.highest ok = .none := by
  rw [State.highest_eq, List.filter_eq_nil_iff.2 none]
  rfl

/-- Entry m stands behind n whatever their ages: lower in priority, or in the order of kind codes. -/
def State.lower (s : State) (m n : Notice) : Prop :=
  s.priority m.data.kind < s.priority n.data.kind ∨
    (s.priority m.data.kind = s.priority n.data.kind ∧ n.data.kind.code < m.data.kind.code)

/-- The entry that no older entry equals and no younger one exceeds. -/
theorem State.highest_of_split {ok : Notice → Bool} (split : s.panel.notices = before ++ n :: after) (admitted : ok n = true)
    (older : ∀ m ∈ before, ok m = true → s.lower m n)
    (younger : ∀ m ∈ after, ok m = true → s.priority m.data.kind < s.priority n.data.kind ∨
      (s.priority m.data.kind = s.priority n.data.kind ∧ n.data.kind.code ≤ m.data.kind.code)) :
    s.highest ok = some n := by
  rw [State.highest_eq, split]
  refine foldl_filter_chosen_of_split admitted (fun m mem passes => ?_) fun m mem passes => ?_
  · have lower := older m mem passes
    unfold State.lower at lower
    simp only [State.goesBefore, Bool.or_eq_false_iff, Bool.and_eq_false_iff, decide_eq_false_iff_not, beq_eq_false_iff_ne]
    omega
  · have lower := younger m mem passes
    simp only [State.goesBefore, Bool.or_eq_true, Bool.and_eq_true, decide_eq_true_eq, beq_iff_eq]
    omega

/-! ### What an idle side sends (R155, R158) -/

theorem State.transmit_busy (busy : s.panel.tx ≠ .idle) : s.transmit = s := by
  unfold State.transmit
  dsimp only
  split
  next idle => exact absurd idle busy
  next => rfl

theorem State.transmit_reply (idle : s.panel.tx = .idle) {ty : Byte} {r : Reply} (ready : s.panel.service = some ⟨ty, some r⟩) :
    s.transmit = { s with panel := { s.panel with tx := .reply r s.panel.overrun, overrun := false } } := by
  unfold State.transmit
  dsimp only
  rw [idle, ready]

/-- The frame of an entry begins, with the lost flag if its mark is set. -/
def State.beginNotice (s : State) (n : Notice) : State :=
  { s with panel := { s.panel with
      tx := .notice ⟨n.subject, n.data, n.count, s.panel.lost⟩
      lost := false
      notices := s.panel.notices.map fun e => if e.isFor n.data.kind n.subject then { e with sending := some 0 } else e } }

section Unanswered

variable (idle : s.panel.tx = .idle) (unanswered : ∀ ty r, s.panel.service ≠ some ⟨ty, some r⟩)
include idle unanswered

theorem State.transmit_unanswered : s.transmit =
    if s.panel.asleep then s else match s.highest s.eligible with | none => s | some n => s.beginNotice n := by
  unfold State.transmit
  dsimp only
  rw [idle]
  dsimp only
  split
  next ty r ready => exact absurd ready (unanswered ty r)
  next => split <;> rfl

theorem State.transmit_nothing (none : s.panel.asleep = true ∨ ∀ n ∈ s.panel.notices, s.priority n.data.kind ≤ s.panel.mask) :
    s.transmit = s := by
  rw [State.transmit_unanswered idle unanswered]
  rcases none with asleep | masked
  · exact if_pos asleep
  · have highest : s.highest s.eligible = .none :=
      State.highest_none fun n mem => by simpa [State.eligible] using masked n mem
    rw [highest]
    split <;> rfl

theorem State.transmit_notice (awake : s.panel.asleep = false) (highest : s.highest s.eligible = some n) :
    s.transmit = s.beginNotice n := by
  rw [State.transmit_unanswered idle unanswered, highest, if_neg (by simp [awake])]

end Unanswered

/-- A choice made leaves nothing to choose. -/
theorem State.transmit_transmit (s : State) : s.transmit.transmit = s.transmit := by
  by_cases idle : s.panel.tx = .idle
  · by_cases answered : ∃ ty r, s.panel.service = some ⟨ty, some r⟩
    · obtain ⟨ty, r, ready⟩ := answered
      rw [State.transmit_reply idle ready, State.transmit_busy (by simp)]
    · have unanswered : ∀ ty r, s.panel.service ≠ some ⟨ty, some r⟩ := fun ty r ready => answered ⟨ty, r, ready⟩
      have same (h : s.transmit = s) : s.transmit.transmit = s.transmit := congrArg State.transmit h
      cases awake : s.panel.asleep with
      | true => exact same (State.transmit_nothing idle unanswered (.inl awake))
      | false =>
        cases highest : s.highest s.eligible with
        | none =>
          refine same ?_
          rw [State.transmit_unanswered idle unanswered, highest]
          split <;> rfl
        | some n => rw [State.transmit_notice idle unanswered awake highest, State.transmit_busy (by simp [State.beginNotice])]
  · rw [State.transmit_busy idle, State.transmit_busy idle]

/-- Settles O17: a side that sends, a reply ready, and an AWAKE panel with an eligible entry are the cases of the choice. -/
theorem transmitSideChoosesInOrder : Obligations.TransmitSideChoosesInOrder := by
  intro s
  refine ⟨State.transmit_busy, fun ty r idle => State.transmit_reply idle, fun idle unanswered =>
    ⟨State.transmit_nothing idle unanswered, fun before n after awake split eligible distinct older younger => ?_⟩⟩
  have highest : s.highest s.eligible = some n := by
    refine State.highest_of_split split (by simpa [State.eligible] using eligible) (fun m mem passes => ?_) fun m mem passes => ?_
    · exact older m mem (by simpa [State.eligible] using passes)
    · exact younger m mem (by simpa [State.eligible] using passes)
  have marked := map_update_of_split (a := n) (p := fun e : Notice => e.isFor n.data.kind n.subject) (Notice.isFor_iff.2 rfl)
    (State.others_of_split distinct split) fun e => { e with sending := some 0 }
  rw [State.transmit_notice idle unanswered awake highest, State.beginNotice, split, marked]

/-! ### The ends of frames (R156, R162, R180) -/

section ReplyEnds

variable {r : Reply} {o : Bool} (sent : s.panel.tx = .reply r o)
include sent

theorem State.replyEnds_reset (reset : r.type = 0x39) (accepted : r.status = .ok) : s.replyEnds = s.deviceReset := by
  unfold State.replyEnds
  rw [sent]
  exact if_pos ⟨reset, accepted⟩

theorem State.replyEnds_next (other : r.type ≠ 0x39 ∨ r.status ≠ .ok) :
    s.replyEnds = ({ s with panel := { s.panel with tx := .idle, service := none } } : State).takeNext := by
  unfold State.replyEnds
  rw [sent]
  exact if_neg fun ⟨reset, accepted⟩ => other.elim (· reset) (· accepted)

end ReplyEnds

theorem State.takeNext_nil (empty : s.panel.intake = []) : s.takeNext = s := by
  unfold State.takeNext
  rw [empty]

theorem State.takeNext_cons {f : PanelFrame} {rest : List PanelFrame} (waits : s.panel.intake = f :: rest) :
    s.takeNext = ({ s with panel := { s.panel with intake := rest } } : State).take f := by
  unfold State.takeNext
  rw [waits]

theorem Notice.sent_eq (n : Notice) : n.sent =
    if n.sending = none then some n else if n.sending = some 0 then none
    else some { n with count := n.sending.getD 0, sending := none } := by
  obtain ⟨subject, data, count, _ | _ | k⟩ := n <;> simp [Notice.sent]

/-- Settles O18: the end of a reply frame by the request it answers and by what waits, and the end of a notice frame. -/
theorem endsOfTransmittedFrames : Obligations.EndsOfTransmittedFrames := by
  refine ⟨fun s r o powered sent => ⟨fun other => ?_, fun reset accepted => ?_⟩, fun s f powered sent => ?_⟩
  · have ends : exec .replySent s = .next s.replyEnds.transmit := event_powered powered State.replyEnds
    rw [ends, State.replyEnds_next sent other]
    exact ⟨fun empty => by rw [State.takeNext_nil (by exact empty)],
      fun f rest waits => by rw [State.takeNext_cons (by exact waits)]⟩
  · have ends : exec .replySent s = .next s.replyEnds.transmit := event_powered powered State.replyEnds
    rw [ends, State.replyEnds_reset sent reset accepted]
    exact (event_powered powered State.deviceReset).symm
  · have ends : exec .noticeFrameSent s = .next s.noticeEnds.transmit := event_powered powered State.noticeEnds
    have removed : (Notice.sent : Notice → Option Notice) = _ := funext Notice.sent_eq
    rw [ends, State.noticeEnds, sent, removed]

end Sys2Proof.Machine
end

section
/-! SUPPORT. What every request taken does (R157, R75, R79, R140), and what becomes of a frame that a busy port takes or that
its type or length unfits (O15, O14). -/

namespace Sys2Proof.Machine

variable {s : State}

/-! ### What every request taken does (R157) -/

/-- The part with its receiver hunting. -/
def State.hunting (s : State) : State := { s with panel := { s.panel with rx := [] } }

/-- The part with an ACTIVE PANEL_SILENT record made LATCHED (R140). -/
def State.silenceLatched (s : State) : State := { s with faults := { s.faults with
  records := s.faults.records.map fun f =>
    if f.kind = .panelSilent ∧ f.tower = none then { f with condition := .latched } else f } }

theorem State.latchKind_panelSilent (s : State) : s.latchKind .panelSilent none = s.silenceLatched := by
  have records := latch_records s fun r => r.kind == .panelSilent && r.tower == none
  simp only [Bool.and_eq_true, beq_iff_eq] at records
  unfold State.silenceLatched
  rw [← records]
  rfl

theorem State.silenceLatched_queueNotice (s : State) (subject : Subject) (data : NoticeData) :
    (s.queueNotice subject data).silenceLatched = s.silenceLatched.queueNotice subject data := by
  rw [State.queueNotice_of_panel (s := s) (t := s.silenceLatched) rfl]
  conv_lhs => rw [State.queueNotice_frame]
  rfl

/-- The panel made awake by request r at a part whose silence timer runs as that of s, if r wakes it at all (R164). -/
def State.awakened (s : State) (r : Request) (u : State) : State :=
  if r = .panelSleep then u else { u with panel := { u.panel with
    asleep := false, wakeLine := false
    silenceTimer := if s.mval .panelSilence = 0 then s.panel.silenceTimer else some ⟨s.mval .panelSilence * 1000, s.clock⟩ } }

/-- Hearing a request is what it does to the line, and then the latching and the waking. -/
theorem State.heard_of_line {r : Request} {w : State}
    (line : (if s.span.mode = .active then s.hunting.restartQuiet else s.hunting.leaveQuiet) = w)
    (table : w.table = s.table) (clock : w.clock = s.clock) (timer : w.panel.silenceTimer = s.panel.silenceTimer) :
    s.heard r = s.awakened r w.silenceLatched := by
  have heard : s.heard r = if r = .panelSleep then w.latchKind .panelSilent none else (w.latchKind .panelSilent none).wakePanel :=
    line ▸ rfl
  have mval : w.silenceLatched.mval .panelSilence = s.mval .panelSilence := State.mval_of_machine (congrArg _ table) _
  rw [heard, State.latchKind_panelSilent]
  unfold State.awakened State.wakePanel
  dsimp only
  rw [mval, ← timer, ← clock]
  rfl

/-- A line that leaves QUIET tells so before the latching and the waking. -/
theorem State.heard_of_quiet {r : Request} (quiet : s.span.mode = .quiet) {l : SpanMaster}
    (woken : s.hunting.leaveQuiet = ({ s.hunting with span := l } : State).queueNotice .machine (.quiet true)) :
    s.heard r = s.awakened r (({ s.hunting with span := l } : State).silenceLatched.queueNotice .machine (.quiet true)) := by
  obtain ⟨notices, lost, wake, told⟩ := ({ s.hunting with span := l } : State).queueNotice_queueing .machine (.quiet true)
  rw [← State.silenceLatched_queueNotice]
  refine State.heard_of_line ?_ (State.queueNotice_table ..) (State.queueNotice_clock ..) (by rw [told]; rfl)
  rw [if_neg (by simp [quiet]), woken]

/-- Settles O15: the line mode, the machine state and the slot in progress give the four cases. -/
theorem everyRequestTakenIsHeard : Obligations.EveryRequestTakenIsHeard := by
  intro s r v quiet hold woken first latched quieted told awake
  refine ⟨fun active unconfigured => ?_, fun active configured => ?_, fun quiet' stays => ?_,
    fun quiet' idle towers configured => ?_⟩
  · refine State.heard_of_line (w := s.hunting) ?_ rfl rfl rfl
    rw [if_pos active]
    exact State.restartQuiet_idle (.inr unconfigured)
  · refine State.heard_of_line (w := { s.hunting with span := { s.span with quietTimer := some quiet } }) ?_ rfl rfl rfl
    rw [if_pos active]
    exact State.restartQuiet_runs active configured
  · exact State.heard_of_quiet quiet' (State.leaveQuiet_stays (s := s.hunting) quiet' stays)
  · have begins := State.leaveQuiet_begins (s := s.hunting) quiet' idle towers configured
    rw [State.beginDriveSlot_eq] at begins
    exact State.heard_of_quiet quiet' begins

/-! ### A busy port and an unfit frame (R155, R156) -/

/-- A request that arrives behind others waits, or is dropped with the overrun mark set. -/
theorem State.arrive_busy (busy : s.panel.service.isSome = true ∨ s.panel.intake ≠ []) (f : PanelFrame) :
    s.arrive f = { s with panel := { s.panel with
      intake := if s.panel.intake.length < 4 then s.panel.intake ++ [f] else s.panel.intake
      overrun := if s.panel.intake.length < 4 then s.panel.overrun else true } } := by
  have serves : ¬ (s.panel.service.isNone && s.panel.intake.isEmpty) = true := by
    rcases busy with service | waits
    · obtain ⟨x, service⟩ := Option.isSome_iff_exists.1 service
      simp [service]
    · simp [waits]
  unfold State.arrive
  by_cases room : s.panel.intake.length < 4
  · rw [if_neg (by omega), if_neg serves, if_pos room, if_pos room]
  · rw [if_pos (by omega), if_neg room, if_neg room]

/-- A type outside the catalogue is told as such, whatever its payload. -/
theorem parseRequest_unlisted {f : PanelFrame} (unlisted : f.type.toNat ∉ catalogue) : parseRequest f = .unknown f.type := by
  unfold parseRequest
  dsimp only
  split
  case h_29 => rfl
  all_goals
    next named => exact absurd (by rw [named]; decide) unlisted

/-- Settles O14: a busy port by the room in its intake queue, and the two refusals of R156. -/
theorem busyPortsAndUnfitFrames : Obligations.BusyPortsAndUnfitFrames := by
  refine ⟨fun i f s frame fits powered busy => ?_, fun s type payload ready unlisted fits => ?_,
    fun s i f ready frame fits unfit => exec_answered ready frame fits unfit fun _ => rfl⟩
  · rw [exec_of_frame frame, event_powered powered, State.submitFrame, if_pos fits]
    exact congrArg (fun u : State => Host.Outcome.next u.transmit) (State.arrive_busy (s := s.hunting) busy f)
  · exact exec_answered ready (f := ⟨type, payload⟩) rfl fits (parseRequest_unlisted (f := ⟨type, payload⟩) unlisted)
      fun _ => rfl

end Sys2Proof.Machine
end

section
/-! SUPPORT. The port's own requests at a part that is ready for them, and its silence timer (R159 to R168): what the port is
when a request is heard, and each request by its branches (O19, O20, O21). -/

namespace Sys2Proof.Machine

variable {s : State}

/-! ### The port as hearing a request leaves it (R157) -/

/-- Hearing a request changes of the port no more than the receiver, the notice queue with its marks, and what waking is. -/
theorem State.heard_awakened (s : State) (r : Request) : ∃ span faults notices lost wake, s.heard r =
    s.awakened r (({ s.hunting with span := span, faults := faults } : State).queueing notices lost wake) := by
  by_cases active : s.span.mode = .active
  · refine ⟨s.hunting.restartQuiet.span, s.silenceLatched.faults, s.panel.notices, s.panel.lost, s.panel.wakeLine, ?_⟩
    refine State.heard_of_line (w := { s.hunting with span := s.hunting.restartQuiet.span }) ?_ rfl rfl rfl
    rw [if_pos active]
    exact State.restartQuiet_frame _
  · have quiet : s.span.mode = .quiet := by cases mode : s.span.mode <;> simp_all
    have woken : ∃ l, s.hunting.leaveQuiet = ({ s.hunting with span := l } : State).queueNotice .machine (.quiet true) := by
      by_cases stays : s.span.slot ≠ none ∨ s.towerCount = 0 ∨ s.run.mstate = .unconfigured
      · exact ⟨_, State.leaveQuiet_stays (s := s.hunting) quiet stays⟩
      · push Not at stays
        exact ⟨_, State.leaveQuiet_begins (s := s.hunting) quiet stays.1 (Nat.pos_of_ne_zero stays.2.1) stays.2.2⟩
    obtain ⟨l, woken⟩ := woken
    obtain ⟨notices, lost, wake, told⟩ :=
      ({ s.hunting with span := l } : State).silenceLatched.queueNotice_queueing .machine (.quiet true)
    exact ⟨l, s.silenceLatched.faults, notices, lost, wake, by rw [State.heard_of_quiet quiet woken, told]; rfl⟩

theorem State.heard_settings (s : State) (r : Request) : (s.heard r).panel.priorities = s.panel.priorities ∧
    (s.heard r).panel.mask = s.panel.mask ∧ (s.heard r).panel.filters = s.panel.filters := by
  obtain ⟨span, faults, notices, lost, wake, heard⟩ := s.heard_awakened r
  rw [heard]
  unfold State.awakened
  split <;> exact ⟨rfl, rfl, rfl⟩

/-- Every request but PANEL_SLEEP wakes the panel. -/
theorem State.heard_asleep {r : Request} (wakes : r ≠ .panelSleep) : (s.heard r).panel.asleep = false := by
  obtain ⟨span, faults, notices, lost, wake, heard⟩ := s.heard_awakened r
  rw [heard, State.awakened, if_neg wakes]

theorem State.heard_eligible (s : State) (r : Request) :
    (s.heard r).eligible = fun n : Notice => (s.panel.mask < s.priority n.data.kind : Bool) := by
  obtain ⟨priorities, mask, -⟩ := s.heard_settings r
  funext n
  unfold State.eligible State.priority
  rw [priorities, mask]

/-! ### READ_PORT (R168) -/

/-- READ_PORT is answered by the port, with the wake line as it stood before the taking. -/
theorem exec_readPort (ready : s.receptive) {u : State} {a : Answer}
    (taken : (s.heard .readPort).takeReadPort s.panel.wakeLine = (u, a)) :
    exec .readPort s = .next (u.replying 0x4B a).transmit := by
  obtain ⟨fits, -⟩ := Laws.FrameFits.readPort _ rfl rfl
  have served : ((s.hunting.noteTaken (parseRequest (frameOf .readPort))).serve s.hunting.panel.wakeLine
      (parseRequest (frameOf .readPort))) = (u, some a) := congrArg (Prod.map id some) taken
  rw [exec_of_frame rfl, event_powered ready.1, State.submitFrame_of_receptive ready fits]
  exact congrArg (fun v : State => Host.Outcome.next v.transmit) (State.take_of_served served)

/-- Settles O21: the answer read off the port as hearing the request leaves it. -/
theorem readPortReportsThePort : Obligations.ReadPortReportsThePort := by
  intro s ready h
  obtain ⟨priorities, mask, filters⟩ := s.heard_settings .readPort
  refine exec_readPort ready ?_
  unfold State.takeReadPort
  rw [priorities, mask, filters, State.heard_asleep (r := .readPort) (by simp), State.heard_eligible, State.heard_clock]
  rfl

/-! ### NOTICE_FETCH (R163) -/

/-- NOTICE_FETCH is answered by the port. -/
theorem exec_noticeFetch (ready : s.receptive) {u : State} {a : Answer}
    (taken : (s.heard .noticeFetch).takeNoticeFetch = (u, a)) :
    exec .noticeFetch s = .next (u.replying 0x42 a).transmit := by
  obtain ⟨fits, -⟩ := Laws.FrameFits.noticeFetch _ rfl rfl
  exact exec_answered ready rfl fits (r := .noticeFetch) rfl fun _ => congrArg (Prod.map id some) taken

theorem State.takeNoticeFetch_none (sent : ∀ n ∈ s.panel.notices, n.sending ≠ none) : s.takeNoticeFetch =
    ({ s with panel := { s.panel with lost := false } }, .ok (.fetched none s.panel.lost)) := by
  have none : s.highest (fun n => n.sending.isNone) = .none := State.highest_none fun n mem => by simpa using sent n mem
  unfold State.takeNoticeFetch
  dsimp only
  rw [none]

theorem State.takeNoticeFetch_some {before after : List Notice} {n : Notice} (distinct : s.noticesDistinct)
    (split : s.panel.notices = before ++ n :: after) (highest : s.highest (fun n => n.sending.isNone) = some n) :
    s.takeNoticeFetch = ({ s with panel := { s.panel with lost := false, notices := before ++ after } },
      .ok (.fetched (some ⟨n.subject, n.data, n.count, s.panel.lost⟩) s.panel.lost)) := by
  have left := filter_others_of_split (a := n) (p := fun e : Notice => e.isFor n.data.kind n.subject) (Notice.isFor_iff.2 rfl)
    (State.others_of_split distinct split)
  unfold State.takeNoticeFetch
  dsimp only
  rw [highest]
  dsimp only
  rw [split, left]

/-- Settles O20: the fetch from a queue whose every entry is being sent, and of the highest-ordered other entry. -/
theorem noticeFetchReturnsTheHighestEntry : Obligations.NoticeFetchReturnsTheHighestEntry := by
  intro s ready h
  refine ⟨fun sent => exec_noticeFetch ready (State.takeNoticeFetch_none sent),
    fun before n after distinct split idle older younger =>
      exec_noticeFetch ready (State.takeNoticeFetch_some distinct split (State.highest_of_split split ?_ ?_ ?_))⟩
  · simpa using idle
  · exact fun m mem passes => older m mem (by simpa using passes)
  · exact fun m mem passes => younger m mem (by simpa using passes)

/-! ### Priorities, mask and sleep (R159, R162, R164) -/

section Settings

variable {kind priority level : Byte}

/-- SET_NOTICE_PRIORITY is answered by the port. -/
theorem exec_setNoticePriority (ready : s.receptive) {u : State} {a : Answer}
    (taken : (s.heard (.setNoticePriority kind priority)).takeSetNoticePriority kind priority = (u, a)) :
    exec (.setNoticePriority kind priority) s = .next (u.replying 0x40 a).transmit := by
  obtain ⟨fits, -⟩ := Laws.FrameFits.setNoticePriority kind priority _ rfl rfl
  exact exec_answered ready rfl fits (r := .setNoticePriority kind priority) rfl fun _ => congrArg (Prod.map id some) taken

theorem State.takeSetNoticePriority_ok {k : NoticeKind} (named : noticeKindOf kind = some k) (ranged : priority.toNat ≤ 15) :
    s.takeSetNoticePriority kind priority = ({ s with panel := { s.panel with
      priorities := setNth s.panel.priorities k.code priority.toNat } }, .ok) := by
  unfold State.takeSetNoticePriority
  rw [named]
  exact if_neg (by omega)

theorem State.takeSetNoticePriority_refused (unfit : noticeKindOf kind = none ∨ 15 < priority.toNat) :
    s.takeSetNoticePriority kind priority = (s, .fail .badValue) := by
  unfold State.takeSetNoticePriority
  split
  next k named => exact if_pos (unfit.resolve_left (by simp [named]))
  next => rfl

/-- SET_NOTICE_MASK is answered by the port. -/
theorem exec_setNoticeMask (ready : s.receptive) {u : State} {a : Answer}
    (taken : (s.heard (.setNoticeMask level)).takeSetNoticeMask level = (u, a)) :
    exec (.setNoticeMask level) s = .next (u.replying 0x41 a).transmit := by
  obtain ⟨fits, -⟩ := Laws.FrameFits.setNoticeMask level _ rfl rfl
  exact exec_answered ready rfl fits (r := .setNoticeMask level) rfl fun _ => congrArg (Prod.map id some) taken

theorem State.takeSetNoticeMask_ok (ranged : level.toNat ≤ 15) :
    s.takeSetNoticeMask level = ({ s with panel := { s.panel with mask := level.toNat } }, .ok) := by
  unfold State.takeSetNoticeMask
  exact if_neg (by omega)

theorem State.takeSetNoticeMask_refused (beyond : 15 < level.toNat) : s.takeSetNoticeMask level = (s, .fail .badValue) := by
  unfold State.takeSetNoticeMask
  exact if_pos beyond

/-- PANEL_SLEEP is answered by the port. -/
theorem exec_panelSleep (ready : s.receptive) {u : State} {a : Answer} (taken : (s.heard .panelSleep).takePanelSleep = (u, a)) :
    exec .panelSleep s = .next (u.replying 0x48 a).transmit := by
  obtain ⟨fits, -⟩ := Laws.FrameFits.panelSleep _ rfl rfl
  exact exec_answered ready rfl fits (r := .panelSleep) rfl fun _ => congrArg (Prod.map id some) taken

/-- PANEL_AWAKE is answered by the port. -/
theorem exec_panelAwake (ready : s.receptive) {u : State} {a : Answer} (taken : (s.heard .panelAwake).takePanelAwake = (u, a)) :
    exec .panelAwake s = .next (u.replying 0x49 a).transmit := by
  obtain ⟨fits, -⟩ := Laws.FrameFits.panelAwake _ rfl rfl
  exact exec_answered ready rfl fits (r := .panelAwake) rfl fun _ => congrArg (Prod.map id some) taken

end Settings

/-! ### Wake filters (R165) -/

section WakeFilters

variable {slot useMark kind subject minPriority : Byte}

/-- SET_WAKE_FILTER is answered by the port. -/
theorem exec_setWakeFilter (ready : s.receptive) {u : State} {a : Answer}
    (taken : (s.heard (.setWakeFilter slot useMark kind subject minPriority)).takeSetWakeFilter slot useMark kind subject
      minPriority = (u, a)) :
    exec (.setWakeFilter slot useMark kind subject minPriority) s = .next (u.replying 0x4A a).transmit := by
  obtain ⟨fits, -⟩ := Laws.FrameFits.setWakeFilter slot useMark kind subject minPriority _ rfl rfl
  exact exec_answered ready rfl fits (r := .setWakeFilter slot useMark kind subject minPriority) rfl fun _ =>
    congrArg (Prod.map id some) taken

/-- The kind of a filter as its byte names it: 0 is any. -/
def filterKindOf (kind : Byte) : Option (Option NoticeKind) := if kind = 0 then some none else (noticeKindOf kind).map some

theorem filterKindOf_any : filterKindOf 0 = some none := rfl

theorem filterKindOf_named {k : NoticeKind} (named : noticeKindOf kind = some k) : filterKindOf kind = some (some k) := by
  have used : kind ≠ 0 := by
    rintro rfl
    cases named
  rw [filterKindOf, if_neg used, named]
  rfl

/-- The numbers of the class of a named kind. -/
theorem subjectInClass_named (k : NoticeKind) (n : Nat) : subjectInClass (some k) n = true ↔
    match k with
    | .fault => n ≤ 16
    | .watchFired => 1 ≤ n ∧ n ≤ 8
    | _ => n = 0 := by
  cases k <;> simp [subjectInClass]

theorem filterKindOf_stray (stray : 9 < kind.toNat) : filterKindOf kind = none := by
  have used : kind ≠ 0 := by
    rintro rfl
    cases stray
  rw [filterKindOf, if_neg used, Option.map_eq_none_iff]
  unfold noticeKindOf
  split
  case h_10 => rfl
  all_goals omega

/-- The filter of a request is that of its kind, then of its subject, then of its minimum priority. -/
theorem wakeFilterOf_eq (kind subject minPriority : Byte) : wakeFilterOf kind subject minPriority =
    (filterKindOf kind).bind fun k =>
      (if subject = 0xFF then some none
        else if subjectInClass k subject.toNat then some (some subject.toNat) else none).bind fun sub =>
          if minPriority.toNat ≤ 15 then some ⟨k, sub, minPriority.toNat⟩ else none := by
  unfold wakeFilterOf filterKindOf
  dsimp only
  by_cases any : kind = 0
  all_goals
    simp only [any, if_true, if_false]
    refine congrArg (Option.bind _) (funext fun k => ?_)
    split_ifs <;> rfl

section Named

variable {k : Option NoticeKind} (named : filterKindOf kind = some k)
include named

theorem wakeFilterOf_anySubject (ranged : minPriority.toNat ≤ 15) (any : subject = 0xFF) :
    wakeFilterOf kind subject minPriority = some ⟨k, none, minPriority.toNat⟩ := by
  rw [wakeFilterOf_eq, named, Option.bind_some, if_pos any, Option.bind_some, if_pos ranged]

theorem wakeFilterOf_inClass (ranged : minPriority.toNat ≤ 15) (one : subject ≠ 0xFF)
    (inClass : subjectInClass k subject.toNat = true) :
    wakeFilterOf kind subject minPriority = some ⟨k, some subject.toNat, minPriority.toNat⟩ := by
  rw [wakeFilterOf_eq, named, Option.bind_some, if_neg one, if_pos inClass, Option.bind_some, if_pos ranged]

theorem wakeFilterOf_outOfClass (one : subject ≠ 0xFF) (outside : ¬ subjectInClass k subject.toNat = true) :
    wakeFilterOf kind subject minPriority = none := by
  rw [wakeFilterOf_eq, named, Option.bind_some, if_neg one, if_neg outside, Option.bind_none]

end Named

/-- A filter whose minimum priority or kind lies beyond its range is none. -/
theorem wakeFilterOf_beyond (beyond : 15 < minPriority.toNat ∨ 9 < kind.toNat) :
    wakeFilterOf kind subject minPriority = none := by
  rw [wakeFilterOf_eq]
  rcases beyond with high | stray
  · simp only [if_neg (show ¬ minPriority.toNat ≤ 15 by omega), Option.bind_fun_none]
  · rw [filterKindOf_stray stray, Option.bind_none]

/-- A slot of the part's takes the filter or is made unused. -/
theorem State.takeSetWakeFilter_slot (low : 1 ≤ slot.toNat) (high : slot.toNat ≤ 4) :
    s.takeSetWakeFilter slot useMark kind subject minPriority =
      let put (f : Option WakeFilter) : State × Answer :=
        ({ s with panel := { s.panel with filters := setNth s.panel.filters slot.toNat f } }, .ok)
      if useMark = 0 then put none
      else match wakeFilterOf kind subject minPriority with
        | some f => put (some f)
        | none => (s, .fail .badValue) := by
  unfold State.takeSetWakeFilter
  exact if_neg (by omega)

theorem State.takeSetWakeFilter_noSlot (none : slot.toNat < 1 ∨ 4 < slot.toNat) :
    s.takeSetWakeFilter slot useMark kind subject minPriority = (s, .fail .badValue) := by
  unfold State.takeSetWakeFilter
  exact if_pos none

section Slot

variable (low : 1 ≤ slot.toNat) (high : slot.toNat ≤ 4)
include low high

theorem State.takeSetWakeFilter_clears (clears : useMark = 0) : s.takeSetWakeFilter slot useMark kind subject minPriority =
    ({ s with panel := { s.panel with filters := setNth s.panel.filters slot.toNat none } }, .ok) := by
  rw [State.takeSetWakeFilter_slot low high]
  exact if_pos clears

theorem State.takeSetWakeFilter_sets (used : useMark ≠ 0) {f : WakeFilter}
    (named : wakeFilterOf kind subject minPriority = some f) : s.takeSetWakeFilter slot useMark kind subject minPriority =
      ({ s with panel := { s.panel with filters := setNth s.panel.filters slot.toNat (some f) } }, .ok) := by
  rw [State.takeSetWakeFilter_slot low high, named]
  exact if_neg used

theorem State.takeSetWakeFilter_refused (used : useMark ≠ 0) (unfit : wakeFilterOf kind subject minPriority = none) :
    s.takeSetWakeFilter slot useMark kind subject minPriority = (s, .fail .badValue) := by
  rw [State.takeSetWakeFilter_slot low high, unfit]
  exact if_neg used

end Slot

end WakeFilters

/-! ### The silence timer (R167), and the obligation -/

theorem State.silenceExpires_running {timer : Timer} (running : s.panel.silenceTimer = some timer) :
    s.silenceExpires = ({ s with
      clock := max s.clock (timer.startedAt + timer.length)
      panel := { s.panel with
        silenceTimer := some ⟨s.mval .panelSilence * 1000, max s.clock (timer.startedAt + timer.length)⟩ } } : State).raise
        .panelSilent none := by
  unfold State.silenceExpires
  rw [running]
  rfl

/-- Settles O19: each setting by the range of its values, a wake filter by its slot, use mark, kind and subject, the two
requests about sleep, and the expiry of the silence timer. -/
theorem portSettingsSleepAndSilence : Obligations.PortSettingsSleepAndSilence := by
  refine ⟨fun s a b ready => ⟨⟨fun k named ranged => ?_, fun unfit => ?_⟩, ⟨fun ranged => ?_, fun beyond => ?_⟩⟩, ?_,
    fun s ready => ⟨?_, ?_⟩, ?_⟩
  · exact exec_setNoticePriority ready (State.takeSetNoticePriority_ok named ranged)
  · exact exec_setNoticePriority ready (State.takeSetNoticePriority_refused unfit)
  · exact exec_setNoticeMask ready (State.takeSetNoticeMask_ok ranged)
  · exact exec_setNoticeMask ready (State.takeSetNoticeMask_refused beyond)
  · intro s slot useMark kind subject minPriority ready h put bad ok
    refine ⟨fun none => exec_setWakeFilter ready (State.takeSetWakeFilter_noSlot none), fun low high => ⟨fun clears =>
      exec_setWakeFilter ready (State.takeSetWakeFilter_clears low high clears), fun used => ?_⟩⟩
    have sets {f : WakeFilter} (named : wakeFilterOf kind subject minPriority = some f) : ok (some f) :=
      exec_setWakeFilter ready (State.takeSetWakeFilter_sets low high used named)
    have refuses (unfit : wakeFilterOf kind subject minPriority = none) : bad :=
      exec_setWakeFilter ready (State.takeSetWakeFilter_refused low high used unfit)
    refine ⟨fun beyond => refuses (wakeFilterOf_beyond beyond), fun any ranged => ?_,
      fun k named ranged => ⟨fun all => ?_, fun one => ⟨fun inside => ?_, fun outside => ?_⟩⟩⟩
    · subst any
      refine ⟨fun all => ?_, fun low => ?_, fun one high => ?_⟩
      · exact sets (wakeFilterOf_anySubject filterKindOf_any ranged all)
      · exact sets (wakeFilterOf_inClass filterKindOf_any ranged (by bv_omega) (by simpa [subjectInClass] using low))
      · exact refuses (wakeFilterOf_outOfClass filterKindOf_any one (by simpa [subjectInClass] using high))
    · exact sets (wakeFilterOf_anySubject (filterKindOf_named named) ranged all)
    · exact sets (wakeFilterOf_inClass (filterKindOf_named named) ranged one ((subjectInClass_named k _).2 inside))
    · exact refuses (wakeFilterOf_outOfClass (filterKindOf_named named) one fun inside =>
        outside ((subjectInClass_named k _).1 inside))
  · exact exec_panelSleep ready rfl
  · exact exec_panelAwake ready rfl
  · intro s timer powered running now u
    have expires : exec .panelSilenceExpiry s = .next s.silenceExpires.transmit := event_powered powered State.silenceExpires
    rw [expires, State.silenceExpires_running running]

end Sys2Proof.Machine
end

section
/-! SUPPORT. The two receivers, byte by byte: what the bytes of a panel frame do (O12), and the bytes that abandon or discard a
frame on either line (O13). -/

namespace Sys2Proof.Machine

variable {s : State}

/-- A command whose event does f, at a part with supply. -/
theorem exec_powered {c : Instr} {f : State → State} {t : State} (row : exec c s = event f s) (powered : s.powered = true)
    (does : f s = t) : exec c s = .next t.transmit := by
  rw [row, event_powered powered, does]

/-! ### The panel receiver (R154) -/

/-- The part with some bytes of a panel frame assembled. -/
def State.receiving (s : State) (acc : List Byte) : State := { s with panel := { s.panel with rx := acc } }

theorem State.receiving_nil (hunts : s.panel.rx = []) : s.receiving [] = s := by
  unfold State.receiving
  rw [← hunts]

/-- A byte that does not end a frame changes the receiver and no more. -/
theorem State.panelByte_receives {acc acc' : List Byte} {b : Byte} (more : panelRxByte acc b = (acc', none)) :
    (s.receiving acc).panelByte b = s.receiving acc' := by
  unfold State.panelByte
  have rx : (s.receiving acc).panel.rx = acc := rfl
  rw [rx, more]
  rfl

/-- A byte that ends a frame does what the frame does, if it is one. -/
theorem State.panelByte_ends {acc bs : List Byte} {b : Byte} (ends : panelRxByte acc b = ([], some bs)) :
    (s.receiving acc).panelByte b =
      match panelFrameOf bs with
      | some f => ((s.receiving []).arrive f).transmit
      | none => s.receiving [] := by
  unfold State.panelByte
  have rx : (s.receiving acc).panel.rx = acc := rfl
  rw [rx, ends]
  simp only [Option.bind_some]
  rfl

/-- A byte examined by a hunting receiver begins a frame if it is the start byte. -/
theorem State.panelByte_hunting (b : Byte) : (s.receiving []).panelByte b = s.receiving (if b = panelStart then [b] else []) :=
  State.panelByte_receives rfl

theorem panelRxByte_length_beyond {x b : Byte} (beyond : 120 < b.toNat) : panelRxByte [x] b = ([], none) :=
  congrArg (·, none) (if_neg (by omega))

/-! ### The bytes of a panel frame -/

/-- What stands before the check bytes of a panel frame. -/
def PanelFrame.body (f : PanelFrame) : List Byte := panelStart :: BitVec.ofNat 8 f.payload.length :: f.type :: f.payload

/-- Behind the length byte every byte but the last is assembled. -/
theorem State.panelBytes_receive {start len : Byte} {acc bs : List Byte} (short : acc.length + bs.length < len.toNat + 3) :
    bs.foldl State.panelByte (s.receiving (start :: len :: acc)) = s.receiving (start :: len :: (acc ++ bs)) := by
  induction bs generalizing acc with
  | nil => simp
  | cons b bs ih =>
    simp only [List.length_cons] at short
    have more : panelRxByte (start :: len :: acc) b = (start :: len :: (acc ++ [b]), none) :=
      if_neg (by simp only [List.length_append, List.length_cons, List.length_nil]; omega)
    rw [List.foldl_cons, State.panelByte_receives more,
      ih (by simp only [List.length_append, List.length_cons, List.length_nil]; omega), List.append_assoc, List.singleton_append]

/-- The byte that the length byte makes the last ends the frame. -/
theorem panelRxByte_last {start len b : Byte} {acc : List Byte} (last : acc.length = len.toNat + 2) :
    panelRxByte (start :: len :: acc) b = ([], some (start :: len :: (acc ++ [b]))) :=
  if_pos (by simp only [List.length_append, List.length_cons, List.length_nil]; omega)

theorem u16Bytes_inj {v w : U16} : u16Bytes v = u16Bytes w ↔ v = w := by
  refine ⟨fun same => ?_, congrArg u16Bytes⟩
  simp only [u16Bytes, List.cons.injEq, and_true] at same
  rw [← u16_loByte_hiByte v, ← u16_loByte_hiByte w, same.1, same.2]

theorem panelFrameOf_body (f : PanelFrame) (check : U16) :
    panelFrameOf (f.body ++ u16Bytes check) = if check = crc16 f.body then some f else none := by
  have length : (f.body ++ u16Bytes check).length - 2 = f.body.length := by simp [u16Bytes]
  have payload : ((f.body ++ u16Bytes check).drop 3).take ((f.body ++ u16Bytes check).length - 5) = f.payload := by
    have behind : (f.body ++ u16Bytes check).drop 3 = f.payload ++ u16Bytes check := rfl
    rw [behind, List.take_left' (by simp [PanelFrame.body, u16Bytes])]
  have read : panelFrameOf (f.body ++ u16Bytes check) =
      if (f.body ++ u16Bytes check).drop ((f.body ++ u16Bytes check).length - 2) =
          u16Bytes (crc16 ((f.body ++ u16Bytes check).take ((f.body ++ u16Bytes check).length - 2))) then
        some ⟨f.type, ((f.body ++ u16Bytes check).drop 3).take ((f.body ++ u16Bytes check).length - 5)⟩ else none := rfl
  rw [read, payload, length, List.drop_left, List.take_left]
  exact if_congr u16Bytes_inj rfl rfl

/-- The bytes of a panel frame with two check bytes behind them, received from the first on by a receiver that hunts. -/
theorem State.panelBytes_frame (hunts : s.panel.rx = []) {f : PanelFrame} (fits : f.payload.length ≤ 120) (check : U16) :
    (f.body ++ u16Bytes check).foldl State.panelByte s = if check = crc16 f.body then (s.arrive f).transmit else s := by
  have idle := State.receiving_nil hunts
  have len : (BitVec.ofNat 8 f.payload.length).toNat = f.payload.length := by
    rw [BitVec.toNat_ofNat, Nat.mod_eq_of_lt (by omega)]
  have split : f.body ++ u16Bytes check = [panelStart, BitVec.ofNat 8 f.payload.length] ++ (f.type :: f.payload ++ [loByte check])
      ++ [hiByte check] := by simp [PanelFrame.body, u16Bytes]
  have head : [panelStart, BitVec.ofNat 8 f.payload.length].foldl State.panelByte s =
      s.receiving [panelStart, BitVec.ofNat 8 f.payload.length] := by
    conv_lhs => rw [← idle]
    rw [List.foldl_cons, State.panelByte_hunting, if_pos rfl, List.foldl_cons, State.panelByte_receives
      (acc' := [panelStart, BitVec.ofNat 8 f.payload.length]) (by simp [panelRxByte, len, fits])]
    rfl
  have last : (f.type :: f.payload ++ [loByte check]).length = (BitVec.ofNat 8 f.payload.length).toNat + 2 := by simp [len]
  rw [split, List.foldl_append, List.foldl_append, head, State.panelBytes_receive (by simp [len]), List.nil_append,
    List.foldl_cons, List.foldl_nil, State.panelByte_ends (panelRxByte_last last)]
  have whole : panelStart :: BitVec.ofNat 8 f.payload.length :: (f.type :: f.payload ++ [loByte check] ++ [hiByte check]) =
      f.body ++ u16Bytes check := split.symm
  rw [whole, panelFrameOf_body, idle]
  by_cases right : check = crc16 f.body
  · rw [if_pos right, if_pos right]
  · rw [if_neg right, if_neg right]

/-! ### The receivers' events -/

theorem exec_panelFrameComplete (bytes : List Byte) :
    exec (.panelFrameComplete bytes) s = event (fun s => bytes.foldl State.panelByte s) s := rfl

theorem exec_panelFrameGap (b : Byte) :
    exec (.panelFrameGap b) s = event (fun s => (s.receiving []).panelByte b) s := rfl

theorem exec_panelFrameLengthAbove120 (b : Byte) : exec (.panelFrameLengthAbove120 b) s =
    event (fun s => if s.panel.rx.length = 1 ∧ 120 < b.toNat then s.panelByte b else s) s := rfl

theorem exec_reportReceived_bytes (bytes : List Byte) :
    exec (.reportReceived bytes) s = event (fun s => bytes.foldl State.spanByte s) s := rfl

theorem exec_spanFrameGap (b : Byte) :
    exec (.spanFrameGap b) s = event (fun s => (s.assembling []).spanByte b) s := rfl

theorem exec_spanFrameKindNotReport (b : Byte) : exec (.spanFrameKindNotReport b) s =
    event (fun s => if s.span.rx.length = 2 ∧ b ≠ reportKind then s.spanByte b else s) s := rfl

/-- Settles O12: the frame's bytes are one arrival of the frame, and the transmit side has chosen when the event ends. -/
theorem frameBytesDoWhatTheRequestDoes : Obligations.FrameBytesDoWhatTheRequestDoes := by
  intro i f s frame fits hunts
  refine ⟨_, rfl, ?_⟩
  have received : (panelFrameBytes f).foldl State.panelByte s = (s.arrive f).transmit :=
    (State.panelBytes_frame hunts fits (crc16 f.body)).trans (if_pos rfl)
  have submitted : s.submitFrame f = s.arrive f := by
    have hunting : ({ s with panel := { s.panel with rx := [] } } : State) = s := State.receiving_nil hunts
    rw [State.submitFrame, if_pos fits, hunting]
  have same : ((panelFrameBytes f).foldl State.panelByte s).transmit = (s.submitFrame f).transmit := by
    rw [received, submitted, State.transmit_transmit]
  rw [exec_of_frame frame, event, ← same]

/-! ### The span receiver (R60, R182) -/

theorem State.spanByte_deaf (deaf : s.spanDeaf = true) (b : Byte) : s.spanByte b = s := if_pos deaf

theorem State.spanBytes_deaf (deaf : s.spanDeaf = true) (bs : List Byte) : bs.foldl State.spanByte s = s := by
  induction bs with
  | nil => rfl
  | cons b bs ih => rw [List.foldl_cons, State.spanByte_deaf deaf, ih]

/-- The receiver hears while no slot is in progress, or the one in progress is not sending. -/
theorem State.spanDeaf_eq_false : s.spanDeaf = false ↔ ∀ sl, s.span.slot = some sl → sl.phase ≠ .sending := by
  unfold State.spanDeaf
  cases s.span.slot <;> simp

theorem State.spanDeaf_of_sending (sending : ¬ ∀ sl, s.span.slot = some sl → sl.phase ≠ .sending) : s.spanDeaf = true := by
  rwa [← State.spanDeaf_eq_false, Bool.not_eq_false] at sending

theorem reportFrameOf_body {r : ReportFrame} {check : U16} (wrong : check ≠ crc16 r.body) :
    reportFrameOf (r.body ++ u16Bytes check) = none := by
  refine if_neg fun right => wrong ?_
  have value : u16 (loByte check) (hiByte check) = crc16 r.body := right.1
  rw [← value, u16_loByte_hiByte]

/-- A REPORT with a wrong check value, received from the first byte on by a receiver that hunts. -/
theorem State.spanBytes_discard (hunts : s.span.rx = []) {r : ReportFrame} {check : U16} (wrong : check ≠ crc16 r.body) :
    (r.body ++ u16Bytes check).foldl State.spanByte s = s := by
  cases hears : s.spanDeaf with
  | true => exact State.spanBytes_deaf hears _
  | false =>
    have idle := State.assembling_nil hunts
    have split : r.body ++ u16Bytes check = [spanStart, r.address, reportKind] ++ (r.body.drop 3 ++ [loByte check])
        ++ [hiByte check] := rfl
    have middle : (r.body.drop 3 ++ [loByte check]).length = 10 := rfl
    have head : [spanStart, r.address, reportKind].foldl State.spanByte s =
        s.assembling [spanStart, r.address, reportKind] := by
      conv_lhs => rw [← idle]
      rw [List.foldl_cons, State.spanByte_assembles hears (acc' := [spanStart]) (by simp [spanRxByte]), List.foldl_cons,
        State.spanByte_assembles hears (acc' := [spanStart, r.address]) rfl, List.foldl_cons,
        State.spanByte_assembles hears (acc' := [spanStart, r.address, reportKind]) (by simp [spanRxByte])]
      rfl
    rw [split, List.foldl_append, List.foldl_append, head, State.spanBytes_assemble hears (by simp) (by simp [middle]),
      List.foldl_cons, List.foldl_nil, State.spanByte_ends hears (by simp [middle]), ← split, reportFrameOf_body wrong, idle]

/-! ### The obligation -/

/-- Settles O13: the panel receiver, the span receiver by whether it hears, and the wrong check values on either line. -/
theorem gapsAndUnfitBytesAbandonAFrame : Obligations.GapsAndUnfitBytesAbandonAFrame := by
  refine ⟨fun b s powered => ⟨?_, fun x awaited beyond => ?_, fun other => ?_⟩, ?_, ?_,
     fun r check s powered hunts wrong => ?_⟩
  · refine exec_powered (exec_panelFrameGap b) powered ?_
    exact State.panelByte_hunting b
  · refine exec_powered (exec_panelFrameLengthAbove120 b) powered ?_
    have begun : s.receiving [x] = s := by rw [State.receiving, ← awaited]
    rw [if_pos ⟨by rw [awaited]; rfl, beyond⟩]
    exact (congrArg (State.panelByte · b) begun).symm.trans (State.panelByte_receives (panelRxByte_length_beyond beyond))
  · refine exec_powered (exec_panelFrameLengthAbove120 b) powered ?_
    exact if_neg (by omega)
  · intro s b powered hears heard
    refine ⟨fun hearing => ?_, fun sending => ?_, fun x y hearing awaited other => ?_, fun other => ?_⟩
    · refine exec_powered (exec_spanFrameGap b) powered ?_
      exact State.spanByte_assembles (State.spanDeaf_eq_false.2 hearing) rfl
    · refine exec_powered (exec_spanFrameGap b) powered ?_
      exact State.spanByte_deaf (s := s.assembling []) (State.spanDeaf_of_sending sending) b
    · refine exec_powered (exec_spanFrameKindNotReport b) powered ?_
      have begun : s.assembling [x, y] = s := by rw [State.assembling, ← awaited]
      rw [if_pos ⟨by rw [awaited]; rfl, other⟩]
      exact (congrArg (State.spanByte · b) begun).symm.trans
        (State.spanByte_assembles (State.spanDeaf_eq_false.2 hearing) (congrArg (·, none) (if_neg other)))
    · refine exec_powered (exec_spanFrameKindNotReport b) powered ?_
      rcases other with deaf | elsewhere
      · rw [State.spanByte_deaf (State.spanDeaf_of_sending deaf), ite_self]
      · exact if_neg fun ⟨length, kind⟩ => elsewhere.elim (· length) kind
  · intro f check s powered hunts fits body wrong
    refine exec_powered (exec_panelFrameComplete _) powered ?_
    exact (State.panelBytes_frame hunts fits check).trans (if_neg wrong)
  · refine exec_powered (exec_reportReceived_bytes _) powered ?_
    exact State.spanBytes_discard hunts wrong

end Sys2Proof.Machine
end

section
/-! SUPPORT. A device reset (R180): with the retained record made invalid the decision of R174 depends on the loaded
configuration and the power-fail input alone, and the obligation O58. -/

namespace Sys2Proof.Machine

variable {s : State}

/-! ### The machine state that an invalid record leaves (R174) -/

/-- The machine state after a reset with an invalid record. -/
def State.forgotten (s : State) : MState :=
  if s.complete = false then .unconfigured else if s.inputs.powerFail then .powerWait else .stopped

/-- With an invalid record the decision sets the machine state, and nothing else. -/
theorem State.AtLoad.decide_forgets (h : s.AtLoad) (invalid : s.store.record.valid = false) :
    s.decide = { s with run := returnedRun s.forgotten none none none } := by
  unfold State.forgotten
  cases complete : s.complete with
  | false =>
    have record : ({ s.store.record with valid := false } : RetainedRecord) = s.store.record := by rw [← invalid]
    rw [h.decide_incomplete complete, if_pos rfl, record, if_neg (by simp [invalid]), List.append_nil, ← h.run_eq]
  | true =>
    rw [if_neg (by simp)]
    cases power : s.inputs.powerFail with
    | true => rw [s.decide_powerFail complete power, h.run_eq]; rfl
    | false =>
      obtain ⟨record, stopped⟩ := h.enters_stopped complete
      unfold State.decide State.stoppedAtReset
      simp [complete, power, invalid, stopped]

/-! ### The two resets -/

theorem State.recordRead_false (s : State) : s.recordRead false = s.invalidateRecord := by
  simp [State.recordRead, State.invalidateRecord]

theorem exec_deviceReset (powered : s.powered = true) :
    exec .deviceReset s = .next (((s.recordRead false).loaded true).decide).transmit := by
  rw [State.recordRead_false]
  exact event_powered powered State.deviceReset

/-- What a reset with an invalid record leaves: the loaded part in the state decided, and the first frame. -/
theorem State.forgets_sends (device : Bool) (s : State) : ∃ tx notices,
    let u := (s.recordRead false).loaded device
    u.decide.transmit = { u with
      run := returnedRun u.forgotten none none none
      panel := { u.panel with tx := tx, notices := notices } } ∧
    notices.map Notice.content = (resetNotices device s.keptCopy.passes).map Notice.content := by
  have load := (s.recordRead false).loaded_atLoad device
  have invalid : ((s.recordRead false).loaded device).store.record.valid = false := by
    rw [State.loaded_eq, State.recordRead_loseWrite]
    exact Bool.and_false _
  have queued : ((s.recordRead false).loaded device).panel.notices = resetNotices device s.keptCopy.passes := by
    rw [State.loaded_eq, State.recordRead_loseWrite]
    rfl
  obtain ⟨tx, notices, sends, content⟩ := State.transmit_idle (s := { (s.recordRead false).loaded device with
    run := returnedRun ((s.recordRead false).loaded device).forgotten none none none }) load.service load.lost
  refine ⟨tx, notices, ?_, content.trans (congrArg _ queued)⟩
  dsimp only
  rw [load.decide_forgets invalid, sends]

/-- RESET_DEVICE is answered by the panel port. -/
theorem exec_resetDevice (ready : s.receptive) :
    exec .resetDevice s = .next ((s.heard .resetDevice).replying 0x39 .ok).transmit := by
  obtain ⟨fits, -⟩ := Laws.FrameFits.resetDevice _ rfl rfl
  exact exec_answered ready rfl fits rfl fun _ => rfl

/-- What the notices of either reset tell: RESTARTED which it was, and CONFIG_INVALID a copy whose check fails. -/
theorem resetNotices_told (device : Bool) (c : StoredCopy) : (resetNotices device c.passes).map Notice.content =
    ([NoticeData.restarted device] ++ if c.contents = none then [NoticeData.configInvalid] else []).map
      fun d => (Subject.machine, d, 1) := by
  simp only [c.contents_eq_none]
  cases c.passes <;> rfl

/-- Settles O58: with an invalid record both resets decide alike (`State.AtLoad.decide_forgets`), on loads that differ in the
RESTARTED notice alone. -/
theorem deviceResetForgetsTheRun : Obligations.DeviceResetForgetsTheRun := by
  refine fun s => ⟨exec_resetDevice, fun powered => ?_⟩
  obtain ⟨tx, notices, resets, content⟩ := s.forgets_sends true
  obtain ⟨tx', notices', powers, -⟩ := s.forgets_sends false
  refine ⟨_, _, exec_deviceReset powered, exec_powerOnReset_eq false s, ?_⟩
  rw [resets, powers, State.loaded_eq, State.loaded_eq, State.recordRead_loseWrite]
  exact ⟨rfl, rfl, rfl, rfl, rfl, rfl, rfl, rfl, rfl, rfl, rfl, rfl, content.trans (resetNotices_told true _), rfl, rfl, rfl⟩

end Sys2Proof.Machine
end

section
/-! SUPPORT. The expiry of the recovery timer (R179): the four conditions in their order, and the two changes of machine state
that it can bring about (O60). -/

namespace Sys2Proof.Machine

variable {s : State}

/-! ### The conditions (R179) -/

/-- The captured angle and the held one are valid, and no farther apart than the tolerance. -/
def State.angleHolds (s : State) : Prop :=
  ∃ a, s.store.record.captured = some (a, true) ∧ s.angle.heldValid = true ∧
    (angleDiff a s.angle.held).natAbs ≤ s.store.settings.tolerance

/-- Every tower 1..N is ONLINE. -/
def State.allOnline (s : State) : Prop := ∀ k, 1 ≤ k → k ≤ s.towerCount → (s.tower k).dyn.link = .online

/-- The conditions are tested in the order angle, towers, chain, faults; the first that fails gives the reason. -/
theorem State.recoveryRefusal_eq {angle online : Bool} (hangle : angle = true ↔ s.angleHolds)
    (honline : online = true ↔ s.allOnline) : s.recoveryRefusal =
      if angle = false then some .angle else if online = false then some .tower
      else if s.inputs.chainClosed = false then some .chain else if s.blockingFault = true then some .fault else none := by
  have towers : (s.members.all fun k => (s.tower k).dyn.link == .online) = online := by
    rw [Bool.eq_iff_iff, honline]
    simp [State.allOnline, State.mem_members]
  unfold State.recoveryRefusal
  rw [towers]
  cases captured : s.store.record.captured with
  | none =>
    have fails : angle = false := by
      rw [Bool.eq_false_iff, Ne, hangle]
      simp [State.angleHolds, captured]
    simp [fails]
  | some c =>
    have tested : (c.2 && s.angle.heldValid &&
        Decidable.decide ((angleDiff c.1 s.angle.held).natAbs ≤ s.store.settings.tolerance)) = angle := by
      rw [Bool.eq_iff_iff, hangle]
      simp [State.angleHolds, captured, Prod.ext_iff, and_assoc]
    simp [tested]

theorem State.recoveryRefusal_angle (fails : ¬ s.angleHolds) : s.recoveryRefusal = some .angle := by
  classical
  rw [State.recoveryRefusal_eq decide_eq_true_iff decide_eq_true_iff, if_pos (decide_eq_false fails)]

theorem State.recoveryRefusal_tower (angle : s.angleHolds) (fails : ¬ s.allOnline) : s.recoveryRefusal = some .tower := by
  classical
  rw [State.recoveryRefusal_eq decide_eq_true_iff decide_eq_true_iff]
  simp [angle, fails]

theorem State.recoveryRefusal_online (angle : s.angleHolds) (online : s.allOnline) : s.recoveryRefusal =
    if s.inputs.chainClosed = false then some .chain else if s.blockingFault = true then some .fault else none := by
  rw [State.recoveryRefusal_eq (angle := true) (online := true) (by simp [angle]) (by simp [online])]
  simp

/-! ### The two outcomes (R178, R179) -/

/-- The part at the expiry: the clock has come to it, and the timer is stopped. -/
def State.recoveryDue (s : State) (timer : Timer) : State :=
  (s.runOut timer).setRun fun c => { c with recoveryTimer := none }

theorem State.recoveryDue_refusal (s : State) (timer : Timer) : (s.recoveryDue timer).recoveryRefusal = s.recoveryRefusal := rfl

theorem State.recoveryExpires_refused (recovering : s.run.mstate = .recovering) {timer : Timer}
    (running : s.run.recoveryTimer = some timer) {why : RecoveryReason} (refused : s.recoveryRefusal = some why) :
    s.recoveryExpires = (((s.recoveryDue timer).setRun fun c => { c with pass := none }).enter .stopped).queueNotice .machine
      (.recovery (.refused why)) := by
  unfold State.recoveryExpires
  rw [recovering, running]
  dsimp only
  rw [← State.recoveryDue, State.recoveryDue_refusal, refused]

theorem State.recoveryExpires_resumed (recovering : s.run.mstate = .recovering) {timer : Timer}
    (running : s.run.recoveryTimer = some timer) (accepted : s.recoveryRefusal = none) :
    s.recoveryExpires = ((s.recoveryDue timer).enterPrestart .recovery).queueNotice .machine (.recovery .resumed) := by
  unfold State.recoveryExpires
  rw [recovering, running]
  dsimp only
  rw [← State.recoveryDue, State.recoveryDue_refusal, accepted]

/-- The entry to STOPPED from a state that does not move, written out (R36, R75, R175). -/
theorem State.enterStopped_written (active : s.span.mode = .active) (still : s.run.mstate.moving = false) :
    s.enter .stopped = ({ s with
      run := { s.run with
        mstate := .stopped, dest := none, reason := none, origin := none, contactor := false, warning := false }
      span := { s.span with quietTimer := some ⟨s.mval .quietDelay * 1000, s.clock⟩ }
      angle := { s.angle with
        windows := Vector.replicate 16 none, overLimit := Vector.replicate 16 0
        haltAngle := if s.angle.heldValid then some s.angle.held else none }
      store := { s.store with record := ⟨true, .other, s.run.pass, none, none⟩ } } : State).queueNotice .machine
        (.state .stopped none) := by
  rw [State.enter_eq active (by decide)]
  refine congrArg (State.queueNotice · _ _) ?_
  unfold State.entered
  rw [WatchUnit.leaving_of_not _ (by simp [still]), AngleUnit.entering_of_halt _ (.inl rfl)]
  rfl

theorem exec_recoveryTimerExpiry (powered : s.powered = true) :
    exec .recoveryTimerExpiry s = .next s.recoveryExpires.transmit := event_powered powered State.recoveryExpires

/-- Settles O60: the expiry by the first condition that fails. -/
theorem recoveryTimerResumesOrRefuses : Obligations.RecoveryTimerResumesOrRefuses := by
  intro s timer powered recovering running active now angle online chain clean windows refused
  have still : s.run.mstate.moving = false := by rw [recovering]; rfl
  have refuses (why : RecoveryReason) (fails : s.recoveryRefusal = some why) : refused why := by
    refine (exec_recoveryTimerExpiry powered).trans ?_
    rw [State.recoveryExpires_refused recovering running fails, State.enterStopped_written (by exact active) (by exact still)]
    rfl
  have hclean : clean ↔ ¬ s.blockingFault = true := by simp [clean, s.blockingFault_iff]
  refine ⟨fun fails => refuses _ (State.recoveryRefusal_angle fails),
    fun holds fails => refuses _ (State.recoveryRefusal_tower holds fails),
    fun holds all fails => refuses _ ?_, fun holds all closed fails => refuses _ ?_, fun holds all closed soft => ?_⟩
  · rw [State.recoveryRefusal_online holds all, if_pos (Bool.eq_false_iff.2 fails)]
  · rw [State.recoveryRefusal_online holds all, if_neg (by simpa using closed), if_pos (by simpa [hclean] using fails)]
  · intro warn u
    have accepted : s.recoveryRefusal = none := by
      rw [State.recoveryRefusal_online holds all, if_neg (by simpa using closed), if_neg (hclean.1 soft)]
    refine (exec_recoveryTimerExpiry powered).trans ?_
    rw [State.recoveryExpires_resumed recovering running accepted,
      State.enterPrestart_written (by exact active) (by exact still)]
    rfl

end Sys2Proof.Machine
end

section
/-! SUPPORT. STORE_CONFIG (R170 to R172): the settings that a request carries, the image as it stands, the taking that leaves
the request in service without a reply, and the completion of the write (O56). -/

namespace Sys2Proof.Machine

variable {s : State}

/-! ### The settings carried (R171) -/

section Carried

variable {presence policy : Byte} {delay tolerance : U16} {old : RecoverySettings}

/-- Each setting that the presence byte names is in range. -/
def carriesFit (presence policy : Byte) (delay tolerance : U16) : Prop :=
  (presence.getLsbD 0 = true → policy.toNat ≤ 2) ∧
    (presence.getLsbD 1 = true → 5 ≤ delay.toNat ∧ delay.toNat ≤ 600) ∧
    (presence.getLsbD 2 = true → tolerance.toNat ≤ 500)

theorem policyOf_isSome : (policyOf policy).isSome = true ↔ policy.toNat ≤ 2 := by
  unfold policyOf
  split <;> grind

theorem policyOf_eq (d : RecoveryPolicy) :
    policyOf policy = if policy.toNat ≤ 2 then some ((policyOf policy).getD d) else none := by
  cases named : policyOf policy with
  | none => rw [if_neg (by simp [← policyOf_isSome, named])]
  | some p => rw [if_pos (policyOf_isSome.1 (by simp [named]))]; rfl

/-- The settings with those carried in place. -/
def settingsAfter (old : RecoverySettings) (presence policy : Byte) (delay tolerance : U16) : RecoverySettings where
  policy := if presence.getLsbD 0 then (policyOf policy).getD old.policy else old.policy
  delay := if presence.getLsbD 1 then delay.toNat else old.delay
  tolerance := if presence.getLsbD 2 then tolerance.toNat else old.tolerance

/-- A setting in range, carried or not. -/
theorem carried_fit {α : Type} {present : Bool} {ok : Prop} [Decidable ok] {v before : α} (fit : present = true → ok) :
    (if present = true then if ok then some v else none else some before) =
      some (if present = true then v else before) := by
  cases present with
  | false => rfl
  | true => exact if_pos (fit rfl)

/-- A setting out of range that is carried. -/
theorem carried_unfit {α : Type} {present : Bool} {ok : Prop} [Decidable ok] {v before : α}
    (unfit : ¬ (present = true → ok)) : (if present = true then if ok then some v else none else some before) = none := by
  obtain ⟨present, bad⟩ := Classical.not_imp.1 unfit
  rw [if_pos present, if_neg bad]

/-- The three settings are looked at one after another. -/
theorem carriedSettings_bind : carriedSettings old presence policy delay tolerance =
    (if presence.getLsbD 0 = true then policyOf policy else some old.policy).bind fun p =>
      (if presence.getLsbD 1 = true then if 5 ≤ delay.toNat ∧ delay.toNat ≤ 600 then some delay.toNat else none
        else some old.delay).bind fun d =>
        (if presence.getLsbD 2 = true then if tolerance.toNat ≤ 500 then some tolerance.toNat else none
          else some old.tolerance).bind fun t => some ⟨p, d, t⟩ := by
  unfold carriedSettings
  cases presence.getLsbD 0 <;> cases presence.getLsbD 1 <;> cases presence.getLsbD 2 <;> rfl

theorem carriedSettings_fit (fit : carriesFit presence policy delay tolerance) :
    carriedSettings old presence policy delay tolerance = some (settingsAfter old presence policy delay tolerance) := by
  obtain ⟨hpolicy, hdelay, htolerance⟩ := fit
  rw [carriedSettings_bind, policyOf_eq old.policy, carried_fit hpolicy, carried_fit hdelay, carried_fit htolerance]
  rfl

theorem carriedSettings_unfit (unfit : ¬ carriesFit presence policy delay tolerance) :
    carriedSettings old presence policy delay tolerance = none := by
  rw [carriedSettings_bind, policyOf_eq old.policy]
  by_cases hpolicy : presence.getLsbD 0 = true → policy.toNat ≤ 2
  · by_cases hdelay : presence.getLsbD 1 = true → 5 ≤ delay.toNat ∧ delay.toNat ≤ 600
    · rw [carried_fit hpolicy, carried_fit hdelay, carried_unfit fun htolerance => unfit ⟨hpolicy, hdelay, htolerance⟩]
      rfl
    · rw [carried_fit hpolicy, carried_unfit hdelay]
      rfl
  · rw [carried_unfit hpolicy]
    rfl

theorem settingsAfter_policy {p : RecoveryPolicy} (carried : presence.getLsbD 0 = true) (named : policyOf policy = some p) :
    (settingsAfter old presence policy delay tolerance).policy = p := by
  simp [settingsAfter, carried, named]

end Carried

/-! ### The image as it stands (R170) -/

theorem State.snapshot_machine (s : State) (f : MachineField) : s.snapshot.machine.get f = s.setting (.machine f) :=
  s.candidate_machine f

theorem State.snapshot_tower (s : State) (k : Fin 16) (f : TowerField) :
    s.snapshot.towers[k].get f = s.setting (.tower (k.val + 1) f) := by
  have entry : (s.candidate []).tower (k.val + 1) = (s.candidate []).table.towers[k] :=
    nth_of_mem _ (by omega) (by omega) _
  rw [← s.candidate_tower (by omega) (by omega) f, entry]
  exact congrArg (TowerConfig.get · f) (Vector.getElem_map _ _)

theorem State.snapshot_watch (s : State) (n : Fin 8) : s.snapshot.watches[n] = s.watch.entries[n].cfg :=
  Vector.getElem_map _ _

/-! ### The taking (R172) -/

theorem parseRequest_storeConfig (presence policy : Byte) (delay tolerance : U16) :
    parseRequest (frameOf (.storeConfig presence policy delay tolerance)) =
      .storeConfig presence policy delay tolerance := by
  change Request.storeConfig presence policy (u16 (loByte delay) (hiByte delay))
    (u16 (loByte tolerance) (hiByte tolerance)) = _
  rw [u16_loByte_hiByte, u16_loByte_hiByte]

/-- A request in service whose reply is not yet ready. -/
def State.serving (s : State) (type : Byte) : State :=
  { s with panel := { s.panel with service := some ⟨type, none⟩ } }

/-- A frame taken whose owner does not answer yet. -/
theorem State.take_of_unanswered {f : PanelFrame} {u : State}
    (served : (s.noteTaken (parseRequest f)).serve s.panel.wakeLine (parseRequest f) = (u, none)) :
    s.take f = u.serving f.type := by
  unfold State.take
  dsimp only
  rw [served]
  rfl

section StoreConfig

variable {presence policy : Byte} {delay tolerance : U16}

/-- STORE_CONFIG refused is answered by the store. -/
theorem exec_storeConfig_refused (ready : s.receptive) {u : State} {a : Answer}
    (taken : (s.heard (.storeConfig presence policy delay tolerance)).takeStoreConfig presence policy delay tolerance =
      (u, some a)) :
    exec (.storeConfig presence policy delay tolerance) s = .next (u.replying 0x38 a).transmit := by
  obtain ⟨fits, -⟩ := Laws.FrameFits.storeConfig presence policy delay tolerance _ rfl rfl
  exact exec_answered ready rfl fits (parseRequest_storeConfig ..) fun _ => taken

/-- STORE_CONFIG accepted is in service without a reply. -/
theorem exec_storeConfig_accepted (ready : s.receptive) {u : State}
    (taken : (s.heard (.storeConfig presence policy delay tolerance)).takeStoreConfig presence policy delay tolerance =
      (u, none)) :
    exec (.storeConfig presence policy delay tolerance) s = .next (u.serving 0x38).transmit := by
  obtain ⟨fits, -⟩ := Laws.FrameFits.storeConfig presence policy delay tolerance _ rfl rfl
  have served : (s.hunting.noteTaken (parseRequest (frameOf (.storeConfig presence policy delay tolerance)))).serve
      s.hunting.panel.wakeLine (parseRequest (frameOf (.storeConfig presence policy delay tolerance))) = (u, none) := by
    rw [parseRequest_storeConfig]
    exact taken
  rw [exec_of_frame (f := frameOf (.storeConfig presence policy delay tolerance)) rfl, event_powered ready.1,
    State.submitFrame_of_receptive ready fits]
  exact congrArg (fun u : State => Host.Outcome.next u.transmit) (State.take_of_unanswered served)

theorem State.takeStoreConfig_wrongState (h : ¬ (s.run.mstate = .unconfigured ∨ s.run.mstate = .stopped)) :
    s.takeStoreConfig presence policy delay tolerance = (s, some (.fail .wrongState)) := by
  unfold State.takeStoreConfig
  exact if_pos (not_or.1 h)

theorem State.takeStoreConfig_badValue (rests : s.run.mstate = .unconfigured ∨ s.run.mstate = .stopped)
    (unfit : ¬ carriesFit presence policy delay tolerance) :
    s.takeStoreConfig presence policy delay tolerance = (s, some (.fail .badValue)) := by
  unfold State.takeStoreConfig
  rw [if_neg (not_and_or.2 (by simpa using rests)), carriedSettings_unfit unfit]

/-- The settings take their places and the image as it stands begins to be written. -/
def State.storing (s : State) (settings : RecoverySettings) : State := { s with
  store := { s.store with
    settings := settings
    writing := some ({ s with store := { s.store with settings := settings } } : State).snapshot } }

theorem State.takeStoreConfig_accepted (rests : s.run.mstate = .unconfigured ∨ s.run.mstate = .stopped)
    (fit : carriesFit presence policy delay tolerance) :
    s.takeStoreConfig presence policy delay tolerance =
      (s.storing (settingsAfter s.store.settings presence policy delay tolerance), none) := by
  unfold State.takeStoreConfig
  rw [if_neg (not_and_or.2 (by simpa using rests)), carriedSettings_fit fit]
  rfl

end StoreConfig

/-! ### The end of the write (R172, R181), and the obligation -/

/-- The completion of a write for which STORE_CONFIG is in service makes its reply ready. -/
theorem State.writeCompletes_serving {i : ConfigImage} (writes : s.store.writing = some i)
    (service : s.panel.service = some ⟨0x38, none⟩) (verified : Bool) : s.writeCompletes verified =
      ({ s with store := { s.store with
          writing := none
          stored := if verified then .written i (u32Bytes i.check) else .failing } } : State).replying 0x38
        (if verified then .ok (.stored i.recovery i.check) else .fail .storeFailed) := by
  unfold State.writeCompletes State.makeReady
  rw [writes]
  dsimp only
  rw [service]
  rfl

theorem exec_storeWriteComplete (powered : s.powered = true) (verified : Bool) :
    exec (.storeWriteComplete verified) s = .next (s.writeCompletes verified).transmit :=
  event_powered powered (State.writeCompletes verified)

/-- Settles O56: the branches of `State.takeStoreConfig` on what hearing the request leaves, and the two ends of the write. -/
theorem storeConfigWritesTheImage : Obligations.StoreConfigWritesTheImage := by
  refine ⟨fun s presence policy delay tolerance ready => ?_, fun s i powered writes service => ⟨?_, ?_⟩⟩
  · intro i h old fits rests
    have run : h.run.mstate = s.run.mstate := congrArg RunController.mstate (s.heard_run _)
    have store : h.store = s.store := s.heard_store _
    refine ⟨fun moves => exec_storeConfig_refused ready (State.takeStoreConfig_wrongState (by rwa [run])),
      fun still unfit => exec_storeConfig_refused ready (State.takeStoreConfig_badValue (by rwa [run]) unfit),
      fun still fit => ?_⟩
    obtain ⟨priorities, -, filters⟩ := s.heard_settings (.storeConfig presence policy delay tolerance)
    have setting (key : FieldKey) : h.setting key = s.setting key := State.setting_of_table (s.heard_table _) key
    have sectors : h.sectors = s.sectors := s.heard_sectors _
    have modes : h.faults.modes = s.faults.modes := s.heard_modes _
    have watch : h.watch = s.watch := s.heard_watch _
    have accepted := exec_storeConfig_accepted ready
      (State.takeStoreConfig_accepted (s := h) (policy := policy) (by rwa [run]) fit)
    rw [State.storing, store] at accepted
    refine ⟨_, _, accepted, fun p => settingsAfter_policy, fun absent => ?_, rfl, rfl, fun f => ?_, fun k f => ?_, ?_,
      fun n => ?_, modes, priorities, filters, rfl⟩
    · exact if_neg (Bool.eq_false_iff.1 absent)
    · exact (State.snapshot_machine _ f).trans (setting _)
    · exact (State.snapshot_tower _ k f).trans (setting _)
    · rw [← sectors]; rfl
    · rw [← watch]; exact State.snapshot_watch _ n
  · exact (exec_storeWriteComplete powered true).trans (by rw [State.writeCompletes_serving writes service]; rfl)
  · exact (exec_storeWriteComplete powered false).trans (by rw [State.writeCompletes_serving writes service]; rfl)

end Sys2Proof.Machine
end

section
/-! SUPPORT. A change of machine state on any line, with what becomes of the retained record and of the notice queue (R84, R175);
then a power-fail assertion and the return of power (R176 to R178), and the obligation O59. -/

namespace Sys2Proof.Machine

variable {s t : State}

/-! ### Notices that stand in a queue with room (R160) -/

/-- The queue holds a notice. -/
def State.holds (s : State) (subject : Subject) (data : NoticeData) : Prop :=
  ∃ n ∈ s.panel.notices, n.subject = subject ∧ n.data = data

/-- A queue with room grows by one entry at most. -/
theorem State.queueNotice_length (room : s.panel.notices.length < 32) (subject : Subject) (data : NoticeData) :
    (s.queueNotice subject data).panel.notices.length ≤ s.panel.notices.length + 1 := by
  unfold State.queueNotice
  dsimp only
  split
  · simp
  · simp

/-- A notice stands when one of another kind is queued behind it. -/
theorem State.holds.queueNotice {subject subject' : Subject} {data data' : NoticeData} (held : s.holds subject data)
    (room : s.panel.notices.length < 32) (other : data.kind ≠ data'.kind) :
    (s.queueNotice subject' data').holds subject data := by
  obtain ⟨n, mem, hsubject, hdata⟩ := held
  unfold State.queueNotice
  dsimp only
  split
  next =>
    refine ⟨n, List.mem_map.2 ⟨n, mem, if_neg ?_⟩, hsubject, hdata⟩
    simp [Notice.isFor, hdata, other]
  next => exact ⟨n, List.mem_append_left _ mem, hsubject, hdata⟩

/-! ### The line at a change of machine state (R75, R79) -/

/-- The line leaves QUIET with its notice, or says nothing. -/
theorem State.lineFollows_told (s : State) : s.lineFollows.panel = s.panel ∨
    s.lineFollows.panel = (s.queueNotice .machine (.quiet true)).panel := by
  have leaves : s.leaveQuiet.panel = s.panel ∨ s.leaveQuiet.panel = (s.queueNotice .machine (.quiet true)).panel := by
    cases mode : s.span.mode with
    | active => exact .inl (congrArg State.panel (State.leaveQuiet_active mode))
    | quiet =>
      refine .inr ?_
      have told := State.queueNotice_panel (s := s) (t := { s with span := s.wokenLine }) rfl .machine (.quiet true)
      rw [State.leaveQuiet_eq mode]
      dsimp only
      split
      · rw [State.beginDriveRound_panel, told]
      · exact told
  unfold State.lineFollows
  split
  · exact .inl s.restartQuiet_panel
  split
  · exact leaves
  · exact leaves

/-! ### A change of machine state (R84, R175) -/

/-- The retained record after a change of machine state (R175). -/
def State.recordAt (s : State) (m : MState) (dest : Option Destination) : RetainedRecord :=
  if m = .powerWait then s.store.record
  else ⟨true, lossClass m dest, s.run.pass, if m = .tripped then s.run.tripKind else none,
    if m = .recovering then s.store.record.captured else none⟩

/-- A change of machine state on any line: the state entered, its STATE notice, and behind it the notice of a line that
leaves QUIET. -/
theorem State.enter_told (s : State) (m : MState) (dest : Option Destination) (reason : Option PassEnd)
    (origin : Option Origin) : ∃ span panel,
      s.enter m dest reason origin = { s.entered m dest reason origin with
        span := span, panel := panel, store := { s.store with record := s.recordAt m dest } } ∧
      (m ≠ .stopped → span.mode = .active) ∧
      (panel = (s.queueNotice .machine (.state m dest)).panel ∨
        panel = ((s.queueNotice .machine (.state m dest)).queueNotice .machine (.quiet true)).panel) := by
  have queued : (s.setMachine m dest reason origin).queueNotice .machine (.state m dest) =
      { s.setMachine m dest reason origin with panel := (s.queueNotice .machine (.state m dest)).panel } :=
    State.queueNotice_of_panel (s.setMachine_panel ..) ..
  generalize hu : ({ s.setMachine m dest reason origin with
    panel := (s.queueNotice .machine (.state m dest)).panel
    store := { s.store with record := s.recordAt m dest } } : State) = u
  have record : State.recordFollows { s.setMachine m dest reason origin with
      panel := (s.queueNotice .machine (.state m dest)).panel } = u := by
    subst hu
    unfold State.recordFollows State.recordAt
    change (if m = .powerWait then _ else _) = _
    split <;> rfl
  refine ⟨u.lineFollows.span, u.lineFollows.panel, ?_, fun moves => ?_, ?_⟩
  · unfold State.enter State.enterWith
    dsimp only
    rw [if_pos rfl, queued, record, u.lineFollows_frame, State.angleFollows_eq, State.levelsFollow_eq,
      State.marksFollow_eq]
    subst hu
    rfl
  · have mstate : u.run.mstate = m := by subst hu; rfl
    rw [State.lineFollows_mode, mstate, if_neg moves]
  · have panel : u.panel = (s.queueNotice .machine (.state m dest)).panel := by subst hu; rfl
    rw [← panel, ← State.queueNotice_panel panel]
    exact u.lineFollows_told

/-- A queue with room for the notices of one event takes the STATE notice, and has room for another. -/
theorem State.enter_holds (room : s.panel.notices.length < 30) (m : MState) (dest : Option Destination)
    (reason : Option PassEnd) (origin : Option Origin) :
    (s.enter m dest reason origin).holds .machine (.state m dest) ∧
      (s.enter m dest reason origin).panel.notices.length < 32 := by
  have held : (s.queueNotice .machine (.state m dest)).holds .machine (.state m dest) :=
    State.queueNotice_mem (by omega) ..
  have length := State.queueNotice_length (s := s) (by omega) .machine (.state m dest)
  obtain ⟨span, panel, entered, -, told⟩ := s.enter_told m dest reason origin
  have same : (s.enter m dest reason origin).panel = panel := by rw [entered]
  unfold State.holds
  rw [same]
  rcases told with told | told
  · rw [told]
    exact ⟨held, by omega⟩
  · have more := State.queueNotice_length (s := s.queueNotice .machine (.state m dest)) (by omega) .machine (.quiet true)
    rw [told]
    exact ⟨held.queueNotice (by omega) (by simp [NoticeData.kind]), by omega⟩

/-! ### A power-fail assertion (R176) -/

/-- The part that enters POWER_WAIT: the run state captured, every order 0, the timers stopped and the pass discarded. -/
def State.powerLost (s : State) : State :=
  (s.rewriteRecord (some (s.angle.held, s.angle.heldValid))).zeroOrders.setRun fun c =>
    { c with prestartTimer := none, startFailTimer := none, stopTimer := none, recoveryTimer := none, pass := none }

theorem State.powerFails_stays (h : s.run.mstate = .unconfigured ∨ s.run.mstate = .powerWait) : s.powerFails = s := if_pos h

theorem State.powerFails_enters (configured : s.run.mstate ≠ .unconfigured) (powered : s.run.mstate ≠ .powerWait) :
    s.powerFails = s.powerLost.enter .powerWait := if_neg (not_or.2 ⟨configured, powered⟩)

theorem State.powerLost_tower (s : State) {k : Nat} (low : 1 ≤ k) (high : k ≤ s.towerCount) :
    s.powerLost.tower k = { s.tower k with dyn := { (s.tower k).dyn with lastOrder := 0, stall := .idle } } := by
  have zero := (s.rewriteRecord (some (s.angle.held, s.angle.heldValid))).zeroOrders_tower k
  exact zero.trans (if_pos ((State.mem_members _).2 ⟨low, high⟩))

theorem WatchUnit.leaving_aux (w : WatchUnit) (was m : MState) (n : Fin 4) :
    (w.leaving was m).aux[n].mode = w.aux[n].mode ∧
      (w.leaving was m).aux[n].level = (w.aux[n].level && !(was.moving && !m.moving)) := by
  unfold WatchUnit.leaving
  split <;> simp_all

theorem WatchUnit.leaving_entries (w : WatchUnit) (was m : MState) : (w.leaving was m).entries = w.entries := by
  unfold WatchUnit.leaving
  split <;> rfl

/-- A power-fail assertion written out but for the line, the angle unit and the notices. -/
theorem State.powerFails_written (configured : s.run.mstate ≠ .unconfigured) (powered : s.run.mstate ≠ .powerWait) :
    ∃ angle span panel, s.powerFails = { s with
      table := s.powerLost.table
      run := { s.run with
        mstate := .powerWait, dest := none, reason := none, origin := none, pass := none
        prestartTimer := none, startFailTimer := none, stopTimer := none, recoveryTimer := none
        contactor := false, warning := false }
      watch := s.watch.leaving s.run.mstate .powerWait
      store := { s.store with record := ⟨true, lossClass s.run.mstate s.run.dest, s.run.pass,
        if s.run.mstate = .tripped then s.run.tripKind else none, some (s.angle.held, s.angle.heldValid)⟩ }
      angle := angle, span := span, panel := panel } ∧ span.mode = .active := by
  obtain ⟨span, panel, entered, active, -⟩ := s.powerLost.enter_told .powerWait none none none
  refine ⟨s.powerLost.angle.entering .powerWait, span, panel, ?_, active (by decide)⟩
  rw [State.powerFails_enters configured powered, entered, State.entered, State.powerLost, State.zeroOrders_eq]
  rfl

theorem exec_powerFailAssert (powered : s.powered = true) (given : s.inputs.powerFail = false) :
    exec .powerFailAssert s =
      .next (({ s with inputs := { s.inputs with powerFail := true } } : State).powerFails).transmit := by
  change execPowerFailAssert s = _
  unfold execPowerFailAssert
  rw [given]
  exact event_powered (s := { s with inputs := { s.inputs with powerFail := true } }) powered _

/-! ### The return of power (R177, R178) -/

theorem exec_powerFailDeassert (powered : s.powered = true) (lost : s.inputs.powerFail = true) :
    exec .powerFailDeassert s =
      .next (({ s with inputs := { s.inputs with powerFail := false } } : State).powerReturns).transmit := by
  change execPowerFailDeassert s = _
  unfold execPowerFailDeassert
  rw [lost]
  exact event_powered (s := { s with inputs := { s.inputs with powerFail := false } }) powered _

/-- The fault list after a TRIPPED return: an absent trip kind marks a return that follows a reset (assumption log 17). -/
def State.tripFaults (s : State) : FaultList :=
  match s.run.tripKind, s.store.record.tripKind with
  | none, some k => (s.restoreTrip k).faults
  | _, _ => s.faults

/-- The part that enters the state of a return: the pass, the timer or the trip that belongs to it in place. -/
def State.returning (s : State) (m : MState) : State :=
  match m with
  | .held => { s with run := { s.run with pass := s.store.record.pass } }
  | .recovering => { s with run := { s.run with
      pass := s.store.record.pass, recoveryTimer := some ⟨s.store.settings.delay * 1000, s.clock⟩ } }
  | .tripped => { s with run := { s.run with tripKind := s.store.record.tripKind }, faults := s.tripFaults }
  | _ => s

/-- The RECOVERY notice of a return, behind the notices of the change of machine state. -/
def State.tellReturn (r : RetainedRecord) (m : MState) (u : State) : State :=
  if r.valid = false then u
  else if m = .recovering then u.queueNotice .machine (.recovery .pending)
  else if m = .stopped ∧ r.cls ≠ .other then u.queueNotice .machine (.recovery (.refused .policy)) else u

theorem State.restoreTrip_faults (s : State) (k : FaultKind) : ∃ l, s.restoreTrip k = { s with faults := l } := by
  unfold State.restoreTrip
  dsimp only
  split
  · exact ⟨_, rfl⟩
  · exact ⟨s.faults, rfl⟩

/-- A TRIPPED return takes the stored trip kind, and places its record where the trip kind was absent. -/
theorem State.powerReturn_tripped (valid : s.store.record.valid = true) (cls : s.store.record.cls = .tripped) :
    s.powerReturn true = (s.returning .tripped).enter .tripped := by
  unfold State.returning State.tripFaults
  cases was : s.run.tripKind with
  | some k => simp [State.powerReturn, valid, cls, was, State.enter, State.setRun]
  | none =>
    cases trip : s.store.record.tripKind with
    | none => simp [State.powerReturn, valid, cls, was, trip, State.enter, State.setRun]
    | some k =>
      obtain ⟨l, placed⟩ := s.restoreTrip_faults k
      simp [State.powerReturn, valid, cls, was, trip, State.enter, State.setRun, placed]

/-- A return of power is a change to the machine state of the table of R177. -/
theorem State.powerReturn_eq (s : State) : s.powerReturn true =
    State.tellReturn s.store.record (landing s.store.record s.store.settings.policy).1
      ((s.returning (landing s.store.record s.store.settings.policy).1).enter
        (landing s.store.record s.store.settings.policy).1) := by
  cases valid : s.store.record.valid with
  | false => simp [State.powerReturn, landing, State.tellReturn, State.returning, State.enter, valid]
  | true =>
    cases cls : s.store.record.cls with
    | other => simp [State.powerReturn, landing, State.tellReturn, State.returning, State.enter, valid, cls]
    | tripped =>
      rw [State.powerReturn_tripped valid cls]
      simp [landing, State.tellReturn, valid, cls]
    | held =>
      cases policy : s.store.settings.policy <;>
        simp [State.powerReturn, landing, State.tellReturn, State.returning, State.enter, State.setRun, valid, cls, policy]
    | moving =>
      cases policy : s.store.settings.policy <;>
        simp [State.powerReturn, landing, State.tellReturn, State.returning, State.enter, State.setRun, State.startTimer,
          valid, cls, policy]

/-- The machine states, with their passes, that the table of R177 gives. -/
theorem landing_cases (r : RetainedRecord) (policy : RecoveryPolicy) : landing r policy = (.stopped, none) ∨
    r.valid = true ∧ (landing r policy = (.tripped, none) ∨ landing r policy = (.held, r.pass) ∨
      landing r policy = (.recovering, r.pass)) := by
  unfold landing
  cases r.valid with
  | false => exact .inl rfl
  | true => cases r.cls <;> cases policy <;> simp

/-- The pass of the table of R177 is restored, and one that the table gives none for stands. -/
theorem State.returning_pass {m : MState} {pass : Option Pass}
    (table : landing s.store.record s.store.settings.policy = (m, pass)) :
    (s.returning m).run.pass = pass ∨ pass = none ∧ (s.returning m).run.pass = s.run.pass := by
  rcases landing_cases s.store.record s.store.settings.policy with h | ⟨-, h | h | h⟩
  all_goals
    obtain ⟨rfl, rfl⟩ := Prod.mk.inj (h.symm.trans table)
    simp [State.returning]

/-- A return of power in POWER_WAIT, written out but for the angle unit, the line, the notices and the pass and trip that the
retained record takes over. -/
theorem State.powerReturn_written (waits : s.run.mstate = .powerWait) {m : MState}
    (target : (landing s.store.record s.store.settings.policy).1 = m) : ∃ angle span panel pass trip,
      s.powerReturn true = { s with
        run := (s.returning m).run.inState m
        faults := if m = .tripped then s.tripFaults else s.faults
        angle := angle, span := span, panel := panel
        store := { s.store with record :=
          ⟨true, lossClass m none, pass, trip, if m = .recovering then s.store.record.captured else none⟩ } } := by
  have told (r : RetainedRecord) (u : State) : ∃ panel, State.tellReturn r m u = { u with panel := panel } := by
    unfold State.tellReturn
    split
    · exact ⟨_, rfl⟩
    split
    · exact ⟨_, State.queueNotice_frame ..⟩
    split
    · exact ⟨_, State.queueNotice_frame ..⟩
    · exact ⟨_, rfl⟩
  obtain ⟨span, panel, entered, -, -⟩ := (s.returning m).enter_told m none none none
  obtain ⟨panel', told⟩ := told s.store.record ((s.returning m).enter m)
  have stands (w : WatchUnit) : w.leaving .powerWait m = w := w.leaving_of_not (by simp [MState.moving])
  refine ⟨(s.returning m).angle.entering m, span, panel', (s.returning m).run.pass,
    if m = .tripped then (s.returning m).run.tripKind else none, ?_⟩
  rw [s.powerReturn_eq, target, told, entered, State.entered]
  rcases landing_cases s.store.record s.store.settings.policy with h | ⟨-, h | h | h⟩
  all_goals
    rw [h] at target
    subst target
    simp only [State.returning, waits, stands]
    rfl

/-- What the notices of a return are, in a queue with room for those of one event. -/
theorem State.powerReturn_holds (room : s.panel.notices.length < 30) {m : MState}
    (target : (landing s.store.record s.store.settings.policy).1 = m) :
    (s.powerReturn true).holds .machine (.state m none) ∧
    (m = .recovering → (s.powerReturn true).holds .machine (.recovery .pending)) ∧
    (s.store.record.valid = true → m = .stopped → s.store.record.cls ≠ .other →
      (s.powerReturn true).holds .machine (.recovery (.refused .policy))) := by
  have panel : (s.returning m).panel = s.panel := by cases m <;> rfl
  obtain ⟨held, more⟩ := State.enter_holds (s := s.returning m) (by rwa [panel]) m none none none
  rw [s.powerReturn_eq, target]
  generalize (s.returning m).enter m = u at *
  have kept (d : RecoveryData) : (u.queueNotice .machine (.recovery d)).holds .machine (.state m none) :=
    held.queueNotice more (by simp [NoticeData.kind])
  refine ⟨?_, fun recovering => ?_, fun valid stopped cls => ?_⟩
  · unfold State.tellReturn
    split
    · exact held
    split
    · exact kept _
    split
    · exact kept _
    · exact held
  · have valid : s.store.record.valid = true := by
      rcases landing_cases s.store.record s.store.settings.policy with h | ⟨valid, -⟩
      · rw [h, recovering] at target
        cases target
      · exact valid
    rw [State.tellReturn, if_neg (by simp [valid]), if_pos recovering]
    exact State.queueNotice_mem more ..
  · rw [State.tellReturn, if_neg (by simp [valid]), if_neg (by simp [stopped]), if_pos ⟨stopped, cls⟩]
    exact State.queueNotice_mem more ..

/-- A trip kind held already leaves the fault list alone. -/
theorem State.tripFaults_held (held : s.run.tripKind ≠ none) : s.tripFaults = s.faults := by
  obtain ⟨k, held⟩ := Option.ne_none_iff_exists'.1 held
  unfold State.tripFaults
  rw [held]

/-- The stored trip kind placed behind the records held, where none is its own and there is room. -/
theorem State.tripFaults_placed (absent : s.run.tripKind = none) {k : FaultKind} (trip : s.store.record.tripKind = some k)
    (room : s.faults.records.length < 32) (fresh : ∀ e ∈ s.faults.records, e.key ≠ (k, none)) :
    s.tripFaults = { s.faults with records := s.faults.records ++ returnedRecords s.store.record .tripped } := by
  have none : (s.faultRecord k Option.none).isNone = true ∧ s.faults.records.length < 32 :=
    ⟨Option.isNone_iff_eq_none.2 (State.faultRecord_eq_none.2 fresh), room⟩
  unfold State.tripFaults
  rw [absent, trip]
  dsimp only
  unfold State.restoreTrip
  rw [if_pos none, returnedRecords_tripped trip]
  cases s.store.record.captured <;> rfl

/-! ### The obligation -/

theorem State.gains_of_holds {subject : Subject} {data : NoticeData}
    (held : s.panel.notices.length < 30 → t.holds subject data) : t.transmit.gains s subject data :=
  State.gains_transmit held

/-- Settles O59: an assertion is an entry to POWER_WAIT from the captured part (`State.powerLost`), and a return an entry to
the state of the table of R177 (`State.powerReturn_eq`). -/
theorem powerFailAndReturn : Obligations.PowerFailAndReturn := by
  constructor
  · intro s powered given input
    have asserts := exec_powerFailAssert powered given
    refine ⟨fun still => ?_, fun configured supplied => ⟨_, asserts, ?_⟩⟩
    · rw [asserts, State.powerFails_stays (by exact still)]
    obtain ⟨angle, span, panel, written, active⟩ := State.powerFails_written (s := { s with inputs := input })
      configured supplied
    have told : ({ s with inputs := input } : State).powerFails.transmit.gains s .machine (.state .powerWait none) := by
      refine State.gains_of_holds fun room => ?_
      have panel : ({ s with inputs := input } : State).powerLost.panel = s.panel := State.zeroOrders_panel _
      rw [State.powerFails_enters (by exact configured) (by exact supplied)]
      exact (State.enter_holds (by rwa [panel]) ..).1
    rw [State.transmit_frame, written] at told ⊢
    refine ⟨rfl, rfl, rfl, fun k low high => ?_, active, rfl, rfl, rfl, WatchUnit.leaving_entries .., fun n => ?_, told⟩
    · exact State.powerLost_tower { s with inputs := input } low high
    · have aux := s.watch.leaving_aux s.run.mstate .powerWait n
      rw [MState.moving_eq s.run.mstate, show MState.powerWait.moving = false from rfl, Bool.not_false, Bool.and_true] at aux
      exact aux
  · intro s powered lost input r target
    have returns := exec_powerFailDeassert powered lost
    refine ⟨fun elsewhere => ?_, fun waits => ?_⟩
    · rw [returns, State.powerReturns, if_neg (by exact elsewhere)]
    rw [State.powerReturns, if_pos (by exact waits)] at returns
    refine ⟨_, returns, ?_⟩
    obtain ⟨⟨m, pass⟩, table⟩ : ∃ p, landing s.store.record s.store.settings.policy = p := ⟨_, rfl⟩
    have hm := congrArg Prod.fst table
    rw [show target = (m, pass) from table]
    have holds (room : s.panel.notices.length < 30) :=
      State.powerReturn_holds (s := { s with inputs := input }) room hm
    obtain ⟨angle, span, panel, kept, trip, written⟩ := State.powerReturn_written (s := { s with inputs := input }) waits hm
    have state := State.gains_of_holds (s := s) fun room => (holds room).1
    have pending (recovering : m = .recovering) := State.gains_of_holds (s := s) fun room => (holds room).2.1 recovering
    have refused (valid : r.valid = true) (stopped : m = .stopped) (cls : r.cls ≠ .other) :=
      State.gains_of_holds (s := s) fun room => (holds room).2.2 valid stopped cls
    rw [State.transmit_frame, written] at state pending refused ⊢
    refine ⟨rfl, rfl, fun absent none => ?_, fun p given => ?_, rfl, rfl, ?_, ?_, fun free => ?_, ?_, state, refused,
      fun settled => if_neg settled, rfl, rfl, rfl, rfl, rfl⟩
    · rcases State.returning_pass (s := { s with inputs := input }) table with restored | ⟨-, stands⟩
      · exact restored.trans absent
      · exact stands.trans none
    · rcases State.returning_pass (s := { s with inputs := input }) table with restored | ⟨absent, -⟩
      · exact restored.trans given
      · cases absent.symm.trans given
    · rintro rfl
      exact ⟨rfl, pending rfl, rfl⟩
    · rintro rfl
      rfl
    · rcases free with held | other
      · exact (congrArg (ite _ · _) (State.tripFaults_held (s := { s with inputs := input }) held)).trans (ite_self _)
      · exact if_neg other
    · intro k tripped absent trip room fresh
      have placed := State.tripFaults_placed (s := { s with inputs := input }) absent trip room fresh
      rw [returnedRecords_tripped trip] at placed
      exact (if_pos tripped).trans placed

end Sys2Proof.Machine
end


section
/-! SUPPORT. The clock and the command queue (assumption logs 1 and 3; O2). Every operation of the blocks leaves both as they
stand; only an event that says a moment has come carries the clock, and it carries it forward. -/

namespace Sys2Proof.Machine

variable (s : State)

theorem foldl_time {α : Type} {f : State → α → State}
    (h : ∀ (u : State) (a : α), (f u a).pending = u.pending ∧ (f u a).clock = u.clock) (as : List α) :
    (as.foldl f s).pending = s.pending ∧ (as.foldl f s).clock = s.clock := by
  induction as generalizing s with
  | nil => exact ⟨rfl, rfl⟩
  | cons a as ih => exact ⟨(ih (f s a)).1.trans (h s a).1, (ih (f s a)).2.trans (h s a).2⟩

/-! ### Steering a pass (chapter 5) -/

theorem State.takeStop_time {r : PassEnd} {t : State} (h : s.takeStop r = some t) :
    t.pending = s.pending ∧ t.clock = s.clock := by
  unfold State.takeStop at h
  repeat' split at h
  all_goals cases h <;> simp

theorem State.takeReverse_time {t : State} (h : s.takeReverse = some t) :
    t.pending = s.pending ∧ t.clock = s.clock := by
  unfold State.takeReverse at h
  split at h <;> cases h <;> simp

theorem State.takePace_time {v : Nat} {t : State} (h : s.takePace v = some t) :
    t.pending = s.pending ∧ t.clock = s.clock := by
  unfold State.takePace at h
  split at h <;> cases h <;> simp

@[simp] theorem State.passCheck_time (p : Nat) (x : Int) :
    (s.passCheck p x).pending = s.pending ∧ (s.passCheck p x).clock = s.clock := by
  unfold State.passCheck; repeat' split
  all_goals simp

/-! ### The fault list (chapter 8) -/

@[simp] theorem State.changeMode_time (k : FaultKind) (deferred : Bool) :
    (s.changeMode k deferred).pending = s.pending ∧ (s.changeMode k deferred).clock = s.clock := by
  unfold State.changeMode; dsimp only; repeat' split
  all_goals simp [State.freezeHeld]

@[simp] theorem State.warnCheck_time (k a : Nat) :
    (s.warnCheck k a).pending = s.pending ∧ (s.warnCheck k a).clock = s.clock := by
  unfold State.warnCheck; dsimp only; repeat' split
  all_goals simp

@[simp] theorem State.tripCheck_time (k a : Nat) :
    (s.tripCheck k a).pending = s.pending ∧ (s.tripCheck k a).clock = s.clock := by
  unfold State.tripCheck; dsimp only; repeat' split
  all_goals simp

@[simp] theorem State.switchCheck_time (k : Nat) (r : Report) :
    (s.switchCheck k r).pending = s.pending ∧ (s.switchCheck k r).clock = s.clock := by
  unfold State.switchCheck; split <;> simp

@[simp] theorem State.faultExamine_time (k : Nat) (r : Report) :
    (s.faultExamine k r).pending = s.pending ∧ (s.faultExamine k r).clock = s.clock := by
  unfold State.faultExamine; dsimp only; split <;> simp

/-! ### The sector table (chapter 6) and the watch unit (chapter 7) at a sample -/

@[simp] theorem State.approachCheck_time (d : Direction) (q : Nat) :
    (s.approachCheck d q).pending = s.pending ∧ (s.approachCheck d q).clock = s.clock := by
  have act (u : State) (c : Sector) : (u.barrierAct c).pending = u.pending ∧ (u.barrierAct c).clock = u.clock := by
    unfold State.barrierAct; split <;> simp
  unfold State.approachCheck; repeat' split
  all_goals simp [act]

@[simp] theorem State.sectorSample_time (d : Option Direction) (q : Nat) :
    (s.sectorSample d q).pending = s.pending ∧ (s.sectorSample d q).clock = s.clock := by
  have overrun (u : State) : (u.overrunCheck q).pending = u.pending ∧ (u.overrunCheck q).clock = u.clock := by
    unfold State.overrunCheck; split <;> simp
  unfold State.sectorSample; dsimp only; split <;> simp [overrun]

@[simp] theorem State.watchAct_time (a : WatchAction) :
    (s.watchAct a).1.pending = s.pending ∧ (s.watchAct a).1.clock = s.clock := by
  have taken (o : Option State) (h : ∀ t, o = some t → t.pending = s.pending ∧ t.clock = s.clock) :
      (s.orRefused o).1.pending = s.pending ∧ (s.orRefused o).1.clock = s.clock := by
    cases o with
    | none => exact ⟨rfl, rfl⟩
    | some t => exact h t rfl
  cases a with
  | stop => exact taken _ fun t => s.takeStop_time
  | reverse => exact taken _ fun t => s.takeReverse_time
  | pace v => exact taken _ fun t => s.takePace_time
  | notice | auxOn n | auxOff n => exact ⟨rfl, rfl⟩

@[simp] theorem State.watchSample_time (p q : Nat) (x : Int) :
    (s.watchSample p q x).pending = s.pending ∧ (s.watchSample p q x).clock = s.clock := by
  have test (n : Nat) (d : Direction) (u : State) (c : Crossing) :
      (State.testCrossing n d u c).pending = u.pending ∧ (State.testCrossing n d u c).clock = u.clock := by
    unfold State.testCrossing; dsimp only; split <;> simp [State.fire]
  unfold State.watchSample; split
  · exact ⟨rfl, rfl⟩
  · exact foldl_time s (fun u n => foldl_time u (test n _) _) _

/-! ### The angle unit (chapter 2) -/

@[simp] theorem State.pivotDrift_time (x : Option Int) (q : Nat) :
    (s.pivotDrift x q).pending = s.pending ∧ (s.pivotDrift x q).clock = s.clock := by
  unfold State.pivotDrift; dsimp only; repeat' split
  all_goals simp

@[simp] theorem State.handOver_time (o : SampleOrder) (d : Direction) (p q : Nat) (x : Int) :
    (s.handOver o d p q x).pending = s.pending ∧ (s.handOver o d p q x).clock = s.clock := by
  cases o <;> simp [State.handOver]

@[simp] theorem State.invalidSample_time :
    s.invalidSample.pending = s.pending ∧ s.invalidSample.clock = s.clock := by
  unfold State.invalidSample; dsimp only; split <;> simp

@[simp] theorem State.takeSample_time (q : Nat) (e : Bool) (o : SampleOrder) :
    (s.takeSample q e o).pending = s.pending ∧ (s.takeSample q e o).clock = s.clock := by
  have valid : (s.validSample q o).pending = s.pending ∧ (s.validSample q o).clock = s.clock := by
    unfold State.validSample; dsimp only; split <;> simp
  unfold State.takeSample; split
  · exact valid
  · simp

@[simp] theorem State.readCompletes_time (q : Nat) (e : Bool) (o : SampleOrder) :
    (s.readCompletes q e o).pending = s.pending ∧ (s.readCompletes q e o).clock = s.clock := by
  unfold State.readCompletes; split <;> simp

@[simp] theorem State.slipExamine_time (k : Nat) (r : Report) :
    (s.slipExamine k r).pending = s.pending ∧ (s.slipExamine k r).clock = s.clock := by
  have closes (w : SlipWindow) :
      (s.closeWindow k w r.wheel).pending = s.pending ∧ (s.closeWindow k w r.wheel).clock = s.clock := by
    unfold State.closeWindow; dsimp only; repeat' split
    all_goals simp
  unfold State.slipExamine; repeat' split
  all_goals simp [closes]

@[simp] theorem State.angleExamine_time (k : Nat) (p : Option Report) (r : Report) :
    (s.angleExamine k p r).1.pending = s.pending ∧ (s.angleExamine k p r).1.clock = s.clock := by
  have stall (u : State) : (u.stallExamine k p r).pending = u.pending ∧ (u.stallExamine k p r).clock = u.clock := by
    unfold State.stallExamine; dsimp only; repeat' split
    all_goals simp
  have halt (u : State) : (u.haltExamine k r).1.pending = u.pending ∧ (u.haltExamine k r).1.clock = u.clock := by
    unfold State.haltExamine; dsimp only; repeat' split
    all_goals simp
  simp [State.angleExamine, stall, halt]

/-! ### The tower table (chapter 1) -/

@[simp] theorem State.applyWrites_time (ws : List FieldWrite) :
    (s.applyWrites ws).pending = s.pending ∧ (s.applyWrites ws).clock = s.clock := by
  have members (u : State) (old : Nat) :
      (u.changeMembers old).pending = u.pending ∧ (u.changeMembers old).clock = u.clock := by
    rw [u.changeMembers_slot]
    exact foldl_time u (f := State.resetMember) (fun _ _ => ⟨rfl, rfl⟩) _
  have applied (u : State) := foldl_time u (f := State.fieldApplied) (by simp) ws
  have agreed (u : State) := foldl_time u (f := State.agreeMisses) (by simp)
  unfold State.applyWrites
  dsimp only
  rw [(applied _).1, (applied _).2]
  repeat' split
  all_goals simp [members, agreed]

@[simp] theorem State.applyPending_time :
    s.applyPending.pending = s.pending ∧ s.applyPending.clock = s.clock := by simp [State.applyPending]

@[simp] theorem State.takeWrite_time (ws : List FieldWrite) (stray : Bool) (consistent : State → Bool) :
    (s.takeWrite ws stray consistent).1.pending = s.pending ∧ (s.takeWrite ws stray consistent).1.clock = s.clock := by
  have settles (u : State) : u.settleCompleteness.pending = u.pending ∧ u.settleCompleteness.clock = u.clock := by
    unfold State.settleCompleteness; dsimp only; repeat' split
    all_goals simp
  unfold State.takeWrite State.applyOrStage; repeat' split
  all_goals simp [settles]

/-! ### The span line (chapter 4) -/

@[simp] theorem State.spanByte_time (b : Byte) :
    (s.spanByte b).pending = s.pending ∧ (s.spanByte b).clock = s.clock := by
  have judges (u : State) (kind : SlotKind) (d : TowerDynamic) (r : Report) (drift : Bool) :
      (u.judgeReport kind d r drift).pending = u.pending ∧ (u.judgeReport kind d r drift).clock = u.clock := by
    unfold State.judgeReport; repeat' split
    all_goals simp
  have takes (u : State) (kind : SlotKind) (k : Nat) (f : ReportFrame) :
      (u.takeReport kind k f).pending = u.pending ∧ (u.takeReport kind k f).clock = u.clock := by
    unfold State.takeReport; dsimp only; repeat' split
    all_goals simp [judges]
  have examines (u : State) (f : ReportFrame) :
      (u.examineReport f).pending = u.pending ∧ (u.examineReport f).clock = u.clock := by
    unfold State.examineReport; repeat' split
    all_goals simp [takes]
  unfold State.spanByte; dsimp only; repeat' split
  all_goals simp [examines]

@[simp] theorem State.spanFrameEnds_time :
    s.spanFrameEnds.pending = s.pending ∧ s.spanFrameEnds.clock = s.clock := by
  unfold State.spanFrameEnds; repeat' split
  all_goals simp

@[simp] theorem State.afterSlot_time (sl : Slot) :
    (s.afterSlot sl).pending = s.pending ∧ (s.afterSlot sl).clock = s.clock := by
  unfold State.afterSlot; dsimp only; repeat' split
  all_goals simp

/-! ### The order engine (chapter 3) -/

@[simp] theorem State.handSet_time (os : OrderSet) :
    (s.handSet os).pending = s.pending ∧ (s.handSet os).clock = s.clock := by
  have orders := foldl_time s (f := fun u p => u.setDyn p.1 fun d => d.takeOrder p.2 os.direction)
    (fun _ _ => ⟨rfl, rfl⟩) os.orders
  unfold State.handSet; dsimp only; split
  all_goals simpa using orders

/-! ### The store, power and the resets (chapter 10) -/

@[simp] theorem State.takeStoreConfig_time (pr po : Byte) (d t : U16) :
    (s.takeStoreConfig pr po d t).1.pending = s.pending ∧ (s.takeStoreConfig pr po d t).1.clock = s.clock := by
  unfold State.takeStoreConfig; dsimp only; repeat' split
  all_goals simp

@[simp] theorem State.writeCompletes_time (verified : Bool) :
    (s.writeCompletes verified).pending = s.pending ∧ (s.writeCompletes verified).clock = s.clock := by
  unfold State.writeCompletes; dsimp only; split <;> simp

@[simp] theorem State.powerFails_time : s.powerFails.pending = s.pending ∧ s.powerFails.clock = s.clock := by
  unfold State.powerFails; dsimp only; split <;> simp

@[simp] theorem State.powerReturn_time (announce : Bool) :
    (s.powerReturn announce).pending = s.pending ∧ (s.powerReturn announce).clock = s.clock := by
  have restore (k : FaultKind) : (s.restoreTrip k).pending = s.pending ∧ (s.restoreTrip k).clock = s.clock := by
    unfold State.restoreTrip; dsimp only; split <;> simp
  unfold State.powerReturn; dsimp only; repeat' split
  all_goals simp [restore]

@[simp] theorem State.powerReturns_time : s.powerReturns.pending = s.pending ∧ s.powerReturns.clock = s.clock := by
  unfold State.powerReturns; split <;> simp

@[simp] theorem State.resetPart_time (device : Bool) :
    (s.resetPart device).pending = s.pending ∧ (s.resetPart device).clock = s.clock := by
  have fresh (u : State) : u.fresh.pending = u.pending ∧ u.fresh.clock = u.clock := ⟨rfl, rfl⟩
  have timers (u : State) : u.startTimers.pending = u.pending ∧ u.startTimers.clock = u.clock := ⟨rfl, rfl⟩
  have decided (u : State) : u.decide.pending = u.pending ∧ u.decide.clock = u.clock := by
    unfold State.decide State.stoppedAtReset; dsimp only; repeat' split
    all_goals simp
  unfold State.resetPart; dsimp only; split
  all_goals simp [fresh, timers, decided]

@[simp] theorem State.deviceReset_time : s.deviceReset.pending = s.pending ∧ s.deviceReset.clock = s.clock := by
  simp [State.deviceReset]

/-! ### The panel port (chapter 9) -/

/-- The run requests answer through `runCheck`. -/
theorem State.runCheck_time {taken : Option (State × Answer)}
    (h : ∀ p, taken = some p → p.1.pending = s.pending ∧ p.1.clock = s.clock) :
    (s.runCheck taken).1.pending = s.pending ∧ (s.runCheck taken).1.clock = s.clock := by
  unfold State.runCheck
  split
  · exact ⟨rfl, rfl⟩
  · cases taken with
    | none => exact ⟨rfl, rfl⟩
    | some p => exact h p rfl

theorem State.runCheck_map_time {taken : Option State} {answer : State → Answer}
    (h : ∀ t, taken = some t → t.pending = s.pending ∧ t.clock = s.clock) :
    (s.runCheck (taken.map fun t => (t, answer t))).1.pending = s.pending ∧
      (s.runCheck (taken.map fun t => (t, answer t))).1.clock = s.clock := by
  refine s.runCheck_time fun p hp => ?_
  obtain ⟨t, ht, rfl⟩ := Option.map_eq_some_iff.1 hp
  exact h t ht

theorem State.takeStartPass_time (d : Byte) (p : U16) (pr : Byte) (sa : U16) (c : Byte) :
    (s.takeStartPass d p pr sa c).1.pending = s.pending ∧ (s.takeStartPass d p pr sa c).1.clock = s.clock := by
  refine s.runCheck_time fun q hq => ?_
  dsimp only at hq
  repeat' split at hq
  all_goals cases hq <;> simp

theorem State.serve_time (wake : Bool) (r : Request) :
    (s.serve wake r).1.pending = s.pending ∧ (s.serve wake r).1.clock = s.clock := by
  cases r with
  | configMachine p vs =>
    change (s.takeConfigMachine p vs).1.pending = _ ∧ (s.takeConfigMachine p vs).1.clock = _
    simp [State.takeConfigMachine]
  | configTower k p vs =>
    change (s.takeConfigTower k p vs).1.pending = _ ∧ (s.takeConfigTower k p vs).1.clock = _
    unfold State.takeConfigTower
    dsimp only
    split <;> simp
  | storeConfig pr po d t => exact s.takeStoreConfig_time ..
  | startPass d p pr sa c => exact s.takeStartPass_time ..
  | setPace p => exact s.runCheck_map_time fun t => s.takePace_time
  | stopPass => exact s.runCheck_map_time fun t => s.takeStop_time
  | reverse => exact s.runCheck_map_time fun t => s.takeReverse_time
  | hold | resume | tripReset =>
    refine s.runCheck_time fun q hq => ?_
    repeat' split at hq
    all_goals cases hq <;> simp
  | setSectors m es =>
    change (s.takeSetSectors m es).1.pending = _ ∧ (s.takeSetSectors m es).1.clock = _
    unfold State.takeSetSectors
    dsimp only
    repeat' split
    all_goals exact ⟨rfl, rfl⟩
  | setFaultMode k m =>
    change (s.takeSetFaultMode k m).1.pending = _ ∧ (s.takeSetFaultMode k m).1.clock = _
    unfold State.takeSetFaultMode
    repeat' split
    all_goals simp
  | faultClear sel k t =>
    change (s.takeFaultClear sel k t).1.pending = _ ∧ (s.takeFaultClear sel k t).1.clock = _
    unfold State.takeFaultClear
    split <;> simp
  | setWatch n en r w d c st a g rp =>
    change (s.takeSetWatch n en r w d c st a g rp).1.pending = _ ∧ (s.takeSetWatch n en r w d c st a g rp).1.clock = _
    unfold State.takeSetWatch
    dsimp only
    repeat' split
    all_goals exact ⟨rfl, rfl⟩
  | setAux o m =>
    change (s.takeSetAux o m).1.pending = _ ∧ (s.takeSetAux o m).1.clock = _
    unfold State.takeSetAux
    dsimp only
    repeat' split
    all_goals exact ⟨rfl, rfl⟩
  | setNoticePriority k p =>
    change (s.takeSetNoticePriority k p).1.pending = _ ∧ (s.takeSetNoticePriority k p).1.clock = _
    unfold State.takeSetNoticePriority
    repeat' split
    all_goals exact ⟨rfl, rfl⟩
  | setNoticeMask l =>
    change (s.takeSetNoticeMask l).1.pending = _ ∧ (s.takeSetNoticeMask l).1.clock = _
    unfold State.takeSetNoticeMask
    split <;> exact ⟨rfl, rfl⟩
  | noticeFetch =>
    change s.takeNoticeFetch.1.pending = _ ∧ s.takeNoticeFetch.1.clock = _
    unfold State.takeNoticeFetch
    dsimp only
    split <;> exact ⟨rfl, rfl⟩
  | setWakeFilter n u k sub p =>
    change (s.takeSetWakeFilter n u k sub p).1.pending = _ ∧ (s.takeSetWakeFilter n u k sub p).1.clock = _
    unfold State.takeSetWakeFilter
    dsimp only
    repeat' split
    all_goals exact ⟨rfl, rfl⟩
  | readTower k =>
    obtain ⟨kept, -⟩ := State.otherRequests_core (s := s)
    exact ⟨congrArg _ (kept k), congrArg _ (kept k)⟩
  | readSectors c n =>
    obtain ⟨-, -, -, kept, -⟩ := State.otherRequests_core (s := s)
    exact ⟨congrArg _ (kept c n), congrArg _ (kept c n)⟩
  | faultList p =>
    obtain ⟨-, -, -, -, -, -, kept, -⟩ := State.otherRequests_core (s := s)
    exact ⟨congrArg _ (kept p), congrArg _ (kept p)⟩
  | readMachine | readWatches | resetDevice | panelSleep | panelAwake | readPort | unknown | badLength => exact ⟨rfl, rfl⟩

@[simp] theorem State.take_time (f : PanelFrame) :
    (s.take f).pending = s.pending ∧ (s.take f).clock = s.clock := by
  obtain ⟨pending, clock⟩ := (s.noteTaken (parseRequest f)).serve_time s.panel.wakeLine (parseRequest f)
  exact ⟨pending.trans (State.noteTaken_pending ..), clock.trans (State.noteTaken_clock ..)⟩

@[simp] theorem State.arrive_time (f : PanelFrame) :
    (s.arrive f).pending = s.pending ∧ (s.arrive f).clock = s.clock := by
  unfold State.arrive; repeat' split
  all_goals simp

@[simp] theorem State.submitFrame_time (f : PanelFrame) :
    (s.submitFrame f).pending = s.pending ∧ (s.submitFrame f).clock = s.clock := by
  unfold State.submitFrame; split <;> simp

@[simp] theorem State.panelByte_time (b : Byte) :
    (s.panelByte b).pending = s.pending ∧ (s.panelByte b).clock = s.clock := by
  unfold State.panelByte; dsimp only; split <;> simp

@[simp] theorem State.replyEnds_time : s.replyEnds.pending = s.pending ∧ s.replyEnds.clock = s.clock := by
  have next (u : State) : u.takeNext.pending = u.pending ∧ u.takeNext.clock = u.clock := by
    unfold State.takeNext; split <;> simp
  unfold State.replyEnds; repeat' split
  all_goals simp [next]

@[simp] theorem State.noticeEnds_time : s.noticeEnds.pending = s.pending ∧ s.noticeEnds.clock = s.clock := by
  unfold State.noticeEnds; split <;> simp

end Sys2Proof.Machine
end

section
/-! SUPPORT. What a command may do to the clock and the queue, and the commands of a part without supply (O2). -/

namespace Sys2Proof.Machine

/-- The queue stands, and the clock is not turned back. -/
def State.onward (s t : State) : Prop := t.pending = s.pending ∧ s.clock ≤ t.clock

variable {s t : State}

theorem State.onward_of_time (h : t.pending = s.pending ∧ t.clock = s.clock) : s.onward t := ⟨h.1, h.2.ge⟩

@[simp] theorem State.runTo_clock (n : Nat) : (s.runTo n).clock = max s.clock n := rfl

@[simp] theorem State.runOut_clock (x : Timer) : (s.runOut x).clock = max s.clock (x.startedAt + x.length) := rfl

/-! ### The expiries, which carry the clock -/

theorem State.onward_silenceExpires : s.onward s.silenceExpires := by
  unfold State.silenceExpires; dsimp only; repeat' split
  all_goals simp [State.onward]

theorem State.onward_intervalExpires : s.onward s.intervalExpires := by
  unfold State.intervalExpires; repeat' split
  all_goals simp [State.onward]

theorem State.onward_slotEnds : s.onward s.slotEnds := by
  unfold State.slotEnds; repeat' split
  all_goals simp [State.onward]

theorem State.onward_windowExpires : s.onward s.windowExpires := by
  unfold State.windowExpires; dsimp only; repeat' split
  all_goals simp [State.onward]

theorem State.onward_quietExpires : s.onward s.quietExpires := by
  unfold State.quietExpires; repeat' split
  all_goals simp [State.onward]

theorem State.onward_surveyExpires : s.onward s.surveyExpires := by
  unfold State.surveyExpires; dsimp only; repeat' split
  all_goals simp [State.onward]

theorem State.onward_stallTimerExpires (k : Nat) : s.onward (s.stallTimerExpires k) := by
  unfold State.stallTimerExpires; repeat' split
  all_goals simp [State.onward]

theorem State.onward_readTimesOut : s.onward s.readTimesOut := by
  unfold State.readTimesOut; repeat' split
  all_goals simp [State.onward]

theorem State.onward_sampleTimerExpires : s.onward s.sampleTimerExpires := by
  simp [State.onward, State.sampleTimerExpires]

theorem State.onward_prestartExpires : s.onward s.prestartExpires := by
  unfold State.prestartExpires; repeat' split
  all_goals simp [State.onward]

theorem State.onward_startFails : s.onward s.startFails := by
  unfold State.startFails; dsimp only; repeat' split
  all_goals simp [State.onward]

theorem State.onward_stopTimesOut : s.onward s.stopTimesOut := by
  unfold State.stopTimesOut; repeat' split
  all_goals simp [State.onward]

theorem State.onward_recoveryExpires : s.onward s.recoveryExpires := by
  unfold State.recoveryExpires; dsimp only; repeat' split
  all_goals simp [State.onward]

/-! ### Every command -/

/-- A command that the part answers by an event: at once where the level it gives is the one read already, else as an event
on the state with the levels of the sense inputs that it leaves. -/
def answersByEvent (c : Instr) (s : State) : Prop :=
  exec c s = .next s ∨
    ∃ (i : Inputs) (f : State → State), (∀ u : State, u.onward (f u)) ∧ exec c s = event f { s with inputs := i }

theorem answersByEvent_of_event {c : Instr} {f : State → State} (h : exec c s = event f s)
    (kept : ∀ u : State, u.onward (f u)) : answersByEvent c s := .inr ⟨s.inputs, f, kept, h⟩

theorem answersByEvent_of_time {c : Instr} {f : State → State} (h : exec c s = event f s)
    (kept : ∀ u : State, (f u).pending = u.pending ∧ (f u).clock = u.clock) : answersByEvent c s :=
  .inr ⟨s.inputs, f, fun u => State.onward_of_time (kept u), h⟩

/-- Every command but a power-on reset and a loss of supply is an event. -/
theorem answersByEvent_of_ne (c : Instr) (s : State) (loss : c ≠ .supplyLoss) (reset : ∀ b, c ≠ .powerOnReset b) :
    answersByEvent c s := by
  cases frame : c.frame with
  | some f => exact answersByEvent_of_time (exec_of_frame frame s) fun u => u.submitFrame_time f
  | none =>
    cases c with
    | panelFrameComplete bytes =>
      exact answersByEvent_of_time (f := fun s => bytes.foldl State.panelByte s) rfl fun u =>
        foldl_time u (fun _ b => State.panelByte_time _ b) bytes
    | panelFrameGap b =>
      exact answersByEvent_of_time (f := fun s => ({ s with panel := { s.panel with rx := [] } } : State).panelByte b) rfl
        fun u => State.panelByte_time _ b
    | panelFrameLengthAbove120 b =>
      refine answersByEvent_of_time (f := fun s => if s.panel.rx.length = 1 ∧ 120 < b.toNat then s.panelByte b else s) rfl
        fun u => ?_
      split <;> simp
    | replySent => exact answersByEvent_of_time rfl State.replyEnds_time
    | noticeFrameSent => exact answersByEvent_of_time rfl State.noticeEnds_time
    | panelSilenceExpiry => exact answersByEvent_of_event rfl fun _ => State.onward_silenceExpires
    | driveIntervalExpiry => exact answersByEvent_of_event rfl fun _ => State.onward_intervalExpires
    | slotEnd => exact answersByEvent_of_event rfl fun _ => State.onward_slotEnds
    | spanFrameSent => exact answersByEvent_of_time rfl State.spanFrameEnds_time
    | quietTimerExpiry => exact answersByEvent_of_event rfl fun _ => State.onward_quietExpires
    | surveyTimerExpiry => exact answersByEvent_of_event rfl fun _ => State.onward_surveyExpires
    | replyWindowExpiry => exact answersByEvent_of_event rfl fun _ => State.onward_windowExpires
    | reportReceived bytes =>
      exact answersByEvent_of_time (f := fun s => bytes.foldl State.spanByte s) rfl fun u =>
        foldl_time u (fun _ b => State.spanByte_time _ b) bytes
    | spanFrameGap b =>
      exact answersByEvent_of_time (f := fun s => ({ s with span := { s.span with rx := [] } } : State).spanByte b) rfl
        fun u => State.spanByte_time _ b
    | spanFrameKindNotReport b =>
      refine answersByEvent_of_time (f := fun s => if s.span.rx.length = 2 ∧ b ≠ reportKind then s.spanByte b else s) rfl
        fun u => ?_
      split <;> simp
    | stallTimerExpiry k => exact answersByEvent_of_event rfl fun _ => State.onward_stallTimerExpires k
    | sampleTimerExpiry => exact answersByEvent_of_event rfl fun _ => State.onward_sampleTimerExpires
    | encoderReadComplete q e o => exact answersByEvent_of_time rfl fun u => u.readCompletes_time q e o
    | encoderReadTimeout => exact answersByEvent_of_event rfl fun _ => State.onward_readTimesOut
    | prestartTimerExpiry => exact answersByEvent_of_event rfl fun _ => State.onward_prestartExpires
    | startFailTimerExpiry => exact answersByEvent_of_event rfl fun _ => State.onward_startFails
    | stopTimerExpiry => exact answersByEvent_of_event rfl fun _ => State.onward_stopTimesOut
    | recoveryTimerExpiry => exact answersByEvent_of_event rfl fun _ => State.onward_recoveryExpires
    | chainSenseChange closed =>
      by_cases same : s.inputs.chainClosed = closed
      · exact .inl (if_pos same)
      · exact .inr ⟨_, State.chainChanged, fun u => State.onward_of_time (by simp), if_neg same⟩
    | powerFailAssert =>
      by_cases same : s.inputs.powerFail = true
      · exact .inl (if_pos same)
      · exact .inr ⟨_, State.powerFails, fun u => State.onward_of_time (by simp), if_neg same⟩
    | powerFailDeassert =>
      by_cases asserted : s.inputs.powerFail = true
      · exact .inr ⟨_, State.powerReturns, fun u => State.onward_of_time (by simp), if_pos asserted⟩
      · exact .inl (if_neg asserted)
    | powerOnReset check => exact absurd rfl (reset check)
    | deviceReset => exact answersByEvent_of_time rfl State.deviceReset_time
    | supplyLoss => exact absurd rfl loss
    | storeWriteComplete verified => exact answersByEvent_of_time rfl fun u => u.writeCompletes_time verified
    | _ => cases frame

theorem answersByEvent.answers {c : Instr} (h : answersByEvent c s) : ∃ t, exec c s = .next t ∧ s.onward t := by
  obtain same | ⟨i, f, kept, answer⟩ := h
  · exact ⟨s, same, rfl, le_rfl⟩
  · refine ⟨_, answer, ?_⟩
    obtain ⟨pending, clock⟩ := kept { s with inputs := i }
    split
    · exact ⟨(State.transmit_pending _).trans pending, clock.trans_eq (State.transmit_clock _).symm⟩
    · exact ⟨rfl, le_rfl⟩

/-- Without supply no event happens (R173). -/
theorem answersByEvent.stands {c : Instr} (h : answersByEvent c s) (dark : s.powered = false) :
    ∃ t, exec c s = .next t ∧ t = { s with inputs := t.inputs } := by
  obtain same | ⟨i, f, -, answer⟩ := h
  · exact ⟨s, same, rfl⟩
  · refine ⟨{ s with inputs := i }, answer.trans (congrArg _ (if_neg ?_)), rfl⟩
    simp [dark]

theorem exec_powerOnReset_onward (check : Bool) (s : State) :
    ∃ t, exec (.powerOnReset check) s = .next t ∧ s.onward t := by
  refine ⟨_, rfl, State.onward_of_time ?_⟩
  cases check <;> simp

theorem exec_supplyLoss_onward (s : State) : ∃ t, exec .supplyLoss s = .next t ∧ s.onward t :=
  ⟨_, rfl, s.loseWrite_pending, s.loseWrite_clock.ge⟩

/-- Every command answers a next state with the queue as it stood and the clock not turned back. -/
theorem exec_onward (c : Instr) (s : State) : ∃ t, exec c s = .next t ∧ s.onward t := by
  by_cases loss : c = .supplyLoss
  · exact loss ▸ exec_supplyLoss_onward s
  · by_cases reset : ∃ b, c = .powerOnReset b
    · obtain ⟨check, rfl⟩ := reset
      exact exec_powerOnReset_onward check s
    · exact (answersByEvent_of_ne c s loss (not_exists.1 reset)).answers

/-- A loss of supply stops the part where it stands, and a write in progress leaves a stored copy whose check fails (R173). -/
theorem exec_supplyLoss_eq (s : State) :
    (s.store.writing = none → exec .supplyLoss s = .next { s with powered := false }) ∧
    (∀ i, s.store.writing = some i → exec .supplyLoss s =
      .next { s with powered := false, store := { s.store with writing := none, stored := .failing } }) := by
  have answer : exec .supplyLoss s = .next { s.loseWrite with powered := false } := rfl
  refine ⟨fun idle => ?_, fun i writing => ?_⟩
  · rw [answer, State.loseWrite, if_neg (by simp [idle])]
  · rw [answer, State.loseWrite, if_pos (by simp [writing])]

/-- Settles O2: all commands but a power-on reset and a loss of supply are events (`answersByEvent_of_ne`), which move the
clock forward alone and do not happen without supply. -/
theorem everyCommandAnswersANextState : Obligations.EveryCommandAnswersANextState :=
  ⟨exec_onward, fun c s dark loss reset => (answersByEvent_of_ne c s loss reset).stands dark, exec_supplyLoss_eq⟩

end Sys2Proof.Machine
end

section
/-! SUPPORT. The step, by the queue it finds (O1), and the requests of chapter 11: the bytes of a request's frame are read as that
frame, and the frame says the request again (O11). -/

namespace Sys2Proof.Machine

variable {s : State}

/-! ### The step -/

theorem step_of_pending {c : Instr} {rest : List Instr} (waiting : s.pending = c :: rest) :
    step s = exec c { s with pending := rest } := by
  unfold step
  rw [waiting]

theorem step_idle (idle : s.pending = []) : step s = .next s.tick := by
  unfold step
  rw [idle]

/-- Settles O1: by the queue, empty or with a command at its front. -/
theorem stepTakesTheFrontCommand : Obligations.StepTakesTheFrontCommand :=
  ⟨fun _ _ _ => step_of_pending rfl, fun _ idle => step_idle idle⟩

/-! ### Requests read back (11.4, R183) -/

theorem parseRequest_setWatch (entry enabled : Byte) (ref halfWidth : U16) (direction crossing mstate action : Byte) (arg : U16)
    (rept : Byte) :
    parseRequest (frameOf (.setWatch entry enabled ref halfWidth direction crossing mstate action arg rept)) =
      .setWatch entry enabled ref halfWidth direction crossing mstate action arg rept := by
  change Request.setWatch entry enabled (u16 (loByte ref) (hiByte ref)) (u16 (loByte halfWidth) (hiByte halfWidth)) direction
    crossing mstate action (u16 (loByte arg) (hiByte arg)) rept = _
  simp only [u16_loByte_hiByte]

/-- No request of the catalogue has a payload of 120 bytes. Only CONFIG_MACHINE takes a count of values to see it: 59 of them
behind a presence word 0. Those of CONFIG_TOWER end in half a value, and those of SET_SECTORS in part of an entry. -/
theorem parseRequest_badLength {type : Byte} (listed : type.toNat ∈ catalogue) :
    parseRequest (frameOf (.badLength type)) = .badLength type := by
  have uncounted : (List.replicate 59 (0 : U16)).length ≠ bitsSet (u16 0 0) := by decide
  unfold parseRequest
  dsimp only [frameOf]
  split
  case h_1 => exact if_neg uncounted
  case h_29 => simp_all [catalogue]
  all_goals rfl

/-- The frame of a request says the request again: word by word, value by value and entry by entry where its payload has
those, and by its bytes alone otherwise. -/
theorem parseRequest_frameOf {r : Request} (fits : r.fits = true) : parseRequest (frameOf r) = r := by
  cases r with
  | configMachine presence values => exact parseRequest_configMachine (by simpa [Request.fits] using fits)
  | configTower tower presence values => exact parseRequest_configTower (by simpa [Request.fits] using fits)
  | startPass direction pace presence stopAngle circles => exact parseRequest_startPass direction pace presence stopAngle circles
  | setPace pace => exact parseRequest_setPace pace
  | setSectors marks entries => exact parseRequest_setSectors (by simpa [Request.fits] using fits)
  | setWatch entry enabled ref halfWidth direction crossing mstate action arg rept => exact parseRequest_setWatch ..
  | storeConfig presence policy delay tolerance => exact parseRequest_storeConfig presence policy delay tolerance
  | unknown type => exact parseRequest_unlisted (f := ⟨type, []⟩) (by simpa [Request.fits] using fits)
  | badLength type => exact parseRequest_badLength (by simpa [Request.fits] using fits)
  | _ => rfl

/-! ### Frames read back (11.3, R181) -/

theorem panelFrameOf_panelFrameBytes (f : PanelFrame) : panelFrameOf (panelFrameBytes f) = some f :=
  (panelFrameOf_body f (crc16 f.body)).trans (if_pos rfl)

/-- Settles O11: the bytes are read as the frame, and the frame as the request. -/
theorem requestFramesSayTheirRequest : Obligations.RequestFramesSayTheirRequest := by
  intro r fits
  rw [panelFrameOf_panelFrameBytes, Option.map_some, parseRequest_frameOf fits]

end Sys2Proof.Machine
end
